-- ==== Sys2Proof/Word.lean ====
section
/-! DEFINITION. The plain value types: bytes, words as the dictionary types them, instants and durations. -/

namespace Sys2Proof

/-- One byte on the wire (R276). -/
abbrev Byte := BitVec 8

/-- An instant of module time in units of 2^-16 ns since the 1588 epoch, the resolution of TIME64 (R23). -/
abbrev Instant := Nat

/-- A signed offset in units of 2^-16 ns, as OD 1300h.04 OFFSET_LAST counts it (R44). -/
abbrev Offset := Int

/-- Units of `Instant` in one nanosecond (R23). -/
abbrev unitsPerNs : Nat := 65536

/-- One frame, 50 us, in nanoseconds (R8). -/
abbrev frameNs : Nat := 50000

/-- One frame in units of `Instant` (R8). -/
abbrev frameUnits : Nat := 3276800000

/-- One second in units of `Instant`. -/
abbrev secondUnits : Nat := 65536000000000

/-- The two management paths: 0 is MGT_A, 1 is MGT_B (R309). -/
abbrev Path := Fin 2

/-- A drive-and-sense die and its die-to-die link (R6). -/
abbrev Die := Fin 4

/-- A coach (R86). -/
abbrev Coach := Fin 36

/-- A tunable element (R6). -/
abbrev Te := Fin 9216

/-- A lane of the packet engine (R6). -/
abbrev Lane := Fin 128

end Sys2Proof
end

