-- ==== Sys2Proof/Syntax.lean ====
section
/-! DEFINITION. The commands of the block: every row of the table of operations and events, with the
operands that come from outside, and the small records some of them carry. -/

namespace Sys2Proof

/-- Source address and UDP port of a datagram (R276, R299). -/
structure NetAddr where
  ip : Nat
  port : Nat
deriving DecidableEq, Repr

/-- The fields of an Announce that the 1588 dataset comparison weighs, in the order in which it weighs them (R26), and its leap flags:
leap61 in bit 0, leap59 in bit 1 (R27). -/
structure PtpDataset where
  priority1 : Nat
  clockClass : Nat
  accuracy : Nat
  variance : Nat
  priority2 : Nat
  identity : Nat
  steps : Nat
  leap : BitVec 2
deriving DecidableEq, Repr

/-- What asserts a fault line: the source, and the loops, lanes or entries that the defining rule names: map slots (R186), queues
(R275), or words of the ingress and egress stores by their keys (R249, R275). `pulse` says that the line drops again after one
collector cycle (R326, R336). -/
structure FaultReport where
  source : Nat
  loops : List Nat
  lanes : List Nat
  items : List Nat
  pulse : Bool
deriving DecidableEq, Repr

/-- What the self-checks of a running boot step found (R366): the key record cannot be recovered, and the objects whose MRAM
record cannot (S02); links that did not come into service, and those that trained at half rate (S04); dark channels (S06);
lanes that failed (S12); and how long the step took. -/
structure BootReport where
  pass : Bool
  keyLost : Bool
  lost : List Nat
  detail : Nat
  failedLinks : BitVec 4
  halfLinks : BitVec 4
  marked : List Nat
  failedLanes : List Nat
  tookMs : Nat
deriving DecidableEq, Repr

/-- The commands the block takes: one constructor for each row of the table of operations and events. -/
inductive Instr where
  /-- FRAME_BOUNDARY (R21). At each 50 µs frame boundary of module time, the module runs its ordered boundary actions: snapshot, RW writes, set swap, gate and timetable steps, then survey time triggers. -/
  | frameBoundary
  /-- CABOOSE (R88). At the start of each frame, a coach runs its caboose: snap-step release, bookkeeping and drift learning. -/
  | caboose (coach : Coach) (cycles : Nat)
  /-- CABOOSE_OVERRUN (R88). At cycle 1,448 an unfinished caboose is stopped, its remaining drift learning is skipped, and the overrun is counted. -/
  | cabooseOverrun (coach : Coach) (learned : Fin 257)
  /-- LOOP_SLOT (R86). At its fixed 92-cycle slot, a loop in Acquire, Locked, Coast or Trim runs its program from instruction 0. -/
  | loopSlot (te : Te)
  /-- SLOT_OVERRUN (R101). A program still running at the end of its slot has its code discarded, and every loop of the coach enters Hold. -/
  | slotOverrun (coach : Coach)
  /-- END (R90). Closes the loop frame and commits the state change decided by NRM, ERR and FEL. -/
  | endLoop (coach : Coach)
  /-- LDM (R90). Loads and corrects the monitor results that the loop uses. -/
  | ldm (coach : Coach)
  /-- NRM (R90). Forms u, ρ and m or the VOA loss, tests usability, and branches when the measurement is not usable. -/
  | nrm (coach : Coach)
  /-- PHS (R90). Maps the normalized ratio through the fringe or null table to the measured value. -/
  | phs (coach : Coach)
  /-- ERR (R90). Forms the scaled, saturated Q15 error. -/
  | err (coach : Coach)
  /-- BIQ (R67). Runs one biquad section of the cascade on V0. -/
  | biq (coach : Coach)
  /-- SAT (R68). Clamps the cascade output to the loop's range and applies back-calculation. -/
  | sat (coach : Coach)
  /-- FFW (R69). Forms the drive code from the drive table and the slope term, with the range and ceiling clamps. -/
  | ffw (coach : Coach)
  /-- PRF (R90). Loads the set-point, advancing a glide profile or adding the trim dither. -/
  | prf (coach : Coach)
  /-- FEL (R76). Checks the following error and advances or resets its timer. -/
  | fel (coach : Coach)
  /-- DTH (R90). In Trim, adds the loop's dither sample to V0. -/
  | dth (coach : Coach)
  /-- CST (R74). Coast step: sets u from the drift model. -/
  | cst (coach : Coach)
  /-- DRV (R90). Stages the code with apply tick B(f + 2), or the last code when samples are missing, or nothing on entry to Hold. -/
  | drv (coach : Coach)
  /-- JMP (R90). Dispatches the target instruction. -/
  | jmp (coach : Coach)
  /-- LOOP_LOCK (R72). After LOCK_FRAMES consecutive loop frames within LOCK_BAND, a loop moves from Acquire to Locked. -/
  | loopLock (te : Te)
  /-- ACQUIRE_TIMEOUT (R73). After ACQ_LIMIT loop frames in Acquire, the loop enters Hold and its die's acquire-timeout source fires. -/
  | acquireTimeout (te : Te)
  /-- FOLLOWING_ERROR_TRIP (R76). When the following-error timer exceeds FE_TIME, the loop enters Hold and the source fires. -/
  | followingErrorTrip (te : Te)
  /-- COAST_EXPIRY (R75). When Coast time passes COAST_LIMIT, COAST_EXPIRED is set and the coast-expired source fires. -/
  | coastExpiry (te : Te)
  /-- LOOP_SATURATION_TIMEOUT (R85). A loop output saturated for more than 1 s fires its source. -/
  | loopSaturationTimeout (te : Te)
  /-- UNOBSERVABLE_TIMEOUT (R85). A lit element unobservable for more than COAST_LIMIT / 2 fires its source. -/
  | unobservableTimeout (te : Te)
  /-- LIT_STATE_CHANGE (R50). After LIT_FRAMES consecutive frames past a threshold, a fabric input changes between lit and unlit. -/
  | litStateChange (input : Fin 512)
  /-- MONITOR_RESULT (R123). A monitor result word arrives over a link and is accepted when its FRAME_TAG matches the frame.
  Channel 9728 + g is the tender of group g. -/
  | monitorResult (channel : Fin 9880) (word : BitVec 32)
  /-- MONITOR_RESULT_MISSING (R14). A result not intact by B(f) + 2.8 µs counts as missing, and the loop keeps its code. -/
  | monitorResultMissing (channel : Fin 9880)
  /-- LINK_SAMPLES_MISSING (R14). After samples from one link are missing in four consecutive frames, every loop of that die enters Hold and the source fires. -/
  | linkSamplesMissing (link : Die)
  /-- STAGING_ENTRY (R111). A staging entry arrives at a drive channel and is queued, replaces an entry, overflows, or is discarded as late or malformed. -/
  | stagingEntry (die : Die) (entry : BitVec 64)
  /-- DEGLITCH_LOAD (R105). At tick − t_dg before a segment-changing code, the channel loads the DAC and holds its output. -/
  | deglitchLoad (te : Te)
  /-- CODE_APPLY (R105). At an entry's apply tick, the channel applies the code, clamped at the ceiling, and counts MOVE_DONE for a LAST step. -/
  | codeApply (te : Te)
  /-- LINK_FLIT_REPLAY (R13). A flit that fails its CRC is resent from the replay buffer. -/
  | linkFlitReplay (link : Die)
  /-- LINK_DOWN (R112). After 20 µs without an intact flit, the die discards its queues, freezes its codes, and its loops enter Hold. -/
  | linkDown (link : Die)
  /-- LINK_RETURN (R16). A link returns to service, and its held loops leave Hold at the next boundary. -/
  | linkReturn (link : Die) (lanes : Fin 5) (half : Bool)
  /-- LINK_RESTORE_SNAP (R16). At least three frames after a link returns, elements that a traverse should have moved take their snap steps to their targets. -/
  | linkRestoreSnap (link : Die)
  /-- PTP_SYNC (R35). A Sync message, with its follow-up, yields an offset measurement that drives the servo, the slew and lock decisions. -/
  | ptpSync (path : Path) (at_ : Nat) (origin : Instant) (correction : Offset)
  /-- PTP_ANNOUNCE (R26). An Announce updates the parent dataset, the source selection and UTC_OFFSET. -/
  | ptpAnnounce (path : Path) (dataset : PtpDataset) (utcOffset : BitVec 16)
  /-- PTP_DELAY_RESP (R27). A Delay_Resp completes an end-to-end delay measurement. -/
  | ptpDelayResp (path : Path) (received : Instant) (correction : Offset)
  /-- PTP_DELAY_REQ_SEND (R27). At its interval, the module sends a Delay_Req or Pdelay_Req. -/
  | ptpDelayReqSend (path : Path)
  /-- PTP_PDELAY_REQ (R27). A received Pdelay_Req is answered with a one-step or two-step Pdelay_Resp. -/
  | ptpPdelayReq (path : Path) (at_ : Nat)
  /-- PTP_PDELAY_RESP (R27). A Pdelay_Resp completes a peer-delay measurement. -/
  | ptpPdelayResp (path : Path) (at_ : Nat) (received sent : Instant) (correction : Offset)
  /-- PTP_UNSUPPORTED_MESSAGE (R27). A received management or signaling message is counted and discarded. -/
  | ptpUnsupportedMessage (path : Path)
  /-- PPS_IN_EDGE (R30). An active PPS_IN edge is time-stamped and is used or ignored as a second marker. -/
  | ppsInEdge (rising : Bool) (at_ : Nat)
  /-- PPS_OUT_RISE (R31). At each whole second, minus PPS_OUT_ADVANCE, PPS_OUT rises according to PPS_OUT_MODE. -/
  | ppsOutRise
  /-- PPS_OUT_FALL (R31). PPS_OUT falls after PPS_OUT_WIDTH. -/
  | ppsOutFall
  /-- LOSS_TIMEOUT (R34). With no valid measurement for LOSS_TIMEOUT, module time enters Holdover and the time-lock source fires. -/
  | lossTimeout
  /-- SLEW_END (R418). A slew removes the last of its offset, which allows Locked. -/
  | slewEnd
  /-- TIME_STEP (R38). At the end of a frame, module time steps by the rounded offset, and scheduled work in the skipped or repeated interval is cancelled or re-placed. -/
  | timeStep
  /-- TIME_SET (R37). A write of TIME_SET is a time-of-day measurement for sources 3 and 4. -/
  | timeSet (path : Path) (value : BitVec 112)
  /-- STEP_ACCEPT (R36). A write of 1 applies the pending step. -/
  | stepAccept (path : Path) (value : BitVec 8)
  /-- TIME_SOURCE_WRITE (R44). A change of TIME_SOURCE moves the time state to Holdover and drops any pending step. -/
  | timeSourceWrite (path : Path) (value : BitVec 8)
  /-- MOTIN_DATAGRAM (R278). A received datagram is checked for length, version, key, tag and replay, then queued, answered from the reply cache, or refused as busy. -/
  | motinDatagram (path : Path) (at_ : Nat) (source : NetAddr) (bytes : List Byte)
  /-- READ (R289). Reads up to 32 objects and replies with their values. -/
  | read (path : Path)
  /-- WRITE (R290). Writes up to 32 objects in order, each standing alone, with optional STOP. -/
  | write (path : Path)
  /-- READ_TABLE (R292). Reads one segment of a table object. -/
  | readTable (path : Path)
  /-- WRITE_TABLE (R294). Writes one segment of a table object in ascending order, stopping at the first refused element. -/
  | writeTable (path : Path)
  /-- COMMIT (R190). Checks and accepts a traverse at T, locks the shadow set, and plans the glide ramp-downs. -/
  | commit (path : Path)
  /-- SNAP (R295). Schedules a snapshot at T. -/
  | snap (path : Path)
  /-- HEARTBEAT (R312). Registers or refreshes a supervisor and replies with its role and the module's status. -/
  | heartbeat (path : Path)
  /-- STATE_DIGEST (R315). Compares a supervisor's digest of the active set with the module's digest. -/
  | stateDigest (path : Path)
  /-- EXPORT (R297). Starts or continues the segmented export of the active set. -/
  | export_ (path : Path)
  /-- TAKEOVER (R319). A live registration claims the active role, to be decided at the end of the frame. -/
  | takeover (path : Path)
  /-- SUBSCRIBE (R299). Adds, removes or lists the event indices of a subscriber. -/
  | subscribe (path : Path)
  /-- ABORT (R298). Removes a queued request of the sender's path, or ends its export. -/
  | abort (path : Path)
  /-- SUBSCRIPTION_LAPSE (R299). A subscription lapses after 60 s without a message from its subscriber. -/
  | subscriptionLapse (subscriber : Fin 8)
  /-- REPLY_CACHE_EXPIRE (R285). A kept reply leaves the cache after its retention time. -/
  | replyCacheExpire (path : Path)
  /-- KEY_WRITE (R282). A write to a key slot, authenticated with slot 0, takes effect after its reply and resets that slot's replay state. -/
  | keyWrite (path : Path) (slot : Fin 4) (value : BitVec 256)
  /-- MGT_ADDRESS_WRITE (R311). A write of a path's IP address, prefix or gateway takes effect after its reply. -/
  | mgtAddressWrite (path : Path) (port : Path) (sub : Nat) (value : Nat)
  /-- REGISTER_WRITE (R287). A write to an object without a row of its own is checked and goes to the shadow set, to the next boundary, or is refused. -/
  | registerWrite (path : Path) (object element value : Nat)
  /-- RAW_WINDOW_WRITE (R304). A raw write is checked as an object write, discarded where nothing decodes, or refused. -/
  | rawWindowWrite (path : Path) (address : BitVec 32) (word : BitVec 32)
  /-- RAW_LOCATE_WRITE (R302). Sets the path's RAW_LOCATE and reports the object's raw address and width. -/
  | rawLocateWrite (path : Path) (value : BitVec 32)
  /-- HOLD_CLEAR (R77). Clears a Hold that needs supervisor action for one TE or for every TE. -/
  | holdClear (path : Path) (value : BitVec 16)
  /-- UCODE_IMAGE_WRITE (R98). Writes image words into the receive buffer, moving the load state to Receiving. -/
  | ucodeImageWrite (path : Path) (element : Nat) (word : BitVec 32)
  /-- LOAD_VERIFY (R98). LOAD_CMD 1 starts verification of the received image. -/
  | loadVerify (path : Path)
  /-- LOAD_VERIFY_ARM (R98). LOAD_CMD 2 starts verification and, on a pass, arms the image. -/
  | loadVerifyArm (path : Path)
  /-- LOAD_ABANDON (R98). LOAD_CMD 3 returns the load state to Idle. -/
  | loadAbandon (path : Path)
  /-- UCODE_VERIFY_END (R98). Verification ends in Idle, Armed or Failed, with LOAD_RESULT and an event. -/
  | ucodeVerifyEnd
  /-- ACTIVATE_AT_WRITE (R99). Sets or reschedules the activation instant of an armed image. -/
  | activateAtWrite (path : Path) (value : BitVec 112)
  /-- OWNER_KEY_WRITE (R97). Writes the owner microcode key while none is set. -/
  | ownerKeyWrite (path : Path) (value : BitVec 512)
  /-- OWNER_KEY_CLEAR (R97). Clears the owner key, in Maintenance only. -/
  | ownerKeyClear (path : Path) (value : BitVec 8)
  /-- CEILING_WRITE (R107). Sets an element's ceiling within its checks, effective at the next boundary. -/
  | ceilingWrite (path : Path) (te : Te) (value : BitVec 32)
  /-- CLEAR_CODE_WRITE (R115). Sets an element's clear code, with nonzero VOA codes refused. -/
  | clearCodeWrite (path : Path) (te : Te) (value : BitVec 32)
  /-- CLEAR_N_ASSERT (R113). CLEAR_N held low forces every channel to its clear code, empties the queues, and parks every loop. -/
  | clearNAssert (widthNs : Nat)
  /-- CLEAR_N_RELEASE (R114). CLEAR_N returns high, leaving elements Parked with restore pending. -/
  | clearNRelease
  /-- HV_OVERVOLTAGE (R357). VDD_HV above 27.5 V makes each die force its channels to clear codes and fires the Critical source. -/
  | hvOvervoltage (dies : BitVec 4)
  /-- ELS_LIGHT_LOSS (R11). An ELS fiber's light fails, so its 16 lanes lose transmit light at once. -/
  | elsLightLoss (fiber : Fin 8)
  /-- SURVEY_SCAN (R128). At each scan instant, each converter converts its due temperature, rail and ELS sources. -/
  | surveyScan
  /-- SURVEY_CONVERSION_DONE (R127). A survey conversion completes, updating its source value, result record, zones, rails or ELS state.
  Converter 8 is the one that the tender calibrates. -/
  | surveyConversionDone (converter : Fin 9) (result : BitVec 24) (ovld clip : Bool)
  /-- SURVEY_CONVERSION_START (R129). A free converter takes its next queued conversion in priority order. -/
  | surveyConversionStart (converter : Fin 9) (at_ : Nat)
  /-- SURVEY_TRIG_EDGE (R132). A SURVEY_TRIG edge is time-stamped and starts, or overruns, the sequences it triggers. -/
  | surveyTrigEdge (rising : Bool) (at_ : Nat)
  /-- SEQ_START (R132). A software START begins a sequence. -/
  | seqStart (path : Path) (seq : Fin 4) (value : BitVec 8)
  /-- SEQ_ENABLE_WRITE (R134). Enables a sequence, or disables it at the next boundary, abandoning unstarted entries. -/
  | seqEnableWrite (path : Path) (seq : Fin 4) (value : BitVec 8)
  /-- INJECT_REQUEST (R137). Starts one injected survey conversion, or drops it. -/
  | injectRequest (path : Path) (value : BitVec 16)
  /-- FRINGE_CAL_CMD (R146). Starts a full fringe calibration in Maintenance. -/
  | fringeCalCmd (path : Path) (value : BitVec 8)
  /-- FRINGE_CAL_END (R149). A full fringe calibration ends, returns elements to clear codes, and reports FRINGE_STATE. `result` and
  `unreached`: the FRINGE_STATE and the UNREACHED that it reports. -/
  | fringeCalEnd (result : BitVec 8) (unreached : Fin 4353)
  /-- CAL_REQUEST (R161). Places a calibration item at the head of its kind's work. -/
  | calRequest (path : Path) (value : BitVec 32)
  /-- TRIM_START (R150). The sequencer puts an eligible Locked element into Trim with a dither bin. -/
  | trimStart (te : Te) (bin : Fin 256)
  /-- TRIM_RUN_END (R152). After 1,024 frames, a trim run is demodulated and paired, and the refinement is accepted or refused.
  The run is named by its dither bin, by the pairs before its own, and by its place in the pair. -/
  | trimRunEnd (te : Te) (bin : Fin 256) (pair : Fin 3) (run : Fin 2)
  /-- MON_SWEEP_START (R161). Every MON_SWEEP_INTERVAL, a monitor sweep of every group starts. -/
  | monSweepStart
  /-- TENDER_OVERLAP_START (R155). A tender measures its open-input offset, then covers a channel for a 256-frame overlap run. -/
  | tenderOverlapStart (group : Fin 152) (channel : Fin 64)
  /-- TENDER_RUN_END (R156). An overlap run ends, its gain and offset are fitted, and a pair is accepted or retried. `run`: the
  first or the second of the pair. -/
  | tenderRunEnd (group : Fin 152) (run : Fin 2)
  /-- SURVEY_CAL_START (R159). Every SURVEY_CAL_INTERVAL, or on request, the survey tender starts to calibrate a converter, deferred past an injected conversion. -/
  | surveyCalStart (converter : Fin 8)
  /-- SURVEY_CAL_END (R159). A survey converter calibration run pair ends and is accepted or retried. `run`: the first or
  the second of the pair. -/
  | surveyCalEnd (converter : Fin 8) (run : Fin 2)
  /-- CAL_NOT_CURRENT (R145). An element's calibration ages past CURRENT_AGE and the source fires. -/
  | calNotCurrent (te : Te)
  /-- MAP_ENTRY_WRITE (R167). Writes a shadow map entry, clearing SHADOW_SOLVED when DARK or INPUT changes. -/
  | mapEntryWrite (path : Path) (output : Fin 512) (value : BitVec 16)
  /-- SOLVE_CMD (R175). Starts a Fresh or Preserve Col solve. -/
  | solveCmd (path : Path) (value : BitVec 32)
  /-- COL_SOLVE_END (R176). A solve ends Done or Failed, writes its destination or not, and sends an event. -/
  | colSolveEnd
  /-- SLOT_WRITE (R182). A write to SLOT_MAP or SLOT_SETTINGS takes effect at once and clears the slot's VALID. -/
  | slotWrite (path : Path) (settings : Bool) (element : Nat) (value : BitVec 32)
  /-- SLOT_VERIFY (R183). Traces a slot's settings and sets or clears VALID. -/
  | slotVerify (path : Path) (slot : Fin 64)
  /-- SLOT_LOAD (R183). Copies a valid slot into the shadow set. -/
  | slotLoad (path : Path) (slot : Fin 64)
  /-- SLOT_SAVE (R183). Copies the solved shadow map and settings into a slot. -/
  | slotSave (path : Path) (slot : Fin 64)
  /-- SLOT_ERASE (R183). Resets a slot to all Dark and clears its status. -/
  | slotErase (path : Path) (slot : Fin 64)
  /-- COMMIT_CANCEL (R191). Withdraws the pending or suspended commit before B(g − 3). -/
  | commitCancel (path : Path) (value : BitVec 8)
  /-- GLIDE_RAMP_DOWN_START (R197). At its planned boundary, a gliding VOA starts its ramp to the floor, and the traverse has begun. -/
  | glideRampDownStart (output : Fin 512)
  /-- TRAVERSE_BEGIN (R197). At B(g − 3), a pending traverse begins, or is suspended when no supervisor is in charge. -/
  | traverseBegin
  /-- COPY_BACK_DONE (R189). Copy-back of the new active set into the shadow set ends, which unlocks the shadow set and writes the active-set record. -/
  | copyBackDone
  /-- RETIRED_SET_RELEASE (R249). After the last pinned packet, or at t_drain, the retired classification set is released and stale packets are dropped. -/
  | retiredSetRelease
  /-- GUARD_OPEN (R204). At T − DRAIN_GUARD, the circuit guard closes every egress gate of the ports with altered lane circuits. -/
  | guardOpen
  /-- GUARD_MIN_END (R204). At T + 3 µs, the guard ends for transmit-only alterations, or for lanes already locked. -/
  | guardMinEnd
  /-- GUARD_RELOCK_TIMEOUT (R204). At T + 43 µs without lock, the guard ends, the port is Down, and the source fires. -/
  | guardRelockTimeout
  /-- TT_ARM (R212). TT_CMD 1 checks and arms a timetable bank. -/
  | ttArm (path : Path)
  /-- TT_STOP (R222). TT_CMD 2 stops the timetable after any transition already begun. -/
  | ttStop (path : Path)
  /-- TT_REPLACE (R223). TT_CMD 3 schedules replacement of the running timetable by the idle bank. -/
  | ttReplace (path : Path)
  /-- TT_RESUME (R225). TT_CMD 4 resumes a frozen timetable at a grid instant at least 2 ms ahead. -/
  | ttResume (path : Path)
  /-- TT_TRACE (R216). TT_CMD 5 traces a bank's transitions into TT_ENTRY_INFO without arming it. -/
  | ttTrace (path : Path)
  /-- PORT_CONFIG_WRITE (R229). Enables, disables or configures a packet port, with overlap and width checks. -/
  | portConfigWrite (path : Path) (port : Lane) (value : BitVec 32)
  /-- LANE_LOCK (R233). A lane gains receive lock, which can end a guard window or bring its port Up. -/
  | laneLock (lane : Lane) (at_ : Nat)
  /-- LANE_LOCK_LOSS (R234). A lane loses lock and its port goes Down, inside or outside a guard window. -/
  | laneLockLoss (lane : Lane)
  /-- UP_HOLD_EXPIRE (R233). UP_HOLD elapses with every condition true, and the port goes Up. -/
  | upHoldExpire (port : Lane)
  /-- PACKET_RECEIVE (R231). A complete Ethernet frame arrives on a port and is checked, buffered or discarded. -/
  | packetReceive (port : Lane) (at_ : Nat) (frame : List Byte)
  /-- PACKET_PASS (R247). A pipe slot takes a packet through parsing, key building, lookup and its action. -/
  | packetPass (port : Lane)
  /-- PACKET_SECOND_PASS (R235). A recirculating packet waits for a reserved slot and makes its second pass. -/
  | packetSecondPass (pipe : Fin 4)
  /-- EGRESS_SCHEDULE (R264). When an Up port's transmitter is free, the highest eligible class and DRR choose the next frame. -/
  | egressSchedule (port : Lane) (at_ : Nat)
  /-- FRAME_TX_COMPLETE (R254). A frame's last byte is transmitted and its cells are released. -/
  | frameTxComplete (port : Lane) (at_ : Nat)
  /-- REFILL_EPOCH (R261). At each refill epoch, meters refill their buckets and shapers update their credit. -/
  | refillEpoch (epoch : Fin 49)
  /-- GATE_ENTRY_CHANGE (R266). At a gate-list interval edge, a port's class gate states change. -/
  | gateEntryChange (port : Lane) (at_ : Nat)
  /-- PORT_DOWN_FLUSH (R273). A port Down without GUARDED for longer than PORT_DOWN_FLUSH has its queues flushed and its source fired. -/
  | portDownFlush (port : Lane)
  /-- QUEUE_CONFIG_WRITE (R253). Configures a queue, flushing it at the next boundary when disabled. -/
  | queueConfigWrite (path : Path) (queue : Fin 262144) (value : BitVec 64)
  /-- CLASS_INSERT (R244). Places or replaces the staged entry in the shadow classification bank. -/
  | classInsert (path : Path)
  /-- CLASS_DELETE (R244). Clears the matching shadow entry. -/
  | classDelete (path : Path)
  /-- CLASS_LOOKUP_SHADOW (R244). Looks up the staged key in the shadow bank. -/
  | classLookupShadow (path : Path)
  /-- CLASS_LOOKUP_ACTIVE (R244). Looks up the staged key in the active bank. -/
  | classLookupActive (path : Path)
  /-- CLASS_CLEAR (R244). Clears every shadow classification entry. -/
  | classClear (path : Path)
  /-- CLASS_TABLE_WRITE (R245). Writes shadow classification entries directly, with position and duplicate checks. -/
  | classTableWrite (path : Path) (position : Fin 263168) (value : BitVec 512)
  /-- FLOW_CLEAR (R272). FLOW_CMD 01b clears one flow context. -/
  | flowClear (path : Path) (context : Fin 262144)
  /-- FLOW_CLEAR_ALL (R272). FLOW_CMD 10b clears every flow context. -/
  | flowClearAll (path : Path)
  /-- BW_WINDOW_END (R382). A bandwidth window ends and its byte counts and peaks are stored. -/
  | bwWindowEnd (at_ : Nat)
  /-- BW_PEAK_CLEAR (R382). Restarts the bandwidth peaks. -/
  | bwPeakClear (path : Path) (value : BitVec 8)
  /-- FAULT_SOURCE_FIRE (R335). A source's line asserts in a collector cycle, and the firing is recorded, escalated, logged and reacted to by severity. -/
  | faultSourceFire (lines : List FaultReport)
  /-- CLEAR_SOURCE (R337). Clears one source, or every source whose LIVE bit is clear, ending its safe sub-states. -/
  | clearSource (path : Path) (value : BitVec 16)
  /-- FIRST_CLEAR (R332). Clears the first-fault record and OVERFLOW. -/
  | firstClear (path : Path) (value : BitVec 8)
  /-- PIN_REARM (R340). Re-arms FAULT_N in pulse mode. -/
  | pinRearm (path : Path) (value : BitVec 8)
  /-- FAULT_PULSE_END (R340). After PULSE_WIDTH, FAULT_N is released and disarmed. -/
  | faultPulseEnd
  /-- SOURCE_CONFIG_WRITE (R341). Sets a source's severity, escalation and FORCE bit. -/
  | sourceConfigWrite (path : Path) (source : Fin 512) (value : BitVec 32)
  /-- ECC_INJECT (R342). Arms a one-shot check-bit inversion on a chosen store. -/
  | eccInject (path : Path) (value : BitVec 16)
  /-- THROTTLE_STEP (R352). At a boundary, the packet clock steps down or up by one level. -/
  | throttleStep
  /-- STAGED_RELEASE_STEPS (R355). At B(g), after the glide floors or the decision, every element takes its clear-code steps and then enters Parked. -/
  | stagedReleaseSteps
  /-- ZONE_OVERRIDE_WRITE (R349). Releases a zone without a valid sensor, or restores it. -/
  | zoneOverrideWrite (path : Path) (zone : Fin 8) (value : BitVec 8)
  /-- POWER_CMD_RUN (R358). POWER_CMD 0 requests Run. -/
  | powerCmdRun (path : Path)
  /-- POWER_CMD_QUIET (R358). POWER_CMD 1 requests Quiet. -/
  | powerCmdQuiet (path : Path)
  /-- POWER_CMD_DORMANT (R358). POWER_CMD 2 requests Dormant. -/
  | powerCmdDormant (path : Path)
  /-- POWER_CHANGE_COMPLETE (R359). A change of power state completes its actions and POWER_CHANGING clears. -/
  | powerChangeComplete
  /-- RATE_GRACE_END (R310). A path's grace interval after a power-state change ends. -/
  | rateGraceEnd (path : Path)
  /-- MGT_LINK_CHANGE (R309). A management link goes up or down, or changes rate. -/
  | mgtLinkChange (path : Path) (rate : BitVec 16)
  /-- HEARTBEAT_TIMEOUT (R314). A registration fails after 3 × PERIOD without a heartbeat, starting a gap, Unsupervised, or the loss of the standby. -/
  | heartbeatTimeout (path : Path)
  /-- DIGEST_FAILURE_DECLARE (R316). A confirmed digest mismatch removes the active supervisor and starts a gap. -/
  | digestFailureDeclare
  /-- ROLE_CHANGE (R317). At a boundary, a standby or first heartbeating registration becomes active, ending a gap or Unsupervised. -/
  | roleChange
  /-- TAKEOVER_DECISION (R319). At the end of a frame, the takeover claims are decided and the roles change. -/
  | takeoverDecision
  /-- POWER_ON (R364). VDD_AUX and then PWR_GOOD_IN rise, and a boot begins with cause 1. -/
  | powerOn (bootMode : BitVec 2)
  /-- RESET_N (R364). RESET_N low resets all dies and begins a boot with cause 2. -/
  | resetN (widthNs : Nat)
  /-- POWER_FAIL (R364). PWR_GOOD_IN low for 1 µs completes any MRAM write and holds the dies in reset. -/
  | powerFail (widthNs : Nat)
  /-- RESTART_WARM (R373). RESTART_CMD 1 restarts the control die with circuits held lit. -/
  | restartWarm (path : Path)
  /-- RESTART_COLD (R370). RESTART_CMD 2 resets all dies and begins a cold boot. -/
  | restartCold (path : Path)
  /-- BOOT_STEP_END (R366). A boot step passes or fails, the record is written, and the next step, a self-restart or Maintenance follows. -/
  | bootStepEnd (report : BootReport)
  /-- BOOT_TIME_WAIT_EXPIRE (R366). S10 ends when BOOT_TIME_WAIT elapses without Locked. -/
  | bootTimeWaitExpire
  /-- LANE_RETRAIN (R376). A write of 0 to LANE_BOOT_FAILED retrains the lane at the next boundary in Run. -/
  | laneRetrain (path : Path) (lane : Lane) (value : BitVec 8)
  /-- SNAPSHOT_COPY_DONE (R385). When every bank has copied, the new snapshot copy comes into force between two messages. -/
  | snapshotCopyDone
  /-- WRAP_CLEAR (R379). Clears the WRAP bits of a bank's RO counters. -/
  | wrapClear (path : Path) (value : BitVec 16)
  /-- PERF_CONFIG_WRITE (R380). Configures a performance counter, resetting it when its event changes. -/
  | perfConfigWrite (path : Path) (counter : Fin 64) (value : BitVec 32)
  /-- TEST_CONFIG_WRITE (R391). Enables or disables a test point's generator and checker. -/
  | testConfigWrite (path : Path) (point : Fin 146) (value : BitVec 32)
  /-- TEST_INJECT (R390). Inverts one generated bit of a test point at the next boundary. -/
  | testInject (path : Path) (value : BitVec 16)
  /-- TEST_CLEAR (R392). Clears a test point's counters and ERRORED. -/
  | testClear (path : Path) (value : BitVec 16)
  /-- PROVE_START (R393). Starts an optical path-proving run between two lanes. -/
  | proveStart (path : Path) (value : BitVec 32)
  /-- PROVE_STOP (R393). Stops a proving run and writes PROVE_RESULT. -/
  | proveStop (path : Path) (value : BitVec 32)
  /-- PROVE_TIME_EXPIRE (R393). PROVE_TIME elapses, the run ends, and PROVE_RESULT is written. -/
  | proveTimeExpire
  /-- CHECKER_LOCK (R392). A test-point checker locks after 64 consecutive received bits that match its pattern and starts counting bits and errors. -/
  | checkerLock (point : Fin 146) (bits : Nat) (at_ : Nat)
  /-- CHECKER_LOCK_LOSS (R392). A locked checker that sees 256 or more errors within one 1,024-bit block loses lock, counts a lock loss and seeds again. -/
  | checkerLockLoss (point : Fin 146) (bits errors : Nat)
  /-- ELS_LIGHT_RETURN (R413). Light returns on a reconnected ELS fiber, so its 16 lanes transmit again at once while ELS_OK still reads 0 until the next scan reading. -/
  | elsLightReturn (fiber : Fin 8)
  /-- RESET_N_RELEASE (R408). RESET_N returns high and, once PWR_GOOD_IN is also high, the boot begins. -/
  | resetNRelease (bootMode : BitVec 2)
  /-- VDD_AUX_LOSS (R402). VDD_AUX is lost, every die is held in reset, an MRAM record write in progress can be torn, and FAULT_N goes high-impedance. -/
  | vddAuxLoss
  /-- TCK_EDGE (R10). A TCK edge advances the IEEE 1149.1 TAP of the chain through the control die and the four drive-and-sense dies for boundary scan, bypass or IDCODE. -/
  | tckEdge (rising tms tdi trstN : Bool) (pins : List Bool)
deriving DecidableEq, Repr

end Sys2Proof
end

