-- ==== Sys2Proof/Decode.lean ====
section
/-! DEFINITION. The words of the table's rows. -/

namespace Sys2Proof

/-- The command that a word spells: the table gives no row any bits, so no word spells a command (log 12). -/
def decodeTableWord (_nbits _w : Nat) : Option Instr := none

end Sys2Proof
end

