-- ==== Sys2Proof/Config.lean ====
section
/-! DEFINITION. What an implementation or a module fixes and the spec does not state: constants without a body, so that
nothing can be proved of their values. -/

namespace Sys2Proof

/-- The free values: the value of the n-th choice the spec leaves open in a run (log 4). -/
opaque Config.free : Nat → Nat

/-- Whether an inexact quotient n / d, whose rounding the spec does not state, goes up (log 11). -/
opaque Config.roundUp : Int → Nat → Bool

/-- Factory and per-module contents of an object's element, which the spec names without giving (log 5). -/
opaque Config.factory : Nat → Nat → Nat

/-- Whether pi in units of 2^-24 rad is taken as 52,707,179 or as 52,707,178: the spec does not say how set-points are
rounded (log 11). -/
opaque Config.piUp : Bool

/-- The calibrated natural loss of a path with its VOA at minimum, 2^-24 dB, by input, output and cells (R69). -/
opaque Config.naturalLoss : Nat → Nat → List Nat → Int

/-- The calibrated routing loss between a tap and a cell, as a gain in 2^-30, by channel and cell (R63). -/
opaque Config.tapGain : Nat → Nat → Nat

/-- The output-to-input ratio in dB, 2^-24 dB, of two tap values whose ratio is not positive and has no logarithm (R63, log 52). -/
opaque Config.decibel : Int → Int → Int

/-- Power at a port's reference plane in 0.01 dBm from the corrected tap result, by monitor channel (R48). -/
opaque Config.portPower : Nat → Int → Int

/-- Occurrences that a counter has counted and no command stands for, by its object, its element and the running time:
transfers of the control-plane matrix (R388, R394), FEC codewords (R250), and bit errors that a locked checker sees (R392). -/
opaque Config.unseen : Nat → Nat → Nat → Nat

/-- Calibrated coupling loss of an external port, 0.01 dB, by port (R48, R52). -/
opaque Config.couplingLoss : Nat → Nat

/-- Calibrated delay of a path in ps, by input, output and cells (R54). -/
opaque Config.pathDelay : Nat → Nat → List Nat → Nat

/-- The servo: the new frequency correction (10^-12) from the one in force and an offset (2^-16 ns) (R33, R417). -/
opaque Config.servo : Int → Int → Int

/-- The slope of u on the zone temperature, 2^-16 Q15 per C, of an element whose temperature has not changed since its last
accepted calibration: the regression determines none (R74, log 52). -/
opaque Config.flatSlope : Nat → Int

/-- The temperature coefficient of the calibration model, 2^-16 Q15 of u per C, by TE and its calibration count (R74). -/
opaque Config.calTempCoefficient : Nat → Nat → Int

/-- The phase of an element's dither at the start of a run, in 1,024 parts of a turn (R79, R151, log 52). -/
opaque Config.ditherPhase : Nat → Nat

/-- Micro-operations whose function codes or tables the spec does not give, by class and ADDR/IMM and by their operands: the
result, and the flags Z, N and V (R92, log 53). -/
opaque Config.microResult : Nat → Int → Int → Int
opaque Config.microFlags : Nat → Int → Int → Nat

/-- Whether an ADDR/IMM of LST is the MPC function (R92, log 53). -/
opaque Config.lstIsMpc : Nat → Bool

/-- A word of the coach's data memory that no layout is given for, by its place (R92, log 53). -/
opaque Config.microWord : Nat → Int

/-- The fixed factory key of microcode images, a P-256 point, X then Y (R97). -/
opaque Config.factoryKey : Nat

/-- The cycles of an image's caboose with the per-loop costs of its sweep microwords, by its control store and its entry:
the spec does not say which microwords sweep (R94). -/
opaque Config.cabooseCycles : List Nat → Nat → Nat

/-- The phase of a phase element, or the offset of a balance element from its null, at a code of a sweep other than its extrema or its
null, 2^-24 rad: by TE, the codes swept, what was measured at them, and the place of the code (R149, log 56). -/
opaque Config.sweepPhase : Nat → List Nat → List Int → Nat → Int

/-- A point of a table of a full fringe calibration that lies beyond what the sweep passed, for which the spec states no value: table
(0 drive, 1 fringe, 2 null), TE, the codes swept, what was measured at them, and the point (R149, log 56). -/
opaque Config.sweepPoint : Nat → Nat → List Nat → List Int → Nat → Int

/-- The gain of a tender, 2^-30, by its group (152: the survey tender) and the readings of the temperature sensors of its die:
measured at the factory and corrected for its temperature (R156, log 56). -/
opaque Config.tenderGain : Nat → List Int → Nat

/-- Where the lower (0) and the upper (1) quartile of n results lies between its two neighbours among them, in 256 parts: the
spec does not say (R157, log 56). -/
opaque Config.quartile : Nat → Nat → Nat

/-- The 1149.1 port of each of the five dies: instruction register length, the code of IDCODE, the IDCODE, the number of
boundary cells, and whether a code selects the boundary register (R10, log 10). -/
opaque Config.tapIrLen : Nat → Nat
opaque Config.tapIdcodeOp : Nat → Nat
opaque Config.tapIdcode : Nat → Nat
opaque Config.tapCells : Nat → Nat
opaque Config.tapIsScan : Nat → Nat → Bool

/-- The gates of an enabled list whose intervals are all 0, below the range of R265: no entry of it is ever in force and the
spec states no gates for it, by port (log 19). -/
opaque Config.emptyList : Nat → Nat

/-- The raw window's layout, which the spec leaves to RAW_LOCATE: the words between an object and the one before it (mod 4096), and
whether an address that belongs to no object decodes all the same (R302 to R304, log 47). -/
opaque Config.rawGap : Nat → Nat
opaque Config.rawOther : Nat → Bool

/-- Whether a write of the boot record reads back as it was written, by the number of the boot and of the write in it (R372, log 64). -/
opaque Config.recordHolds : Nat → Nat → Bool

end Sys2Proof
end

