-- ==== Sys2Proof/Machine/Bits.lean ====
section
/-! DEFINITION. Bit fields, signed readings, byte order, fixed-point arithmetic and the rounding the spec leaves open. -/

namespace Sys2Proof.Machine

/-- Bits [hi:lo] of a word (msb and lsb as the spec's field maps write them). -/
def bits (v hi lo : Nat) : Nat := v / 2 ^ lo % 2 ^ (hi + 1 - lo)

/-- Bit n of a word. -/
def bit (v n : Nat) : Bool := v / 2 ^ n % 2 == 1

/-- A word with bits [hi:lo] replaced. -/
def setBits (v hi lo x : Nat) : Nat :=
  v - bits v hi lo * 2 ^ lo + x % 2 ^ (hi + 1 - lo) * 2 ^ lo

/-- A Boolean as the value 0 or 1. -/
def bn (b : Bool) : Nat := if b then 1 else 0

/-- The two's complement reading of a w-bit word (R5). -/
def toSigned (w v : Nat) : Int := if v % 2 ^ w < 2 ^ (w - 1) then (v % 2 ^ w : Nat) else ((v % 2 ^ w : Nat) : Int) - 2 ^ w

/-- The w-bit two's complement word of an integer (R5). -/
def ofSigned (w : Nat) (v : Int) : Nat := (v % (2 ^ w : Int)).toNat

/-- The integer clamped between two bounds. -/
def clampI (lo hi v : Int) : Int := if v < lo then lo else if hi < v then hi else v

/-- The natural number clamped between two bounds. -/
def clampN (lo hi v : Nat) : Nat := if v < lo then lo else if hi < v then hi else v

/-- Saturation to the range of Q15 (R5). -/
def satQ15 (v : Int) : Int := clampI (-32768) 32767 v

/-- Saturation to the range of Q31 (R5). -/
def satQ31 (v : Int) : Int := clampI (-2147483648) 2147483647 v

/-- Adds up to a counter of w bits and stays at its largest value. -/
def satAdd (w a b : Nat) : Nat := if a + b < 2 ^ w then a + b else 2 ^ w - 1

/-- The bytes of a value, most significant first (R276). -/
def beBytes : Nat → Nat → List Byte
  | 0, _ => []
  | n + 1, v => BitVec.ofNat 8 (v / 256 ^ n) :: beBytes n v

/-- The value of bytes, most significant first (R276). -/
def beNat (bs : List Byte) : Nat := bs.foldl (fun a b => a * 256 + b.toNat) 0

/-- Bytes `k` to `k + n - 1` of a list, fewer where it ends. -/
def slice (bs : List Byte) (k n : Nat) : List Byte := (bs.drop k).take n

/-- The big-endian value of n bytes from byte k on. -/
def fieldAt (bs : List Byte) (k n : Nat) : Nat := beNat (slice bs k n)

/-- A quotient whose rounding the spec leaves open: exact where it divides, else one of the two neighbours,
a free value of the model (log 11). -/
def divFree (n d : Nat) : Nat :=
  if d = 0 then 0 else n / d + (if n % d = 0 then 0 else if Config.roundUp (n : Int) d then 1 else 0)

/-- The same for integers: floor, or floor plus 1 where it does not divide (log 11). -/
def idivFree (n : Int) (d : Nat) : Int :=
  if d = 0 then 0 else n / (d : Int) + (if n % (d : Int) = 0 then 0 else if Config.roundUp n d then 1 else 0)

/-- Rounding to nearest; which way an exact half goes is a free value (log 11). -/
def roundNear (n : Int) (d : Nat) : Int :=
  if d = 0 then 0
  else
    let up := (2 * n + d) / (2 * (d : Int))
    if (2 * n + d) % (2 * (d : Int)) = 0 ∧ Config.roundUp n d = false then up - 1 else up

/-- The first `n` of a list is what remains, the rest dropped; and whether anything was dropped. -/
def capList {α : Type} (n : Nat) (l : List α) : List α × Bool := (l.take n, decide (n < l.length))

/-- A TIME64 wire value of an instant: seconds (8 bytes), nanoseconds (4), fraction (2) (R23, R286). -/
def time64 (t : Instant) : Nat :=
  (t / secondUnits) * 2 ^ 48 + (t % secondUnits / unitsPerNs) * 2 ^ 16 + t % unitsPerNs

/-- The instant a TIME64 wire value names (R23). -/
def ofTime64 (v : Nat) : Instant :=
  (v / 2 ^ 48) * secondUnits + (v / 2 ^ 16 % 2 ^ 32) * unitsPerNs + v % 2 ^ 16

/-- A TIME64 whose nanoseconds are below 10^9 (R23). -/
def time64Valid (v : Nat) : Bool := decide (v / 2 ^ 16 % 2 ^ 32 < 1000000000)

end Sys2Proof.Machine
end

