-- ==== Sys2Proof/Machine/Crypto.lean ====
section
/-! DEFINITION. The standard algorithms that the spec names and does not write out: SHA-256, HMAC-SHA-256, CRC-32 and
ECDSA over P-256 (R96, R97, R231, R277, R315; taken from FIPS 180-4, FIPS 198-1, IEEE 802.3 and FIPS 186-5, PRESUMED,
log 14). -/

namespace Sys2Proof.Machine

/-! ### SHA-256 -/

/-- Rotation to the right of a 32-bit word. -/
def ror32 (x n : Nat) : Nat := x / 2 ^ n + x % 2 ^ n * 2 ^ (32 - n)

/-- The round constants. -/
def shaK : List Nat :=
  [0x428a2f98, 0x71374491, 0xb5c0fbcf, 0xe9b5dba5, 0x3956c25b, 0x59f111f1, 0x923f82a4, 0xab1c5ed5] ++
  [0xd807aa98, 0x12835b01, 0x243185be, 0x550c7dc3, 0x72be5d74, 0x80deb1fe, 0x9bdc06a7, 0xc19bf174] ++
  [0xe49b69c1, 0xefbe4786, 0x0fc19dc6, 0x240ca1cc, 0x2de92c6f, 0x4a7484aa, 0x5cb0a9dc, 0x76f988da] ++
  [0x983e5152, 0xa831c66d, 0xb00327c8, 0xbf597fc7, 0xc6e00bf3, 0xd5a79147, 0x06ca6351, 0x14292967] ++
  [0x27b70a85, 0x2e1b2138, 0x4d2c6dfc, 0x53380d13, 0x650a7354, 0x766a0abb, 0x81c2c92e, 0x92722c85] ++
  [0xa2bfe8a1, 0xa81a664b, 0xc24b8b70, 0xc76c51a3, 0xd192e819, 0xd6990624, 0xf40e3585, 0x106aa070] ++
  [0x19a4c116, 0x1e376c08, 0x2748774c, 0x34b0bcb5, 0x391c0cb3, 0x4ed8aa4a, 0x5b9cca4f, 0x682e6ff3] ++
  [0x748f82ee, 0x78a5636f, 0x84c87814, 0x8cc70208, 0x90befffa, 0xa4506ceb, 0xbef9a3f7, 0xc67178f2]

/-- The initial digest. -/
def shaH0 : List Nat := [0x6a09e667, 0xbb67ae85, 0x3c6ef372, 0xa54ff53a, 0x510e527f, 0x9b05688c, 0x1f83d9ab, 0x5be0cd19]

/-- Addition of 32-bit words. -/
def add32 (a b : Nat) : Nat := (a + b) % 4294967296

/-- The message schedule extended by n words; the list is newest first. -/
def shaExtend : Nat → List Nat → List Nat
  | 0, w => w
  | n + 1, w =>
    let x15 := w.getD 14 0
    let x2 := w.getD 1 0
    let s0 := Nat.xor (Nat.xor (ror32 x15 7) (ror32 x15 18)) (x15 / 8)
    let s1 := Nat.xor (Nat.xor (ror32 x2 17) (ror32 x2 19)) (x2 / 1024)
    shaExtend n (add32 (add32 (w.getD 15 0) s0) (add32 (w.getD 6 0) s1) :: w)

/-- One round on the eight working words. -/
def shaRound (v : List Nat) (k w : Nat) : List Nat :=
  match v with
  | [a, b, c, d, e, f, g, h] =>
    let s1 := Nat.xor (Nat.xor (ror32 e 6) (ror32 e 11)) (ror32 e 25)
    let ch := Nat.xor (Nat.land e f) (Nat.land (4294967295 - e) g)
    let t1 := add32 (add32 (add32 h s1) (add32 ch k)) w
    let s0 := Nat.xor (Nat.xor (ror32 a 2) (ror32 a 13)) (ror32 a 22)
    let maj := Nat.xor (Nat.xor (Nat.land a b) (Nat.land a c)) (Nat.land b c)
    [add32 t1 (add32 s0 maj), a, b, c, add32 d t1, e, f, g]
  | _ => v

/-- The rounds over constants and schedule. -/
def shaRounds : List Nat → List Nat → List Nat → List Nat
  | k :: ks, w :: ws, v => shaRounds ks ws (shaRound v k w)
  | _, _, v => v

/-- The 32-bit words of n × 4 bytes. -/
def wordsOf : Nat → List Byte → List Nat
  | 0, _ => []
  | n + 1, bs => beNat (bs.take 4) :: wordsOf n (bs.drop 4)

/-- The digest after one block of 64 bytes. -/
def shaBlock (h : List Nat) (bs : List Byte) : List Nat :=
  let w := (shaExtend 48 (wordsOf 16 bs).reverse).reverse
  (shaRounds shaK w h).zipWith add32 h

/-- The digest after n blocks. -/
def shaBlocks : Nat → List Nat → List Byte → List Nat
  | 0, h, _ => h
  | n + 1, h, bs => shaBlocks n (shaBlock h (bs.take 64)) (bs.drop 64)

/-- The SHA-256 digest of bytes, 32 bytes. -/
def sha256 (bs : List Byte) : List Byte :=
  let n := bs.length
  let pad := bs ++ [0x80] ++ List.replicate ((119 - n % 64) % 64) 0 ++ beBytes 8 (8 * n)
  (shaBlocks (pad.length / 64) shaH0 pad).flatMap (beBytes 4)

/-- HMAC-SHA-256 under a key of 32 bytes. -/
def hmacSha256 (key bs : List Byte) : List Byte :=
  let k := key ++ List.replicate (64 - key.length) 0
  sha256 (k.map (fun b => b ^^^ 0x5c) ++ sha256 (k.map (fun b => b ^^^ 0x36) ++ bs))

/-! ### CRC-32 -/

/-- One bit of the reflected CRC-32 of IEEE 802.3. -/
def crcBit (c : Nat) : Nat := if c % 2 = 1 then Nat.xor (c / 2) 0xEDB88320 else c / 2

/-- The CRC register after one byte. -/
def crcByte (c : Nat) (b : Byte) : Nat :=
  let c := Nat.xor c b.toNat
  crcBit (crcBit (crcBit (crcBit (crcBit (crcBit (crcBit (crcBit c)))))))

/-- The CRC-32 of bytes. -/
def crc32 (bs : List Byte) : Nat := 0xFFFFFFFF - bs.foldl crcByte 0xFFFFFFFF

/-! ### ECDSA over P-256 -/

/-- The field prime, the order of the base point, the coefficient b and the base point of P-256. -/
abbrev ecP : Nat := 0xffffffff00000001000000000000000000000000ffffffffffffffffffffffff
abbrev ecN : Nat := 0xffffffff00000000ffffffffffffffffbce6faada7179e84f3b9cac2fc632551
abbrev ecB : Nat := 0x5ac635d8aa3a93e7b3ebbd55769886bc651d06b0cc53b0f63bce3c3e27d2604b
abbrev ecGx : Nat := 0x6b17d1f2e12c4247f8bce6e563a440f277037d812deb33a0f4a13945d898c296
abbrev ecGy : Nat := 0x4fe342e2fe1a7f9b8ee7eb4a7c0f9e162bce33576b315ececbb6406837bf51f5

/-- Power modulo m, by the low n bits of the exponent. -/
def powMod (m b : Nat) : Nat → Nat → Nat
  | 0, _ => 1
  | n + 1, e =>
    let r := powMod m b n (e / 2)
    let r2 := r * r % m
    if e % 2 = 1 then r2 * b % m else r2

/-- The inverse modulo a prime. -/
def invMod (m a : Nat) : Nat := powMod m (a % m) 256 (m - 2)

/-- A point in Jacobian coordinates; z = 0 is the point at infinity. -/
structure EcPoint where
  x : Nat
  y : Nat
  z : Nat

/-- Doubling of a point. -/
def ecDouble (q : EcPoint) : EcPoint :=
  let yy := q.y * q.y % ecP
  let s := 4 * q.x * yy % ecP
  let zz := q.z * q.z % ecP
  let m := 3 * (q.x + zz) * (q.x + ecP - zz) % ecP
  let x3 := (m * m + 2 * (ecP - s)) % ecP
  ⟨x3, (m * (s + ecP - x3) + 8 * (ecP - yy * yy % ecP)) % ecP, 2 * q.y * q.z % ecP⟩

/-- The sum of two points. -/
def ecAdd (q r : EcPoint) : EcPoint :=
  if q.z = 0 then r else if r.z = 0 then q
  else
    let z1 := q.z * q.z % ecP
    let z2 := r.z * r.z % ecP
    let u1 := q.x * z2 % ecP
    let u2 := r.x * z1 % ecP
    let s1 := q.y * z2 * r.z % ecP
    let s2 := r.y * z1 * q.z % ecP
    if u1 = u2 then (if s1 = s2 then ecDouble q else ⟨1, 1, 0⟩)
    else
      let h := (u2 + ecP - u1) % ecP
      let d := (s2 + ecP - s1) % ecP
      let h2 := h * h % ecP
      let h3 := h * h2 % ecP
      let v := u1 * h2 % ecP
      let x3 := (d * d + (ecP - h3) + 2 * (ecP - v)) % ecP
      ⟨x3, (d * (v + ecP - x3) + s1 * (ecP - h3)) % ecP, h * q.z * r.z % ecP⟩

/-- The multiple of a point by the low n bits of k. -/
def ecMul (q : EcPoint) : Nat → Nat → EcPoint
  | 0, _ => ⟨1, 1, 0⟩
  | n + 1, k =>
    let r := ecDouble (ecMul q n (k / 2))
    if k % 2 = 1 then ecAdd r q else r

/-- Whether a public key of 64 bytes, X then Y, lies on the curve. -/
def ecOnCurve (key : Nat) : Bool :=
  let x := key / 2 ^ 256
  let y := key % 2 ^ 256
  decide (x < ecP ∧ y < ecP) && decide (y * y % ecP = (x * x * x + (ecP - 3) * x + ecB) % ecP)

/-- Verification of a signature (r, s) over the SHA-256 digest of a message. -/
def ecdsaVerify (key : Nat) (msg : List Byte) (r s : Nat) : Bool :=
  if r = 0 ∨ ecN ≤ r ∨ s = 0 ∨ ecN ≤ s ∨ ecOnCurve key = false then false
  else
    let w := invMod ecN s
    let e := beNat (sha256 msg)
    let q := ecAdd (ecMul ⟨ecGx, ecGy, 1⟩ 256 (e * w % ecN)) (ecMul ⟨key / 2 ^ 256, key % 2 ^ 256, 1⟩ 256 (r * w % ecN))
    if q.z = 0 then false
    else
      let zi := invMod ecP q.z
      decide (q.x * (zi * zi % ecP) % ecP % ecN = r)

end Sys2Proof.Machine
end

