-- ==== Sys2Proof/Machine/Tab.lean ====
section
/-! DEFINITION. Sparse tables: lists of key and value in one canonical form, keys strictly rising and no entry
equal to what an unlisted key reads as. -/

namespace Sys2Proof.Machine

variable {α : Type}

/-- A sparse table, keyed by a number. -/
abbrev Tab (α : Type) := List (Nat × α)

/-- The value at a key; `d` is what an unlisted key reads as. -/
def Tab.get : Tab α → Nat → α → α
  | [], _, d => d
  | (a, w) :: r, k, d => if a = k then w else Tab.get r k d

/-- The entry at a key, if there is one. -/
def Tab.find? : Tab α → Nat → Option α
  | [], _ => none
  | (a, w) :: r, k => if a = k then some w else Tab.find? r k

/-- The table without a key. -/
def Tab.erase : Tab α → Nat → Tab α
  | [], _ => []
  | (a, w) :: r, k => if a = k then Tab.erase r k else (a, w) :: Tab.erase r k

/-- An entry put in its place among rising keys. -/
def Tab.insert : Tab α → Nat → α → Tab α
  | [], k, v => [(k, v)]
  | (a, w) :: r, k, v => if k < a then (k, v) :: (a, w) :: r else (a, w) :: Tab.insert r k v

/-- Writes a key: a value equal to what the unlisted key reads as removes the entry. -/
def Tab.put [DecidableEq α] (t : Tab α) (k : Nat) (v d : α) : Tab α :=
  if v = d then Tab.erase t k else Tab.insert (Tab.erase t k) k v

/-- Sets an entry that is present or absent, with no value read for absent keys. -/
def Tab.set (t : Tab α) (k : Nat) (v : α) : Tab α := Tab.insert (Tab.erase t k) k v

/-- Changes the value at a key. -/
def Tab.modify [DecidableEq α] (t : Tab α) (k : Nat) (d : α) (f : α → α) : Tab α :=
  Tab.put t k (f (Tab.get t k d)) d

/-- Every key of the table is above `b`, and the keys rise strictly. -/
def Tab.risingFrom : Nat → Tab α → Bool
  | _, [] => true
  | b, (a, _) :: r => decide (b ≤ a) && Tab.risingFrom (a + 1) r

/-- The canonical form; `d` gives what each unlisted key reads as. -/
def Tab.wf [DecidableEq α] (d : Nat → α) (t : Tab α) : Bool :=
  Tab.risingFrom 0 t && t.all (fun p => decide (p.2 ≠ d p.1))

/-- The values of the listed keys among `n` keys from `k` on, by a function of the key. -/
def rangeFrom (k n : Nat) : List Nat := (List.range n).map (k + ·)

end Sys2Proof.Machine
end

