-- ==== Sys2Proof/Machine/State.lean ====
section
/-! DEFINITION. The state of the module as plain data: the register file over the object dictionary, the configuration
sets, and a record for everything else the spec gives the machine; the reasons to stop; and reset. -/

namespace Sys2Proof.Machine

/-- Why a run stops. No meaning of this model faults: every command has an effect or acts as the spec's no effect. -/
inductive Fault where
  /-- Raised by no command: the spec names no command after which the module cannot go on (safe). -/
  | none
deriving DecidableEq, Repr

/-- Why a command has no meaning. -/
inductive Refusal where
  /-- Raised by an arm of exec for a command not modelled yet, by its mnemonic (safe: the run stops). -/
  | notModelled (mnemonic : String)
deriving DecidableEq, Repr

/-! ### Types of the dictionary -/

/-- The object types of R286. -/
inductive Ty where
  | bool
  | u (bytes : Nat)
  | i (bytes : Nat)
  | q15
  | q31
  | f32
  | time64
  | octet (n : Nat)
  | str (n : Nat)
deriving DecidableEq, Repr

/-- The access rights of R287; `rwStop` is RW, stop-only. -/
inductive Access where
  | ro | rw | rwStop | rws | wo | rc | const
deriving DecidableEq, Repr

/-- The default of an object: one value for every element, or one that the spec gives by a rule of its own. -/
inductive Dflt where
  | nat (v : Nat)
  | special
deriving DecidableEq, Repr

/-- The range a written value must lie in, where the object's table gives bounds. -/
inductive Rng where
  | any
  | nat (lo hi : Nat)
  | int (lo hi : Int)
deriving DecidableEq, Repr

/-- One row of an object table: key (index and subindex), type, access, element count (0: not a table), default, range. -/
structure ObjRow where
  key : Nat
  ty : Ty
  access : Access
  count : Nat
  dflt : Dflt
  range : Rng
deriving DecidableEq, Repr

/-! ### Time and PTP -/

/-- Module time beside its objects (R25 to R40). -/
structure TimeUnit where
  /-- Offset still to be slewed out, module time minus source, 2^-16 ns (R35). -/
  slew : Int
  /-- A slew is in progress until SLEW_END (R418). -/
  slewing : Bool
  /-- Change of module time due at the end of this frame, 2^-16 ns (R38). -/
  dueStep : Option Int
  /-- Consecutive offsets within LOCK_THRESHOLD (R25's lock rule). -/
  good : Nat
  /-- Consecutive offsets above LOCK_THRESHOLD in Locked (R417). -/
  bad : Nat
  /-- Running time of the last valid measurement. -/
  lastValid : Nat
  /-- Running time of the entry to Holdover, if in Holdover (R34). -/
  holdSince : Option Nat
  /-- The correction outstanding, a pending or due step or a slew, came from a TIME_SET write (R37). -/
  pendingFromSet : Bool
  /-- A slew begun by TIME_SET has ended: Locked at the next boundary (R418). -/
  lockAtBoundary : Bool
  /-- The next offset is the first of a source newly selected (R26). -/
  fresh : Bool
  /-- Level of PPS_OUT, the second it last rose for, and the running time at which it falls (R31). -/
  ppsOut : Bool
  ppsSecond : Option Nat
  ppsFallAt : Nat
deriving DecidableEq, Repr

/-- One PTP instance (R26, R27). -/
structure PtpPort where
  parent : Option PtpDataset
  /-- currentUtcOffset of the parent (R27). -/
  utc : Nat
  /-- Mean path delay, 2^-16 ns (PRESUMED form of IEEE 1588). -/
  meanDelay : Int
  /-- t1 and t2 of the last Sync. -/
  syncSent : Option Instant
  syncGot : Instant
  /-- Correction of the last Sync. -/
  syncCorr : Int
  /-- Departure of the Delay_Req or Pdelay_Req that waits for its answer. -/
  reqSent : Option Instant
  /-- Last offset from this instance and the running time of it. -/
  lastOffset : Option Int
  lastValid : Nat
  /-- Management and signaling messages counted and discarded (R27). -/
  discarded : Nat
  /-- Pdelay_Resp messages sent, one for one-step and two for two-step (R27). -/
  respSent : Nat
  /-- Delay_Req and Pdelay_Req messages sent (R27). -/
  reqCount : Nat
deriving DecidableEq, Repr

/-! ### Links, drive channels, loops, coaches -/

/-- A die-to-die link (R13 to R16). -/
structure Link where
  up : Bool
  lanes : Nat
  half : Bool
  /-- A result of this link is missing in the present frame. -/
  missNow : Bool
  /-- Consecutive frames with missing results. -/
  missFrames : Nat
  /-- Running time at which the link last returned to service (R16). -/
  returnUp : Nat
  /-- Frame count at which the elements that took their owed steps leave Hold, 0 for none (R16). -/
  restoreAt : Nat
  /-- The loops it held leave Hold at the next boundary (R16). -/
  releaseDue : Bool
  /-- Flits resent. -/
  replays : Nat
  /-- A result of the present frame carries OVLD (R141). -/
  ovld : Bool
deriving DecidableEq, Repr

/-- An entry of a staging queue (R109). -/
structure StEntry where
  /-- Apply instant. -/
  at_ : Nat
  code : Nat
  /-- Written by the traverse sequencer. -/
  seq : Bool
  last : Bool
deriving DecidableEq, Repr

/-- A drive channel beside its objects (R105, R109). -/
structure Chan where
  queue : List StEntry
  /-- The code loaded into the DAC while the deglitcher holds the output. -/
  loaded : Option Nat
deriving DecidableEq, Repr

/-- The loop states of R71, in the order of their codes. -/
inductive LoopState where
  | parked | coast | acquire | locked | hold | trim
deriving DecidableEq, Repr

/-- What a loop frame decided of its loop's state (R72, R73, R76). -/
inductive Decision where
  | none | lock | acqTimeout | feTrip
deriving DecidableEq, Repr

/-- The Q15 states of one section and its saturation flag (R67). -/
structure Sec where
  x1 : Int
  x2 : Int
  y1 : Int
  y2 : Int
  satSect : Bool
deriving DecidableEq, Repr

/-- Where a loop stands in time: what its supervision counts and remembers (R72 to R76, R85). -/
structure LoopClock where
  lock : Nat
  acq : Nat
  fe : Nat
  /-- Running time of the entry to Coast. -/
  coastAt : Nat
  /-- This Coast has passed its limit (R75). -/
  coastFired : Bool
  /-- Running time since when the output is saturated, and since when a lit element is unobservable. -/
  satSince : Option Nat
  /-- The saturation since then has fired its source. -/
  satFired : Bool
  unobsSince : Option Nat
  unobsFired : Bool
  /-- Total Locked time since the last accepted calibration, ns (R74). -/
  lockedNs : Nat
deriving DecidableEq, Repr

/-- The sums of the regression of u on the zone temperature over the loop frames learned from (R74): their number, and the
sums of u, of the temperature, of their product and of the temperature's square. -/
structure Regr where
  n : Int
  su : Int
  st : Int
  sut : Int
  stt : Int
deriving DecidableEq, Repr

/-- One element loop (R62 to R82). -/
structure Loop where
  st : LoopState
  /-- The state reported (R72). -/
  rep : LoopState
  cause : Nat
  /-- Has left Parked or Hold: the next loop frame chooses Acquire or Coast (R72). -/
  leaving : Bool
  frozen : Bool
  expired : Bool
  sat : Bool
  usable : Bool
  lit : Bool
  calFlag : Bool
  decision : Decision
  /-- NRM has found the measurement usable in a loop that is to enter Acquire; END commits it (R72, R90). -/
  acquiring : Bool
  /-- A Hold cause from outside the loop that waits for its first slot: cause, and the frame count of that slot (R77). -/
  holdNext : Option (Nat × Nat)
  /-- A HOLD_CLEAR request that waits for the next caboose (R88). -/
  clearReq : Bool
  /-- Samples were missing in the last loop frame (R14, R70). -/
  gap : Bool
  /-- The next loop frame is the first after a coefficient commit (R92's flag FIRST). -/
  first : Bool
  clock : LoopClock
  secs : List Sec
  /-- u, the last cascade output before the clamp, and u at the entry to Coast (Q15). -/
  u : Int
  yN : Int
  uCoast : Int
  /-- Zone temperature at the entry to Coast, 2^-16 C. -/
  t0 : Int
  /-- Learned drift rate, 2^-40 Q15 of u per s, and temperature coefficient, 2^-16 Q15 of u per C (R74). -/
  d : Int
  kT : Int
  regr : Regr
  /-- u of the loop frame before, for drift learning. -/
  uPrev : Int
  /-- Set-point and measured value, 2^-24 rad or dB. -/
  sp : Int
  meas : Int
  /-- Set-point of the last loop frame, which LOOP_SETPOINT reports (R83). -/
  spShown : Int
  /-- Set-point before the last move by steps (R16, R194). -/
  spFrom : Int
  /-- Last code staged. -/
  code : Nat
  /-- The next loop frame is the first after a coefficient commit, in bumpless mode (R82). -/
  bumpless : Bool
  /-- Trim: dither bin and frames run (R151). -/
  bin : Nat
  trimFrames : Nat
deriving DecidableEq, Repr

/-- The machine a coach runs a loop program on (R87 to R93). -/
structure CoachRec where
  running : Bool
  te : Nat
  /-- Index of the instruction that is next. -/
  pc : Nat
  cycles : Nat
  v0 : Int
  /-- V1 to V7, the accumulator, the last read of data memory, the x that a section's first MAC latched, and the flags Z, N
  and V (R92). -/
  vs : List Int
  acc : Int
  md : Int
  lat : Int
  fz : Bool
  fn : Bool
  fv : Bool
  sp : Int
  ms : Int
  code : Nat
  opr : Nat
  /-- Corrected taps: a, b, p_u, p_l of a cell, or output and input tap of a VOA (R63). -/
  taps : List Int
  /-- m as a fraction (R63). -/
  mNum : Int
  mDen : Int
  /-- Error before scaling, set-point minus measured value, 2^-24. -/
  diff : Int
  usable : Bool
  missing : Bool
  ovld : Bool
  fold : Bool
  feOver : Bool
  /-- Frame counts plus 1 of the last caboose and of the last slot, and the loop of that slot (R86, R88). -/
  cabAt : Nat
  slotAt : Nat
  slotJ : Nat
deriving DecidableEq, Repr

/-- Microcode stores and the load sequence (R96 to R100). -/
structure Ucode where
  /-- The standby bank: the words of an armed image. -/
  armed : Option (List Nat)
  /-- The active image, none for the factory image. -/
  active : Option (List Nat)
  /-- The boot image in MRAM, none for the factory image (R98). -/
  boot : Option (List Nat)
  /-- Words received, rising word numbers. -/
  buffer : Tab Nat
  /-- Verification in progress arms the image on a pass (LOAD_CMD 2). -/
  arming : Bool
  /-- Instant of activation of an armed image. -/
  activateAt : Option Instant
  /-- The activation fell in a gap and waits for the new supervisor (R100). -/
  suspended : Bool
  /-- The owner key, X then Y. -/
  ownerKey : Option Nat
deriving DecidableEq, Repr

/-- A fabric input's lit state and what it is formed from (R48, R50, R52). -/
structure LitIn where
  lit : Bool
  high : Bool
  above : Bool
  /-- Consecutive frames that speak for a change. -/
  count : Nat
  /-- Power of the last frame, 0.01 dBm. -/
  power : Int
  /-- Corrected results of the last frames, newest first (at most 200). -/
  hist : List Int
deriving DecidableEq, Repr

/-! ### Traverses and glides -/

/-- A segment of a jerk-limited trajectory: jerk (2^-64 dB/s^3) and length (2^-16 ns) (R199). -/
structure GlideSeg where
  jerk : Int
  len : Nat
deriving DecidableEq, Repr

/-- The profile generator of a VOA on one trajectory, in units of 2^-64 dB and seconds (R199). -/
structure Gen where
  x : Int
  v : Int
  a : Int
  segs : List GlideSeg
  /-- Progress along the trajectory, 2^-16 ns. -/
  t : Nat
  target : Int
  vMax : Int
  aMax : Int
  jMax : Int
deriving DecidableEq, Repr

/-- The glide of the VOA of one output (R197 to R202). -/
structure Glide where
  /-- GLIDE_STATE code: 0 none, 1 ramp-down, 2 at floor, 3 ramp-up, 4 level, 5 reversing. -/
  phase : Nat
  gen : Option Gen
  /-- Profile values in force when the commit was accepted (R198). -/
  vMax : Int
  aMax : Int
  jMax : Int
  /-- Set-point to which a reversal returns, 2^-24 dB. -/
  home : Int
  /-- Target of the ramp-up after the traverse. -/
  goal : Int
  /-- The ramp stopped in Coast and is planned afresh from rest (R197). -/
  stalled : Bool
deriving DecidableEq, Repr

/-- A pending, begun or suspended traverse: a commit, or a transition of the timetable (R190, R205, R213). -/
structure Commit where
  id : Nat
  t : Instant
  begun : Bool
  suspended : Bool
  /-- The slot whose map a timetable transition brings in; none for a commit of the shadow set. -/
  slot : Option Nat
  /-- The words of GLIDE_PROFILE at the acceptance (R198). -/
  profiles : List Nat
  /-- Ramp-downs: output and the boundary at which each starts (R197). -/
  ramps : List (Nat × Instant)
  /-- Lanes whose circuit it alters, and whether the receive circuit is one of them (R204). -/
  lanes : List (Nat × Bool)
  /-- Elements frozen for it from B(g - 2) on (R20). -/
  moving : List Nat
  frozen : Bool
  /-- The caboose of frame g - 1 has looked at the links, and found one down (R16). -/
  checked : Bool
  linkFailed : Bool
deriving DecidableEq, Repr

/-- The circuit guard of one lane (R204). -/
structure GuardWin where
  lane : Nat
  /-- The receive circuit is altered: the window waits for receive lock. -/
  rx : Bool
  t : Instant
deriving DecidableEq, Repr

/-- A staged release in progress (R355). -/
structure Release where
  /-- Snap form. -/
  snap : Bool
  /-- The ramps of the glide form have started. -/
  begun : Bool
  /-- The power state whose loop rate and coefficient sets hold while it runs. -/
  home : Nat
  /-- B(g), once it is known. -/
  at_ : Option Instant
  /-- The frame count in which the steps were taken. -/
  stepped : Option Nat
deriving DecidableEq, Repr

/-- Traverses, glides, guards and clears in progress. -/
structure Trav where
  cur : Option Commit
  copyBack : Bool
  /-- Copy-back of the classification banks waits for the retired set (R189, R249). -/
  copyClass : Bool
  glides : Tab Glide
  guards : List GuardWin
  /-- Elements that owe their steps since a link was down (R16), with the boundary at which they take them. -/
  owed : List Nat
  /-- Dies whose clear is asserted, and the clear of the control die (R113). -/
  clearDies : List Nat
  internalClear : Bool
  /-- Elements leave Parked at the next traverse by snap whatever their setting (R114, R360). -/
  restore : Bool
  /-- The staged release in progress (R355). -/
  release : Option Release
  /-- Frozen elements and the frame in which they compute again (R20). -/
  thaw : List Nat
  thawAt : Nat
  /-- The frame count of the last swap, and the map and the settings that were active until then (R51). -/
  before : Option (Nat × Tab Nat)
deriving DecidableEq, Repr

/-- A Col solve that runs: what it copied at its start (R176). -/
structure Solve where
  preserve : Bool
  strict : Bool
  /-- 0 to 63 a slot, 255 the shadow set. -/
  dst : Nat
  /-- The reference is the active set (R178). -/
  refActive : Bool
  /-- Entries by output, entries of the reference map and words of the reference settings, all sparse. -/
  map : Tab Nat
  refMap : Tab Nat
  refWords : Tab Nat
  /-- Inputs lit at the start (R180). -/
  lit : List Nat
deriving DecidableEq, Repr

/-! ### Timetables -/

/-- The timetable beside its objects (R211, R222, R223, R225). -/
structure Tt where
  /-- Grid origin S in force. -/
  start : Instant
  /-- The entry that the next transition enters, and its bank. -/
  nextEntry : Nat
  nextBank : Nat
  /-- Instant of the last transition of the grid that ran or was missed; none before the first. -/
  last : Option Instant
  /-- The bank of the entry in force; none before the first transition has run (R220). -/
  entered : Option Nat
  /-- A stop waits for a transition that has begun (R222). -/
  stopping : Bool
  /-- Replacement instant and bank (R223). -/
  replace : Option (Instant × Nat)
  /-- A freeze waits for a transition that has begun (R225). -/
  freezing : Bool
deriving DecidableEq, Repr

/-! ### Supervisors -/

/-- A registration on a path (R312 to R314). -/
structure Registration where
  ip : Nat
  keySlot : Nat
  supId : Nat
  periodMs : Nat
  /-- Running time of the last heartbeat accepted. -/
  lastBeat : Nat
  /-- 0 none, 1 standby, 2 active. -/
  role : Nat
  /-- Role none after a digest failure, until it completes an EXPORT (R313). -/
  barred : Bool
  /-- Frame count plus 1 of the frame in which it was made, or became able to take a role (R319). -/
  fresh : Nat
deriving DecidableEq, Repr

/-- A digest of a path: basis, MATCH and running time of its acceptance (R315, R316). -/
structure DigestRec where
  basis : Nat
  matched : Nat
  at_ : Nat
deriving DecidableEq, Repr

/-- Roles, gap and claims (R312 to R321). -/
structure Sup where
  reg : Tab Registration
  /-- The last digest of each path (R316). -/
  digests : Tab DigestRec
  /-- The last digest of each path that its active supervisor was answered MATCH 1 (R316). -/
  misses : Tab DigestRec
  /-- Supervisors dropped after a digest failure: path and registration (R313). -/
  dropped : List (Nat × Registration)
  /-- The gap: its start, running time (R317). -/
  gapSince : Option Nat
  /-- The standby that ends the gap has sent a heartbeat or won a claim (R317). -/
  gapBeat : Bool
  /-- The path of that standby. -/
  gapPath : Nat
  /-- Paths whose eligible heartbeat waits for the next boundary in Unsupervised (R318). -/
  waiting : List Nat
  /-- Claims not yet decided: path, frame count of the acceptance, and whether the roles at the start of that frame let it win; the
  first of each registration and frame (R319). -/
  claims : List (Nat × Nat × Bool)
  /-- Each path's grace interval, running time (R310). -/
  grace : Tab (Nat × Nat)
  /-- Value of TRAVERSES when the copy of a path's last completed export was taken (R321). -/
  exported : Tab Nat
  /-- A supervisor has been active since the reset (R321). -/
  led : Bool
  /-- The configuration set that the last executed traverse brought in; none before the first (R315). -/
  digested : Option (Tab Nat)
deriving DecidableEq, Repr

/-! ### Lanes and ports -/

/-- A lane of the packet engine (R11, R233, R234, R336). -/
structure LaneRec where
  lock : Bool
  elsOk : Bool
  faultDown : Bool
  faultSeen : Bool
  /-- Its lock was lost inside a guard window, and has not come back (R234). -/
  lostIn : Bool
deriving DecidableEq, Repr

/-- A port, by base lane (R233, R234, R273). -/
structure PortRec where
  up : Bool
  /-- Running time at which the last condition of R233 became true, locks gained inside a guard window apart. -/
  since : Nat
  /-- Running time since when the port is Down without GUARDED. -/
  downSince : Option Nat
  /-- Its queues were flushed for this Down (R273). -/
  flushed : Bool
deriving DecidableEq, Repr

/-! ### Packets -/

/-- A packet that waits for a pass (R235, R247). -/
structure Packet where
  /-- Ingress port, by base lane. -/
  port : Nat
  /-- The frame as the pass receives it, FCS included. -/
  bytes : List Byte
  /-- Receive time-stamp at the lane (R28). -/
  rx : Instant
  /-- It waits for its second pass, with the profile and the metadata of its recirculating action. -/
  second : Bool
  profile : Nat
  meta4 : Nat
  tc : Nat
  /-- Meter colour: 0 none, 1 green, 2 yellow, 3 red (R241). -/
  colour : Nat
  /-- The generation of the classification set that it is pinned to (R248). -/
  gen : Nat
deriving DecidableEq, Repr

/-- A frame in a queue (R254). -/
structure QFrame where
  bytes : List Byte
  colour : Nat
  /-- The flow context that counted the pass it comes from (R272). -/
  flow : Option Nat
  /-- An injected error of its buffer cells: 0 none, 1 single bit, 2 double bit (R342). -/
  ecc : Nat
  /-- The closure it was last held before (R268). -/
  held : Option Instant
deriving DecidableEq, Repr

/-- A port's transmitter (R264, R268). -/
structure TxRec where
  queue : Nat
  frame : Option QFrame
  /-- Running times at which the last byte passes the reference plane and at which the transmitter is free. -/
  done : Nat
  free : Nat
deriving DecidableEq, Repr

/-- A gate list in force on a port (R266). -/
structure GateRec where
  /-- S, and the states held from T until S. -/
  start : Instant
  prev : Nat
  started : Bool
deriving DecidableEq, Repr

/-- The packet engine beside its objects. -/
structure Pkt where
  /-- Ingress buffers by port, recirculation buffers by pipe, queues by number. -/
  ingress : Tab (List Packet)
  recirc : Tab (List Packet)
  queues : Tab (List QFrame)
  tx : Tab TxRec
  /-- The last frame each port has sent (the model's record of the outputs, log 9). -/
  wire : Tab (List Byte)
  /-- Buckets of the meters in 2^-8 bytes: tc, and te or tp (R259). -/
  buckets : Tab (Nat × Nat)
  /-- Credits of the shapers in 2^-8 bytes or 2^-16 packets (R263). -/
  credits : Tab Int
  /-- Deficits by queue, and the queue each class of a port is at (R264). -/
  deficits : Tab Nat
  pointers : Tab Nat
  gates : Tab GateRec
  /-- Effective gates of each port when its edges were last counted (R381). -/
  gateSeen : Tab Nat
  /-- Generation of the active classification set. -/
  gen : Nat
  /-- Next refill epoch of the present frame (R261). -/
  epoch : Nat
  /-- Frames received and not yet counted in a window: the running time at which the last byte passes the plane of R28, and the bytes.
  Bytes transmitted in the present window (R382). -/
  bwRx : Tab (List (Nat × Nat))
  bwTx : Tab Nat
  /-- Damaged entries of the egress stores, by key, and whether each has been rewritten since (R275). -/
  damaged : Tab Bool
deriving DecidableEq, Repr

/-! ### The survey bank -/

/-- What a survey conversion is for (R128, R132, R137, R159). -/
inductive ConvKind where
  | scan | seq | inject | cal
deriving DecidableEq, Repr

/-- A conversion in progress (R127). -/
structure Conv where
  kind : ConvKind
  source : Nat
  rate : Nat
  /-- Sequence, entry and RUN_COUNT of the run, for a sequence entry. -/
  seq : Nat
  entry : Nat
  run : Nat
  /-- Running time at which its window ends. -/
  ends : Nat
  /-- It runs on the survey tender (R130). -/
  tender : Bool
deriving DecidableEq, Repr

/-- A sequence entry that waits for its converter (R129). -/
structure SeqWait where
  trig : Instant
  seq : Nat
  entry : Nat
  run : Nat
deriving DecidableEq, Repr

/-- A sequence beside its objects (R132, R133, R136). -/
structure SeqRec where
  /-- Entries of the present run that have not delivered their result. -/
  left : Nat
  /-- Instant of its next time trigger. -/
  next : Option Instant
  /-- Entries whose comparator is disarmed. -/
  disarmed : List Nat
  /-- The comparators are armed and the records cleared at the boundary that enables it. -/
  enabled : Bool
deriving DecidableEq, Repr

/-- The survey bank beside its objects. -/
structure Survey where
  /-- Conversions in progress by the converter that they serve: 0 to 7, on the tender where it stands in; and 8, those of the
  converter that the tender calibrates (R130, R159). -/
  conv : Tab Conv
  /-- Sources that a scan still has to convert, by converter (R128). -/
  scan : Tab (List Nat)
  waits : List SeqWait
  seqs : Tab SeqRec
  /-- Running time of the last edge of SURVEY_TRIG (R407). -/
  edgeAt : Option Nat
  /-- The frame of the last scan, and the fast zones (a bit each) at the last scan instants, newest first (R128). -/
  scanAt : Option Nat
  fast : List Nat
deriving DecidableEq, Repr

/-! ### Faults -/

/-- What the collector holds of one source (R327, R330, R336). -/
structure SrcRec where
  /-- Effective severity of the last firing while the status bit is set. -/
  sev : Option Nat
  escalated : Bool
  /-- A firing at Major or above since the last clear. -/
  major : Bool
  /-- Running times of the firings since the last clear that an ESC_WINDOW can still hold, newest first (at most 255). -/
  fires : List Nat
  /-- Loops its safe sub-state holds: first TE and count. -/
  loops : List (Nat × Nat)
  lanes : List Nat
deriving DecidableEq, Repr

/-- The fault collector (R326 to R342). -/
structure FaultUnit where
  /-- Lines asserted by their blocks. -/
  lines : List Nat
  /-- Reports not yet sampled by the collector, and sources whose FORCE was set since it last sampled. -/
  raised : List FaultReport
  forcing : List Nat
  recs : Tab SrcRec
  /-- FAULT_N in pulse mode: armed, and the pulse in progress. -/
  armed : Bool
  pulsing : Bool
  /-- The running time of the firing that began the pulse (R340). -/
  pulseFrom : Nat
  /-- FAULT_N is held asserted until boot step S01 ends (R340). -/
  preS01 : Bool
  /-- The word of ECC_INJECT that waits for its store, 0 for none (R342). -/
  eccArmed : Nat
  /-- Words that carry inverted check bits: MODE by key, words of the shadow set 2^48 above those of the active set (R342). -/
  eccWords : Tab Nat
  /-- OD 4000h.08 is written at the entry to Halted. -/
  haltRecord : Nat
  /-- The log entry of the held first fault (R332, R339). -/
  firstEntry : Nat
deriving DecidableEq, Repr

/-! ### Temperature, power, calibration, test, boot -/

/-- A temperature sensor beside SENSOR_STATE (R347, R348). -/
structure Sensor where
  /-- Its last reading, and its last valid reading. -/
  prev : Option Int
  good : Int
  /-- Consecutive valid readings since it failed. -/
  run : Nat
deriving DecidableEq, Repr

/-- Temperature supervision beside its objects. -/
structure Therm where
  sensors : Tab Sensor
  /-- The last 8 temperatures of each zone with their running times, newest first (R354). -/
  hist : Tab (List (Int × Nat))
  /-- Running time of the last clock step, and a step down due at the next boundary (R352). -/
  stepAt : Option Nat
  stepDue : Bool
  /-- Sense sources of the rails whose last scan reading lies outside the window (R357). -/
  railsOut : List Nat
deriving DecidableEq, Repr

/-- A change of power state in progress (R358, R359). -/
structure PowerUnit where
  /-- The state it goes to, and the boundary at which it starts. -/
  target : Option Nat
  startAt : Instant
  begun : Bool
  /-- The state in force at its acceptance. -/
  home : Nat
  /-- A thermal shut-down is in progress (R354). -/
  shut : Bool
  /-- The loops' power state before a change whose coefficient commit is due at this boundary (R80). -/
  coefFrom : Option Nat
deriving DecidableEq, Repr

/-- The calibration of one monitor channel by its group's tender (R155 to R158). -/
structure Overlap where
  ch : Nat
  /-- Frame count of the first window for which the tender's input is open throughout, and its results so far. -/
  since : Nat
  opens : List Int
  /-- Frame count of the first window of the run, once the tender has its own offset. -/
  base : Option Nat
  /-- Result words of the channel and of the tender by window of the run. -/
  xs : Tab Nat
  ts : Tab Nat
  /-- Windows of the run in which a traverse fell. -/
  hits : List Nat
  /-- Gain (2^-30, none where none was fitted) and offset (2^-24 codes) of the first run of the pair. -/
  first : Option (Option Nat × Int)
deriving DecidableEq, Repr

/-- The calibration of one survey converter by the survey tender (R159). -/
structure SurvCal where
  conv : Nat
  /-- Zero-input results of the tender. -/
  opens : List Int
  /-- Parallel conversions begun in this run, and their results by number: the converter's and the tender's. -/
  begun : Nat
  xs : Tab Int
  ts : Tab Int
  /-- Zero-input results of the converter. -/
  zs : List Int
  first : Option (Option Nat × Int)
deriving DecidableEq, Repr

/-- A full fringe calibration (R147 to R149). -/
structure Fringe where
  /-- Maps still to come, and the entries and the solved settings of the present one. -/
  left : List Nat
  map : Tab Nat
  words : Tab Nat
  /-- Elements of this map still to be calibrated; elements done; cells that had usable light in some map. -/
  todo : List Nat
  done : List Nat
  cells : List Nat
  /-- The second sweep of the pair runs. -/
  again : Bool
  /-- 0 the light of the map, 1 phase elements, 2 and 3 balance elements at bar and at cross, 4 VOAs. -/
  stage : Nat
  tick : Nat
  /-- Measurements by TE × 8 + stage and by point. -/
  samples : Tab (Tab Int)
  /-- Tables of the first sweep: drive, and fringe or null; an element without failed it. -/
  first : Tab (List Int × List Int)
  /-- The last map is done, or a map's solve has failed. -/
  finished : Bool
  bad : Bool
deriving DecidableEq, Repr

/-- The calibration sequencer beside its objects (R142 to R162). -/
structure CalUnit where
  /-- Requested items, kind and number, the head of each kind's work first (R161). -/
  requests : List (Nat × Nat)
  /-- Pairs that disagreed, by item: kind × 16384 + number (R143). -/
  fails : Tab Nat
  /-- What the first run of each trim pair gave, by TE: phi0 and kap - 1, or 0 and the ratio - 1 of a VOA (R152). -/
  trims : Tab (Int × Int)
  /-- Residuals or losses of the run in progress, by TE and by frame of the run (R152). -/
  samples : Tab (Tab Int)
  /-- Overlaps, by group (R155). -/
  overlaps : Tab Overlap
  /-- The next channel (0 to 63) of each group in the monitor sweep, and the running time of its start (R161). -/
  sweep : Tab Nat
  sweepAt : Option Nat
  /-- What the survey tender calibrates (R159), the running time of each converter's last start, and the last one started. -/
  survey : Option SurvCal
  surveyAt : Tab Nat
  surveyLast : Nat
  /-- A full fringe calibration in progress (R149). -/
  fringe : Option Fringe
  /-- Converters whose start was deferred past an injected conversion (R160). -/
  deferred : List Nat
  /-- Elements whose calibration has been found not current (R145). -/
  notCurrent : List Nat
  /-- Accepted values that take effect at the next boundary, and the items accepted (R144). -/
  writes : List (Nat × Nat)
  items : List (Nat × Nat)
deriving DecidableEq, Repr

/-- A path-proving run (R393). -/
structure Prove where
  tx : Nat
  rx : Nat
  pattern : Nat
  /-- Running time of its start, none before the boundary that starts it. -/
  start : Option Nat
  lockAt : Option Nat
  lost : Bool
  interrupted : Bool
  /-- Sum and number of the path losses taken in it, 0.01 dB. -/
  loss : Int
  lossN : Nat
deriving DecidableEq, Repr

/-- Test points beside their objects (R390 to R393). -/
structure TestUnit where
  /-- Points whose next generated bit is inverted at the next boundary. -/
  inject : List Nat
  /-- Running time up to which each locked checker has counted. -/
  since : Tab Nat
  prove : Option Prove
  /-- Whether the loop event of a performance counter that counts its edges was asserted at the last boundary (R380). -/
  perfWas : Tab Bool
  /-- Counters of occurrences that no command stands for, by key, as the ends of the frames have left them (R378, log 42). -/
  unseen : Tab Nat
deriving DecidableEq, Repr

/-- Start-up (R364 to R375). -/
structure Boot where
  /-- The steps run; false once the boot has ended and while the dies are held in reset. -/
  booting : Bool
  /-- VDD_AUX is in range, PWR_GOOD_IN is high, RESET_N is low. -/
  powered : Bool
  good : Bool
  resetLow : Bool
  /-- The cause that the boot will report when the reset ends. -/
  cause : Nat
  /-- OUTCOME of the steps of this boot, by step 1 to 14 (R371). -/
  outcome : Tab Nat
  /-- The ring: records by 2 × entry + slot, a slot not listed holds no valid record (R372). -/
  ring : Tab Nat
  writeN : Nat
  /-- FAIL_COUNT, ALT_MASK and HALF_RATE_LINKS as the next record carries them, and ALT_CLEAR (R368, R371). -/
  failCount : Nat
  altMask : Nat
  altClear : Nat
  halfLinks : Nat
  failStep : Nat
  failDetail : Nat
  /-- A failure of S01 or S02 held in the always-on domain: step and detail (R368). -/
  held : Option (Nat × Nat)
  /-- Running time at the start of S01 and of the step that runs. -/
  startUp : Nat
  stepUp : Nat
  bootMs : Nat
  ready : Nat
  endState : Nat
  /-- The power state of a warm restart in progress (R374). -/
  warm : Option Nat
  /-- An accepted restart command: its cause, and the boundary of its effect (R364). -/
  restart : Option (Nat × Instant)
  /-- Level of the BOOT_MODE pins. -/
  pins : Nat
  /-- A full fringe calibration is pending from S07 (R366). -/
  fringe : Bool
  /-- S11 gave every packet object its reset value. -/
  pktReset : Bool
  /-- The last write of a record: its place in the ring, and its running time (R372, R402). -/
  wrote : Option (Nat × Nat)
  /-- The running time until which PWR_GOOD_IN is low (R408). -/
  lowTill : Nat
deriving DecidableEq, Repr

/-- The IEEE 1149.1 port: the chain of five dies (R10). -/
structure Tap where
  /-- State of the TAP controllers, in the order Test-Logic-Reset, Run-Test/Idle, Select-DR, Capture-DR, Shift-DR, Exit1-DR,
  Pause-DR, Exit2-DR, Update-DR, and the same seven for IR. -/
  st : Nat
  /-- The instruction in force of each die, control die first. -/
  ir : List Nat
  /-- The chain's shift register, the bit next to TDO first. -/
  sr : List Bool
  /-- Level of TDO, none while it is tri-stated. -/
  tdo : Option Bool
  /-- What boundary scan holds for the pins. -/
  held : List Bool
deriving DecidableEq, Repr

/-! ### Everything -/

/-- An event that waits to be sent to its subscribers (R300). -/
structure Event where
  kind : Nat
  origin : Nat
  time : Instant
  data : List Byte
deriving DecidableEq, Repr

/-- A request that waits in a path's queue (R284). -/
structure Request where
  type : Nat
  flags : Nat
  id : Nat
  body : List Byte
  from_ : NetAddr
  keySlot : Nat
deriving DecidableEq, Repr

/-- A kept reply (R285). -/
structure Kept where
  type : Nat
  id : Nat
  body : List Byte
  result : Nat
  reply : List Byte
  at_ : Nat
deriving DecidableEq, Repr

/-- A message the module has sent (R276, R281). -/
structure Sent where
  path : Nat
  to_ : NetAddr
  keySlot : Nat
  seq : Nat
  bytes : List Byte
deriving DecidableEq, Repr

/-- A subscriber (R299, R300). -/
structure Subscriber where
  path : Nat
  addr : NetAddr
  keySlot : Nat
  indices : List Nat
  seq : Nat
  lost : Nat
  queue : List Event
  /-- Running time of its last authenticated message. -/
  lastSeen : Nat
deriving DecidableEq, Repr

/-- An export in progress (R297). -/
structure Export where
  id : Nat
  /-- The stream, once the active set is copied at the next boundary. -/
  stream : Option (List Byte)
  /-- TRAVERSES when the copy was taken. -/
  basis : Nat
  /-- Its completion counts: the sender's registration has not failed since (R321). -/
  counts : Bool
  /-- Its sender (R298). -/
  ip : Nat
  keySlot : Nat
deriving DecidableEq, Repr

/-- The Motin engine (R276 to R304). -/
structure Motin where
  /-- The queue of each path (R284). -/
  queues : Tab (List Request)
  /-- Requests handled since the last frame boundary, by path, which joins them to the performance counters (R381). -/
  handled : Tab Nat
  /-- The path whose turn is next while both queues hold work. -/
  turn : Nat
  cache : Tab (List Kept)
  /-- Keys by slot; 0 is an empty slot (R282). -/
  keys : Tab Nat
  /-- Key writes that take effect after their reply (R282). -/
  keyWrites : List (Nat × Nat)
  /-- Writes of addresses that take effect after their reply (R311). -/
  addrWrites : List (Nat × Nat)
  /-- H of each slot and the numbers seen in its window (R280). -/
  seqIn : Tab Nat
  seen : Tab (List Nat)
  /-- Last number the module has used, by slot (R281). -/
  seqOut : Tab Nat
  subs : Tab Subscriber
  exports : Tab Export
  /-- TAKEOVER requests that wait for the decision of their claims, with the path and the frame count (R319). -/
  takeovers : List (Nat × Nat × Request)
  exportIds : Nat
  /-- The read latch of each path (R138, R303). -/
  rawLatch : Tab (List Nat)
  /-- Words of a wide register written in the raw window that wait for the word at the lowest address (R304). -/
  rawHold : Tab (Tab Nat)
  /-- Everything sent, newest first (the model's record of the block's outputs, log 9). -/
  outbox : List Sent
deriving DecidableEq, Repr

/-- Everything the spec gives the module but the snapshot copies, the Motin engine and the queue of commands. -/
structure Core where
  /-- Present values of the objects that are not RWS, by key (object × 2^20 + element); unlisted: the default (R287). -/
  regs : Tab Nat
  /-- The active and the shadow configuration set (R187). -/
  act : Tab Nat
  shd : Tab Nat
  /-- The active-set record of MRAM (R366, S13). -/
  saved : Tab Nat
  /-- RW writes accepted and not yet in effect, in order (R7). -/
  pend : List (Nat × Nat)
  /-- Module time (R23). -/
  now : Instant
  /-- Running time since reset, 2^-16 ns, which no time step changes. -/
  up : Nat
  /-- Frames since reset. -/
  frames : Nat
  time : TimeUnit
  ptp : Tab PtpPort
  links : Tab Link
  chans : Tab Chan
  loops : Tab Loop
  coaches : Tab CoachRec
  /-- Words of data memory that owner microcode has stored, by loop, space and offset (R92). -/
  micro : Tab Int
  ucode : Ucode
  inputs : Tab LitIn
  /-- Frame count plus 1 at which each monitor channel's last result was accepted (R123). -/
  monAt : Tab Nat
  /-- Result word and current that a channel reported before the result of the present frame, and their frame count plus 1 (R125). -/
  monPrev : Tab (Nat × Nat × Nat)
  lanes : Tab LaneRec
  ports : Tab PortRec
  pkt : Pkt
  survey : Survey
  /-- ELS fibers without light (R11). -/
  elsDark : List Nat
  therm : Therm
  pwr : PowerUnit
  cal : CalUnit
  test : TestUnit
  boot : Boot
  jtag : Tap
  trav : Trav
  col : Option Solve
  tt : Tt
  sup : Sup
  faults : FaultUnit
  /-- Events not yet given to subscribers. -/
  events : List Event
  /-- Index of the next free value (the model's own field, log 4). -/
  free : Nat
  /-- Abort code of the last object write or command, 0 for success (R308). -/
  result : Nat
deriving DecidableEq, Repr


/-- The whole state: the module and the queue of the commands that wait, first in, first out. -/
structure State extends Core where
  /-- The snapshot copy in force: its id, its instant and the module as it stood (R291, R383). -/
  copy : Option (Nat × Instant × Core)
  /-- The copy that is being taken. -/
  copying : Option (Nat × Instant × Core)
  /-- Snapshots scheduled: id and instant, earliest first (R295). -/
  snaps : List (Nat × Instant)
  snapIds : Nat
  motin : Motin
  pending : List Instr
deriving DecidableEq, Repr
/-- The module right after reset, with boot step S01 running: what the spec states, and where it states nothing what the log names
(log 6). RESTORE_PENDING (4100h.03h) and RESET_CAUSE (4200h.03) are 1, as a power-on sets them (R364, R367). -/
def Core.reset : Core where
  regs := [(0x410003 * 1048576, 1), (0x420003 * 1048576, 1)]
  act := []
  shd := []
  saved := []
  pend := []
  now := 0
  up := 0
  frames := 0
  time := ⟨0, false, none, 0, 0, 0, none, false, false, false, false, none, 0⟩
  ptp := []
  links := []
  chans := []
  loops := []
  coaches := []
  micro := []
  ucode := ⟨none, none, none, [], false, none, false, none⟩
  inputs := []
  monAt := []
  monPrev := []
  lanes := []
  ports := []
  pkt := ⟨[], [], [], [], [], [], [], [], [], [], [], 0, 0, [], [], []⟩
  survey := ⟨[], [], [], [], none, none, []⟩
  elsDark := []
  therm := ⟨[], [], none, false, []⟩
  pwr := ⟨none, 0, false, 0, false, none⟩
  cal := ⟨[], [], [], [], [], [], none, none, [], 0, none, [], [], [], []⟩
  test := ⟨[], [], none, [], []⟩
  boot := ⟨true, true, true, false, 1, [(1, 1)], [], 0, 0, 0, 0, 0, 0, 0, none, 0, 0, 0, 0, 0xFF, none, none, 0, false, false, none, 0⟩
  jtag := ⟨0, [], [], none, []⟩
  col := none
  trav := ⟨none, false, false, [], [], [], [], false, true, none, [], 0, none⟩
  tt := ⟨0, 0, 0, none, none, false, none, false⟩
  sup := ⟨[], [], [], [], none, false, 0, [], [], [], [], false, none⟩
  faults := ⟨[], [], [], [], true, false, 0, true, 0, [], 0, 0⟩
  events := []
  free := 0
  result := 0

/-- The whole machine right after reset, with no command waiting. -/
def State.reset : State where
  toCore := Core.reset
  copy := none
  copying := none
  snaps := []
  snapIds := 0
  motin := ⟨[], [], 0, [], [], [], [], [], [], [], [], [], [], 0, [], [], []⟩
  pending := []

end Sys2Proof.Machine
end

