-- ==== Sys2Proof/Machine/Dictionary.lean ====
section
/-! DEFINITION. The object dictionary: every object's type, access right, element count, default and range,
as the object tables of the spec give them (R285 to R308 and the tables of every chapter). -/

namespace Sys2Proof.Machine


/-- OD 1000h.01 VENDOR, STRING[16], CONST (R306). -/
abbrev OD.VENDOR : Nat := 0x100001

/-- OD 1000h.02 PART, STRING[16], CONST (R306). -/
abbrev OD.PART : Nat := 0x100002

/-- OD 1000h.03 SERIAL, STRING[16], CONST (R306). -/
abbrev OD.SERIAL : Nat := 0x100003

/-- OD 1000h.04 HW_REV, STRING[4], CONST (R306). -/
abbrev OD.HW_REV : Nat := 0x100004

/-- OD 1000h.05 DICT_VERSION, U32, CONST (R306). -/
abbrev OD.DICT_VERSION : Nat := 0x100005

/-- OD 1100h.01 UDP_PORT, U16, CONST (R306). -/
abbrev OD.UDP_PORT : Nat := 0x110001

/-- OD 1100h.02 MAX_MESSAGE, U16, CONST (R306). -/
abbrev OD.MAX_MESSAGE : Nat := 0x110002

/-- OD 1100h.03 AUTH_FAILS, U32, RC (R306). -/
abbrev OD.AUTH_FAILS : Nat := 0x110003

/-- OD 1100h.04 REPLAYS, U32, RC (R306). -/
abbrev OD.REPLAYS : Nat := 0x110004

/-- OD 1100h.05 MALFORMED, U32, RC (R306). -/
abbrev OD.MALFORMED_1100 : Nat := 0x110005

/-- OD 1100h.06 BUSY, U32, RC (R306). -/
abbrev OD.BUSY : Nat := 0x110006

/-- OD 1100h.07 CACHE_HITS, U32, RC (R306). -/
abbrev OD.CACHE_HITS : Nat := 0x110007

/-- OD 1100h.08 EVENTS_SENT, U64, RO (R306). -/
abbrev OD.EVENTS_SENT : Nat := 0x110008

/-- OD 1100h.09 EVENTS_LOST, U32, RC (R306). -/
abbrev OD.EVENTS_LOST : Nat := 0x110009

/-- OD 1100h.0A SUBSCRIBERS, U8, RO (R306). -/
abbrev OD.SUBSCRIBERS : Nat := 0x11000A

/-- OD 1110h.01 KEY_0, OCTET[32], WO (R306). -/
abbrev OD.KEY_0 : Nat := 0x111001

/-- OD 1110h.02 KEY_1, OCTET[32], WO (R306). -/
abbrev OD.KEY_1 : Nat := 0x111002

/-- OD 1110h.03 KEY_2, OCTET[32], WO (R306). -/
abbrev OD.KEY_2 : Nat := 0x111003

/-- OD 1110h.04 KEY_3, OCTET[32], WO (R306). -/
abbrev OD.KEY_3 : Nat := 0x111004

/-- OD 1110h.05 KEY_VALID, U8, RO (R306). -/
abbrev OD.KEY_VALID : Nat := 0x111005

/-- OD 1111h.01 SEQ_IN, TABLE(U64), RO (R306). -/
abbrev OD.SEQ_IN : Nat := 0x111101

/-- OD 1112h.01 SEQ_OUT, TABLE(U64), RO (R306). -/
abbrev OD.SEQ_OUT : Nat := 0x111201

/-- OD 1120h.01 MAC_ADDR, OCTET[6], CONST (R324). -/
abbrev OD.MAC_ADDR_1120 : Nat := 0x112001

/-- OD 1120h.02 IPV4_ADDR, OCTET[4], RW (R324). -/
abbrev OD.IPV4_ADDR_1120 : Nat := 0x112002

/-- OD 1120h.03 IPV4_PREFIX, U8, RW (R324). -/
abbrev OD.IPV4_PREFIX_1120 : Nat := 0x112003

/-- OD 1120h.04 IPV4_GATEWAY, OCTET[4], RW (R324). -/
abbrev OD.IPV4_GATEWAY_1120 : Nat := 0x112004

/-- OD 1120h.05 IPV6_ADDR, OCTET[16], RW (R324). -/
abbrev OD.IPV6_ADDR_1120 : Nat := 0x112005

/-- OD 1120h.06 IPV6_PREFIX, U8, RW (R324). -/
abbrev OD.IPV6_PREFIX_1120 : Nat := 0x112006

/-- OD 1120h.07 IPV6_GATEWAY, OCTET[16], RW (R324). -/
abbrev OD.IPV6_GATEWAY_1120 : Nat := 0x112007

/-- OD 1120h.08 PHY_ADDR, U8, RW (R324). -/
abbrev OD.PHY_ADDR_1120 : Nat := 0x112008

/-- OD 1120h.09 PHY_CONTROL, U8, RW (R324). -/
abbrev OD.PHY_CONTROL_1120 : Nat := 0x112009

/-- OD 1120h.0A LINK_RATE, U16, RO (R324). -/
abbrev OD.LINK_RATE_1120 : Nat := 0x11200A

/-- OD 1120h.0B LINK_CHANGES, U32, RC (R324). -/
abbrev OD.LINK_CHANGES_1120 : Nat := 0x11200B

/-- OD 1120h.0C FOREIGN_HEARTBEATS, U32, RC (R324). -/
abbrev OD.FOREIGN_HEARTBEATS_1120 : Nat := 0x11200C

/-- OD 1200h.01 ACTIVE_PATH, U8, RO (R324). -/
abbrev OD.ACTIVE_PATH : Nat := 0x120001

/-- OD 1200h.02 SUP_STATE, U8, RO (R324). -/
abbrev OD.SUP_STATE : Nat := 0x120002

/-- OD 1200h.03 UNSYNCHRONIZED, BOOL, RO (R324). -/
abbrev OD.UNSYNCHRONIZED : Nat := 0x120003

/-- OD 1200h.04 ROLE_A, U8, RO (R324). -/
abbrev OD.ROLE_A : Nat := 0x120004

/-- OD 1200h.05 ROLE_B, U8, RO (R324). -/
abbrev OD.ROLE_B : Nat := 0x120005

/-- OD 1200h.06 ID_A, U64, RO (R324). -/
abbrev OD.ID_A : Nat := 0x120006

/-- OD 1200h.07 ID_B, U64, RO (R324). -/
abbrev OD.ID_B : Nat := 0x120007

/-- OD 1200h.08 SWITCHOVERS, U32, RO (R324). -/
abbrev OD.SWITCHOVERS : Nat := 0x120008

/-- OD 1200h.09 LAST_CAUSE, U8, RO (R324). -/
abbrev OD.LAST_CAUSE : Nat := 0x120009

/-- OD 1200h.0A LAST_GAP, DUR, RO (R324). -/
abbrev OD.LAST_GAP : Nat := 0x12000A

/-- OD 1200h.0B DIGEST_MISMATCHES, U32, RC (R324). -/
abbrev OD.DIGEST_MISMATCHES : Nat := 0x12000B

/-- OD 1200h.0C MODULE_DIGEST, OCTET[32], RO (R324). -/
abbrev OD.MODULE_DIGEST : Nat := 0x12000C

/-- OD 1200h.0D DIGEST_BASIS, U32, RO (R324). -/
abbrev OD.DIGEST_BASIS : Nat := 0x12000D

/-- OD 1201h.01 PATH_PRIORITY, U8, RW (R324). -/
abbrev OD.PATH_PRIORITY : Nat := 0x120101

/-- OD 1201h.02 DIGEST_WINDOW, DUR, RW (R324). -/
abbrev OD.DIGEST_WINDOW : Nat := 0x120102

/-- OD 1201h.03 RATE_GRACE, DUR, RW (R324). -/
abbrev OD.RATE_GRACE : Nat := 0x120103

/-- OD 1201h.04 TAKEOVER_LOST, U32, RC (R324). -/
abbrev OD.TAKEOVER_LOST : Nat := 0x120104

/-- OD 1300h.01 TIME_NOW, TIME64, RO (R44). -/
abbrev OD.TIME_NOW : Nat := 0x130001

/-- OD 1300h.02 TIME_STATE, U8, RO (R44). -/
abbrev OD.TIME_STATE : Nat := 0x130002

/-- OD 1300h.03 SOURCE_ACTIVE, U8, RO (R44). -/
abbrev OD.SOURCE_ACTIVE : Nat := 0x130003

/-- OD 1300h.04 OFFSET_LAST, I64, RO (R44). -/
abbrev OD.OFFSET_LAST : Nat := 0x130004

/-- OD 1300h.05 FREQ_CORR, I32, RO (R44). -/
abbrev OD.FREQ_CORR : Nat := 0x130005

/-- OD 1300h.06 HOLDOVER_ELAPSED, DUR, RO (R44). -/
abbrev OD.HOLDOVER_ELAPSED : Nat := 0x130006

/-- OD 1300h.07 STEP_COUNT, U32, RO (R44). -/
abbrev OD.STEP_COUNT : Nat := 0x130007

/-- OD 1300h.08 LOSS_COUNT, U32, RO (R44). -/
abbrev OD.LOSS_COUNT : Nat := 0x130008

/-- OD 1300h.09 FRAME_NOW, U16, RO (R44). -/
abbrev OD.FRAME_NOW : Nat := 0x130009

/-- OD 1300h.0A UTC_OFFSET, I16, RO (R44). -/
abbrev OD.UTC_OFFSET : Nat := 0x13000A

/-- OD 1300h.0B PENDING_STEP, I64, RO (R44). -/
abbrev OD.PENDING_STEP : Nat := 0x13000B

/-- OD 1301h.01 TIME_SOURCE, U8, RW (R44). -/
abbrev OD.TIME_SOURCE : Nat := 0x130101

/-- OD 1301h.02 STEP_POLICY, U8, RW (R44). -/
abbrev OD.STEP_POLICY : Nat := 0x130102

/-- OD 1301h.03 STEP_THRESHOLD, DUR, RW (R44). -/
abbrev OD.STEP_THRESHOLD : Nat := 0x130103

/-- OD 1301h.04 SLEW_LIMIT, U16, RW (R44). -/
abbrev OD.SLEW_LIMIT : Nat := 0x130104

/-- OD 1301h.05 LOCK_THRESHOLD, DUR, RW (R44). -/
abbrev OD.LOCK_THRESHOLD : Nat := 0x130105

/-- OD 1301h.06 LOCK_COUNT, U8, RW (R44). -/
abbrev OD.LOCK_COUNT : Nat := 0x130106

/-- OD 1301h.07 LOSS_TIMEOUT, DUR, RW (R44). -/
abbrev OD.LOSS_TIMEOUT : Nat := 0x130107

/-- OD 1301h.08 STEP_ACCEPT, BOOL, WO (R44). -/
abbrev OD.STEP_ACCEPT : Nat := 0x130108

/-- OD 1301h.09 TIME_SET, TIME64, WO (R44). -/
abbrev OD.TIME_SET : Nat := 0x130109

/-- OD 1302h.01 PTP_ENABLE, BOOL, RW (R44). -/
abbrev OD.PTP_ENABLE_1302 : Nat := 0x130201

/-- OD 1302h.02 DOMAIN, U8, RW (R44). -/
abbrev OD.DOMAIN_1302 : Nat := 0x130202

/-- OD 1302h.03 TRANSPORT, U8, RW, stop-only (R44). -/
abbrev OD.TRANSPORT_1302 : Nat := 0x130203

/-- OD 1302h.04 DELAY_MECH, U8, RW, stop-only (R44). -/
abbrev OD.DELAY_MECH_1302 : Nat := 0x130204

/-- OD 1302h.05 PDELAY_RESP_STEP, U8, RW (R44). -/
abbrev OD.PDELAY_RESP_STEP_1302 : Nat := 0x130205

/-- OD 1302h.06 LOG_PDELAY_INTERVAL, I8, RW (R44). -/
abbrev OD.LOG_PDELAY_INTERVAL_1302 : Nat := 0x130206

/-- OD 1302h.07 PHY_RX_LATENCY, DUR, RW (R44). -/
abbrev OD.PHY_RX_LATENCY_1302 : Nat := 0x130207

/-- OD 1302h.08 PHY_TX_LATENCY, DUR, RW (R44). -/
abbrev OD.PHY_TX_LATENCY_1302 : Nat := 0x130208

/-- OD 1302h.09 ASYMMETRY, I32, RW (R44). -/
abbrev OD.ASYMMETRY_1302 : Nat := 0x130209

/-- OD 1302h.0A PORT_STATE, U8, RO (R44). -/
abbrev OD.PORT_STATE_1302 : Nat := 0x13020A

/-- OD 1304h.01 PPS_IN_EDGE, U8, RW (R44). -/
abbrev OD.PPS_IN_EDGE : Nat := 0x130401

/-- OD 1304h.02 PPS_IN_DELAY, DUR, RW (R44). -/
abbrev OD.PPS_IN_DELAY : Nat := 0x130402

/-- OD 1304h.03 PPS_OUT_MODE, U8, RW (R44). -/
abbrev OD.PPS_OUT_MODE : Nat := 0x130403

/-- OD 1304h.04 PPS_OUT_WIDTH, DUR, RW (R44). -/
abbrev OD.PPS_OUT_WIDTH : Nat := 0x130404

/-- OD 1304h.05 PPS_OUT_ADVANCE, DUR, RW (R44). -/
abbrev OD.PPS_OUT_ADVANCE : Nat := 0x130405

/-- OD 1304h.06 PPS_IN_LAST, TIME64, RO (R44). -/
abbrev OD.PPS_IN_LAST : Nat := 0x130406

/-- OD 1304h.07 PPS_IN_REJECTED, U32, RC (R44). -/
abbrev OD.PPS_IN_REJECTED : Nat := 0x130407

/-- OD 1400h.01 SET_STATE, U8, RO (R208). -/
abbrev OD.SET_STATE : Nat := 0x140001

/-- OD 1400h.02 PENDING_T, TIME64, RO (R208). -/
abbrev OD.PENDING_T : Nat := 0x140002

/-- OD 1400h.03 COMMIT_ID, U32, RO (R208). -/
abbrev OD.COMMIT_ID : Nat := 0x140003

/-- OD 1400h.04 BEGIN_AT, TIME64, RO (R208). -/
abbrev OD.BEGIN_AT : Nat := 0x140004

/-- OD 1400h.05 CANCEL_BY, TIME64, RO (R208). -/
abbrev OD.CANCEL_BY : Nat := 0x140005

/-- OD 1400h.06 LAST_T, TIME64, RO (R208). -/
abbrev OD.LAST_T : Nat := 0x140006

/-- OD 1400h.07 LAST_RESULT, U8, RO (R208). -/
abbrev OD.LAST_RESULT : Nat := 0x140007

/-- OD 1400h.08 LAST_RESULT_ID, U32, RO (R208). -/
abbrev OD.LAST_RESULT_ID : Nat := 0x140008

/-- OD 1401h.01 COMMIT_CANCEL, BOOL, WO (R208). -/
abbrev OD.COMMIT_CANCEL : Nat := 0x140101

/-- OD 2000h.01 FABRIC_MODE, U8, RWS (R61). -/
abbrev OD.FABRIC_MODE : Nat := 0x200001

/-- OD 2000h.02 EQ_LOSS, U16, RWS (R61). -/
abbrev OD.EQ_LOSS : Nat := 0x200002

/-- OD 2000h.03 LANE_EQ_LOSS, U16, RWS (R61). -/
abbrev OD.LANE_EQ_LOSS : Nat := 0x200003

/-- OD 2000h.04 LIT_THRESHOLD, I16, RW (R61). -/
abbrev OD.LIT_THRESHOLD : Nat := 0x200004

/-- OD 2000h.05 UNLIT_THRESHOLD, I16, RW (R61). -/
abbrev OD.UNLIT_THRESHOLD : Nat := 0x200005

/-- OD 2000h.06 LIT_FRAMES, U8, RW (R61). -/
abbrev OD.LIT_FRAMES : Nat := 0x200006

/-- OD 2000h.07 HIGH_POWER_LEVEL, I16, RW (R61). -/
abbrev OD.HIGH_POWER_LEVEL : Nat := 0x200007

/-- OD 2000h.08 LOW_POWER_LEVEL, I16, CONST (R61). -/
abbrev OD.LOW_POWER_LEVEL : Nat := 0x200008

/-- OD 2000h.09 POWER_AVERAGE, U8, RW (R61). -/
abbrev OD.POWER_AVERAGE : Nat := 0x200009

/-- OD 2001h.01 LIT_INPUTS, U16, RO (R61). -/
abbrev OD.LIT_INPUTS : Nat := 0x200101

/-- OD 2001h.02 LIT_OUTPUTS, U16, RO (R61). -/
abbrev OD.LIT_OUTPUTS : Nat := 0x200102

/-- OD 2001h.03 DARK_OUTPUTS, U16, RO (R61). -/
abbrev OD.DARK_OUTPUTS : Nat := 0x200103

/-- OD 2001h.04 ISO_OK_OUTPUTS, U16, RO (R61). -/
abbrev OD.ISO_OK_OUTPUTS : Nat := 0x200104

/-- OD 2001h.05 LOW_INPUTS, U16, RO (R61). -/
abbrev OD.LOW_INPUTS : Nat := 0x200105

/-- OD 2001h.06 HIGH_INPUTS, U16, RO (R61). -/
abbrev OD.HIGH_INPUTS : Nat := 0x200106

/-- OD 2001h.07 EQ_SHORT_OUTPUTS, U16, RO (R61). -/
abbrev OD.EQ_SHORT_OUTPUTS : Nat := 0x200107

/-- OD 2010h.01 INPUT_POWER, TABLE(I16), RO (R61). -/
abbrev OD.INPUT_POWER : Nat := 0x201001

/-- OD 2011h.01 OUTPUT_POWER, TABLE(I16), RO (R61). -/
abbrev OD.OUTPUT_POWER : Nat := 0x201101

/-- OD 2012h.01 INPUT_STATE, TABLE(U8), RO (R61). -/
abbrev OD.INPUT_STATE : Nat := 0x201201

/-- OD 2013h.01 OUTPUT_STATE, TABLE(U8), RO (R61). -/
abbrev OD.OUTPUT_STATE : Nat := 0x201301

/-- OD 2014h.01 OUTPUT_LOSS, TABLE(U16), RWS (R61). -/
abbrev OD.OUTPUT_LOSS : Nat := 0x201401

/-- OD 2015h.01 PATH_DELAY, TABLE(U32), RO (R61). -/
abbrev OD.PATH_DELAY : Nat := 0x201501

/-- OD 2100h.01 CONN_MAP, TABLE(U16), RWS (R185). -/
abbrev OD.CONN_MAP : Nat := 0x210001

/-- OD 2101h.01 SHADOW_SOLVED, BOOL, RO (R185). -/
abbrev OD.SHADOW_SOLVED : Nat := 0x210101

/-- OD 2101h.02 SHADOW_ORIGIN, U8, RO (R185). -/
abbrev OD.SHADOW_ORIGIN : Nat := 0x210102

/-- OD 2101h.03 SHADOW_DISTURBS, U16, RO (R185). -/
abbrev OD.SHADOW_DISTURBS : Nat := 0x210103

/-- OD 2101h.04 ACTIVE_CIRCUITS, U16, RO (R185). -/
abbrev OD.ACTIVE_CIRCUITS : Nat := 0x210104

/-- OD 2101h.05 SHADOW_CIRCUITS, U16, RO (R185). -/
abbrev OD.SHADOW_CIRCUITS : Nat := 0x210105

/-- OD 2102h.01 ACTIVE_SETTINGS, TABLE(U32), RO (R185). -/
abbrev OD.ACTIVE_SETTINGS : Nat := 0x210201

/-- OD 2103h.01 SHADOW_SETTINGS, TABLE(U32), RO (R185). -/
abbrev OD.SHADOW_SETTINGS : Nat := 0x210301

/-- OD 2110h.01 SOLVE_CMD, U32, WO (R185). -/
abbrev OD.SOLVE_CMD : Nat := 0x211001

/-- OD 2110h.02 COL_STATE, U8, RO (R185). -/
abbrev OD.COL_STATE : Nat := 0x211002

/-- OD 2110h.03 COL_RESULT, U32, RO (R185). -/
abbrev OD.COL_RESULT : Nat := 0x211003

/-- OD 2110h.04 COL_FLAGS, U8, RO (R185). -/
abbrev OD.COL_FLAGS : Nat := 0x211004

/-- OD 2110h.05 SOLVE_TIME, DUR, RO (R185). -/
abbrev OD.SOLVE_TIME : Nat := 0x211005

/-- OD 2110h.06 DISTURB_COUNT, U16, RO (R185). -/
abbrev OD.DISTURB_COUNT : Nat := 0x211006

/-- OD 2110h.07 FIRST_CONFLICT, U16, RO (R185). -/
abbrev OD.FIRST_CONFLICT : Nat := 0x211007

/-- OD 2110h.08 SOLVES, U32, RO (R185). -/
abbrev OD.SOLVES : Nat := 0x211008

/-- OD 2111h.01 DISTURB_LIST, TABLE(U32), RO (R185). -/
abbrev OD.DISTURB_LIST : Nat := 0x211101

/-- OD 2120h.01 SLOT_STATUS, TABLE(U32), RO (R185). -/
abbrev OD.SLOT_STATUS : Nat := 0x212001

/-- OD 2121h.01 SLOT_MAP, TABLE(U16), RW (R185). -/
abbrev OD.SLOT_MAP : Nat := 0x212101

/-- OD 2122h.01 SLOT_SETTINGS, TABLE(U32), RW (R185). -/
abbrev OD.SLOT_SETTINGS : Nat := 0x212201

/-- OD 2123h.01 SLOT_CMD, U16, WO (R185). -/
abbrev OD.SLOT_CMD : Nat := 0x212301

/-- OD 2123h.02 SLOT_RESULT, U32, RO (R185). -/
abbrev OD.SLOT_RESULT : Nat := 0x212302

/-- OD 2200h.01 DRAIN_GUARD, DUR, RW (R208). -/
abbrev OD.DRAIN_GUARD : Nat := 0x220001

/-- OD 2201h.01 TRAVERSES, U32, RO (R208). -/
abbrev OD.TRAVERSES : Nat := 0x220101

/-- OD 2201h.02 TRAVERSES_FAILED, U32, RC (R208). -/
abbrev OD.TRAVERSES_FAILED : Nat := 0x220102

/-- OD 2201h.03 COMMITS_CANCELLED, U32, RC (R208). -/
abbrev OD.COMMITS_CANCELLED : Nat := 0x220103

/-- OD 2201h.04 COMMITS_SUSPENDED, U32, RC (R208). -/
abbrev OD.COMMITS_SUSPENDED : Nat := 0x220104

/-- OD 2201h.05 SNAP_MOVES, U64, RO (R208). -/
abbrev OD.SNAP_MOVES : Nat := 0x220105

/-- OD 2201h.06 GLIDE_RAMPS, U64, RO (R208). -/
abbrev OD.GLIDE_RAMPS : Nat := 0x220106

/-- OD 2201h.07 GLIDE_REVERSALS, U32, RC (R208). -/
abbrev OD.GLIDE_REVERSALS : Nat := 0x220107

/-- OD 2201h.08 GLIDE_SHORT, U32, RC (R208). -/
abbrev OD.GLIDE_SHORT : Nat := 0x220108

/-- OD 2201h.09 GUARDS, U32, RO (R208). -/
abbrev OD.GUARDS : Nat := 0x220109

/-- OD 2201h.0A GUARD_RELOCK_TIMEOUTS, U32, RC (R208). -/
abbrev OD.GUARD_RELOCK_TIMEOUTS : Nat := 0x22010A

/-- OD 2201h.0B LANE_GLIDE_IGNORED, U32, RC (R208). -/
abbrev OD.LANE_GLIDE_IGNORED : Nat := 0x22010B

/-- OD 2210h.01 GLIDE_PROFILE, TABLE(F32), RW (R208). -/
abbrev OD.GLIDE_PROFILE : Nat := 0x221001

/-- OD 2211h.01 GLIDE_RAMP_TIME, TABLE(DUR), RO (R208). -/
abbrev OD.GLIDE_RAMP_TIME : Nat := 0x221101

/-- OD 2212h.01 GLIDE_STATE, TABLE(U8), RO (R208). -/
abbrev OD.GLIDE_STATE : Nat := 0x221201

/-- OD 2300h.01 TT_CMD, U8, WO (R227). -/
abbrev OD.TT_CMD : Nat := 0x230001

/-- OD 2300h.02 TT_BASE, TIME64, RW, stop-only (R227). -/
abbrev OD.TT_BASE : Nat := 0x230002

/-- OD 2300h.03 TT_BANK, U8, RW (R227). -/
abbrev OD.TT_BANK : Nat := 0x230003

/-- OD 2300h.04 TT_COUNT_0, U8, RW (R227). -/
abbrev OD.TT_COUNT_0 : Nat := 0x230004

/-- OD 2300h.05 TT_COUNT_1, U8, RW (R227). -/
abbrev OD.TT_COUNT_1 : Nat := 0x230005

/-- OD 2300h.06 TT_GATE_MODE, U8, RW, stop-only (R227). -/
abbrev OD.TT_GATE_MODE : Nat := 0x230006

/-- OD 2301h.01 TT_STATE, U8, RO (R227). -/
abbrev OD.TT_STATE : Nat := 0x230101

/-- OD 2301h.02 TT_RUN_BANK, U8, RO (R227). -/
abbrev OD.TT_RUN_BANK : Nat := 0x230102

/-- OD 2301h.03 TT_ENTRY, U8, RO (R227). -/
abbrev OD.TT_ENTRY : Nat := 0x230103

/-- OD 2301h.04 TT_START, TIME64, RO (R227). -/
abbrev OD.TT_START : Nat := 0x230104

/-- OD 2301h.05 TT_CYCLE, DUR, RO (R227). -/
abbrev OD.TT_CYCLE : Nat := 0x230105

/-- OD 2301h.06 TT_NEXT_T, TIME64, RO (R227). -/
abbrev OD.TT_NEXT_T : Nat := 0x230106

/-- OD 2301h.07 TT_REPLACE_AT, TIME64, RO (R227). -/
abbrev OD.TT_REPLACE_AT : Nat := 0x230107

/-- OD 2301h.08 TT_CYCLES, U64, RO (R227). -/
abbrev OD.TT_CYCLES : Nat := 0x230108

/-- OD 2301h.09 TT_SKIPPED, U32, RC (R227). -/
abbrev OD.TT_SKIPPED : Nat := 0x230109

/-- OD 2301h.0A TT_MISSED, U32, RC (R227). -/
abbrev OD.TT_MISSED : Nat := 0x23010A

/-- OD 2301h.0B TT_STOP_CAUSE, U8, RO (R227). -/
abbrev OD.TT_STOP_CAUSE : Nat := 0x23010B

/-- OD 2301h.0C TT_FIRST_BAD, U8, RO (R227). -/
abbrev OD.TT_FIRST_BAD : Nat := 0x23010C

/-- OD 2310h.01 TT_LIST, TABLE(U32), RW (R227). -/
abbrev OD.TT_LIST : Nat := 0x231001

/-- OD 2311h.01 TT_GATE_MASK, TABLE(U8), RW (R227). -/
abbrev OD.TT_GATE_MASK : Nat := 0x231101

/-- OD 2312h.01 TT_ENTRY_INFO, TABLE(U32), RO (R227). -/
abbrev OD.TT_ENTRY_INFO : Nat := 0x231201

/-- OD 2400h.01 LOCK_BAND, U16, RW (R83). -/
abbrev OD.LOCK_BAND : Nat := 0x240001

/-- OD 2400h.02 LOCK_FRAMES, U8, RW (R83). -/
abbrev OD.LOCK_FRAMES : Nat := 0x240002

/-- OD 2400h.03 ACQ_LIMIT, U8, RW (R83). -/
abbrev OD.ACQ_LIMIT : Nat := 0x240003

/-- OD 2400h.04 ACQ_COUNT, U32, RO (R83). -/
abbrev OD.ACQ_COUNT : Nat := 0x240004

/-- OD 2400h.05 COAST_LIMIT, DUR, RW (R83). -/
abbrev OD.COAST_LIMIT : Nat := 0x240005

/-- OD 2400h.06 OBS_MIN, Q15, RW (R83). -/
abbrev OD.OBS_MIN : Nat := 0x240006

/-- OD 2400h.07 DRIFT_TAU, DUR, RW (R83). -/
abbrev OD.DRIFT_TAU : Nat := 0x240007

/-- OD 2400h.08 COEF_BUMPLESS, BOOL, RWS (R83). -/
abbrev OD.COEF_BUMPLESS : Nat := 0x240008

/-- OD 2400h.09 HOLD_CLEAR, U16, WO (R83). -/
abbrev OD.HOLD_CLEAR : Nat := 0x240009

/-- OD 2401h.01 LOOP_STATE, TABLE(U16), RO (R83). -/
abbrev OD.LOOP_STATE : Nat := 0x240101

/-- OD 2402h.01 LOOP_SELECT, TABLE(U16), RWS (R83). -/
abbrev OD.LOOP_SELECT : Nat := 0x240201

/-- OD 2403h.01 LOOP_LIMITS, TABLE(U64), RWS (R83). -/
abbrev OD.LOOP_LIMITS : Nat := 0x240301

/-- OD 2404h.01 COEF_SET, TABLE(U16), RWS (R83). -/
abbrev OD.COEF_SET : Nat := 0x240401

/-- OD 2405h.01 LOOP_MEAS, TABLE(I32), RO (R83). -/
abbrev OD.LOOP_MEAS : Nat := 0x240501

/-- OD 2406h.01 LOOP_SETPOINT, TABLE(I32), RO (R83). -/
abbrev OD.LOOP_SETPOINT : Nat := 0x240601

/-- OD 2407h.01 LOOP_DRIFT, TABLE(I32), RO (R83). -/
abbrev OD.LOOP_DRIFT : Nat := 0x240701

/-- OD 2408h.01 LOOP_OUTPUT, TABLE(I16), RO (R83). -/
abbrev OD.LOOP_OUTPUT : Nat := 0x240801

/-- OD 2409h.01 FE_TRIPS, U32, RC (R83). -/
abbrev OD.FE_TRIPS : Nat := 0x240901

/-- OD 2409h.02 ACQ_TIMEOUTS, U32, RC (R83). -/
abbrev OD.ACQ_TIMEOUTS : Nat := 0x240902

/-- OD 2409h.03 COAST_EXPIRIES, U32, RC (R83). -/
abbrev OD.COAST_EXPIRIES : Nat := 0x240903

/-- OD 2409h.04 MISSING_SAMPLES, U64, RC (R83). -/
abbrev OD.MISSING_SAMPLES : Nat := 0x240904

/-- OD 2409h.05 UNOBSERVABLE, U64, RC (R83). -/
abbrev OD.UNOBSERVABLE : Nat := 0x240905

/-- OD 2409h.06 TRIMS_ABANDONED, U32, RC (R83). -/
abbrev OD.TRIMS_ABANDONED : Nat := 0x240906

/-- OD 2500h.01 ACTIVE_IMAGE_ID, U32, RO (R102). -/
abbrev OD.ACTIVE_IMAGE_ID : Nat := 0x250001

/-- OD 2500h.02 ACTIVE_VERSION, U32, RO (R102). -/
abbrev OD.ACTIVE_VERSION : Nat := 0x250002

/-- OD 2500h.03 ACTIVE_KEY_ID, U8, RO (R102). -/
abbrev OD.ACTIVE_KEY_ID : Nat := 0x250003

/-- OD 2500h.04 LOAD_STATE, U8, RO (R102). -/
abbrev OD.LOAD_STATE : Nat := 0x250004

/-- OD 2500h.05 LOAD_RESULT, U32, RO (R102). -/
abbrev OD.LOAD_RESULT : Nat := 0x250005

/-- OD 2500h.06 LOAD_DETAIL, U32, RO (R102). -/
abbrev OD.LOAD_DETAIL : Nat := 0x250006

/-- OD 2500h.07 LOADS, U32, RO (R102). -/
abbrev OD.LOADS : Nat := 0x250007

/-- OD 2500h.08 REJECTS, U32, RC (R102). -/
abbrev OD.REJECTS : Nat := 0x250008

/-- OD 2500h.09 FIRST_MISMATCH, U16, RO (R102). -/
abbrev OD.FIRST_MISMATCH : Nat := 0x250009

/-- OD 2501h.01 UCODE_IMAGE, TABLE(U32), WO (R102). -/
abbrev OD.UCODE_IMAGE : Nat := 0x250101

/-- OD 2502h.01 LOAD_CMD, U8, WO (R102). -/
abbrev OD.LOAD_CMD : Nat := 0x250201

/-- OD 2502h.02 ACTIVATE_AT, TIME64, RW (R102). -/
abbrev OD.ACTIVATE_AT : Nat := 0x250202

/-- OD 2503h.01 FACTORY_KEY_ID, U32, CONST (R102). -/
abbrev OD.FACTORY_KEY_ID : Nat := 0x250301

/-- OD 2503h.02 OWNER_KEY, OCTET[64], WO (R102). -/
abbrev OD.OWNER_KEY : Nat := 0x250302

/-- OD 2503h.03 OWNER_KEY_SET, BOOL, RO (R102). -/
abbrev OD.OWNER_KEY_SET : Nat := 0x250303

/-- OD 2503h.04 OWNER_KEY_CLEAR, BOOL, WO (R102). -/
abbrev OD.OWNER_KEY_CLEAR : Nat := 0x250304

/-- OD 2504h.01 PROGRAM_BUDGET, TABLE(U8), RO (R102). -/
abbrev OD.PROGRAM_BUDGET : Nat := 0x250401

/-- OD 2505h.01 PROGRAM_STORE, TABLE(U16), RO (R102). -/
abbrev OD.PROGRAM_STORE : Nat := 0x250501

/-- OD 2506h.01 COACH_STATUS, TABLE(U32), RO (R102). -/
abbrev OD.COACH_STATUS : Nat := 0x250601

/-- OD 2507h.01 SLOT_OVERRUNS, U32, RC (R102). -/
abbrev OD.SLOT_OVERRUNS : Nat := 0x250701

/-- OD 2507h.02 ECC_CORRECTED, U32, RC (R102). -/
abbrev OD.ECC_CORRECTED : Nat := 0x250702

/-- OD 2507h.03 CABOOSE_OVERRUNS, U32, RC (R102). -/
abbrev OD.CABOOSE_OVERRUNS : Nat := 0x250703

/-- OD 2600h.01 DEGLITCH_NS, U16, RW, stop-only (R119). -/
abbrev OD.DEGLITCH_NS : Nat := 0x260001

/-- OD 2600h.02 CLEAR_STATE, U8, RO (R119). -/
abbrev OD.CLEAR_STATE : Nat := 0x260002

/-- OD 2600h.03 CLEAR_N_LEVEL, BOOL, RO (R119). -/
abbrev OD.CLEAR_N_LEVEL : Nat := 0x260003

/-- OD 2600h.04 CLEAR_COUNT, U32, RC (R119). -/
abbrev OD.CLEAR_COUNT : Nat := 0x260004

/-- OD 2601h.01 CLEAR_CODE, TABLE(U32), RW (R119). -/
abbrev OD.CLEAR_CODE : Nat := 0x260101

/-- OD 2602h.01 CEILING, TABLE(U32), RW (R119). -/
abbrev OD.CEILING : Nat := 0x260201

/-- OD 2603h.01 FACTORY_CEILING, TABLE(U32), RO (R119). -/
abbrev OD.FACTORY_CEILING : Nat := 0x260301

/-- OD 2604h.01 DRIVE_CODE, TABLE(U32), RO (R119). -/
abbrev OD.DRIVE_CODE : Nat := 0x260401

/-- OD 2605h.01 LATE_ENTRIES, U32, RC (R119). -/
abbrev OD.LATE_ENTRIES : Nat := 0x260501

/-- OD 2605h.02 CEILING_CLAMPS, U32, RC (R119). -/
abbrev OD.CEILING_CLAMPS : Nat := 0x260502

/-- OD 2605h.03 CEILING_VIOLATIONS, U32, RC (R119). -/
abbrev OD.CEILING_VIOLATIONS : Nat := 0x260503

/-- OD 2605h.04 TICK_COLLISIONS, U32, RC (R119). -/
abbrev OD.TICK_COLLISIONS : Nat := 0x260504

/-- OD 2605h.05 QUEUE_OVERFLOWS, U32, RC (R119). -/
abbrev OD.QUEUE_OVERFLOWS : Nat := 0x260505

/-- OD 2605h.06 MALFORMED_ENTRIES, U32, RC (R119). -/
abbrev OD.MALFORMED_ENTRIES : Nat := 0x260506

/-- OD 2605h.07 MOVE_DONE, U32, RO (R119). -/
abbrev OD.MOVE_DONE : Nat := 0x260507

/-- OD 2700h.01 OVLD_CHANNELS, U16, RO (R139). -/
abbrev OD.OVLD_CHANNELS : Nat := 0x270001

/-- OD 2700h.02 OVLD_RESULTS, U64, RC (R139). -/
abbrev OD.OVLD_RESULTS_2700 : Nat := 0x270002

/-- OD 2700h.03 CLIP_RESULTS, U64, RC (R139). -/
abbrev OD.CLIP_RESULTS : Nat := 0x270003

/-- OD 2701h.01 MON_RESULT, TABLE(U32), RO (R139). -/
abbrev OD.MON_RESULT : Nat := 0x270101

/-- OD 2702h.01 MON_CURRENT, TABLE(I32), RO (R139). -/
abbrev OD.MON_CURRENT : Nat := 0x270201

/-- OD 2710h.01 TENDER_FOR, U8, RO (R139). -/
abbrev OD.TENDER_FOR : Nat := 0x271001

/-- OD 2710h.02 LAST_EDGE, TIME64, RO (R139). -/
abbrev OD.LAST_EDGE : Nat := 0x271002

/-- OD 2710h.03 SCAN_CONVERSIONS, U64, RO (R139). -/
abbrev OD.SCAN_CONVERSIONS : Nat := 0x271003

/-- OD 2710h.04 OVLD_RESULTS, U32, RC (R139). -/
abbrev OD.OVLD_RESULTS_2710 : Nat := 0x271004

/-- OD 2711h.01 SOURCE_VALUE, TABLE(I32), RO (R139). -/
abbrev OD.SOURCE_VALUE : Nat := 0x271101

/-- OD 2712h.01 SOURCE_TIME, TABLE(TIME64), RO (R139). -/
abbrev OD.SOURCE_TIME : Nat := 0x271201

/-- OD 2720h.01 SEQ_ENABLE, BOOL, RW (R139). -/
abbrev OD.SEQ_ENABLE_2720 : Nat := 0x272001

/-- OD 2720h.02 TRIG_MODE, U8, RW, stop-only (R139). -/
abbrev OD.TRIG_MODE_2720 : Nat := 0x272002

/-- OD 2720h.03 ENTRY_COUNT, U16, RW, stop-only (R139). -/
abbrev OD.ENTRY_COUNT_2720 : Nat := 0x272003

/-- OD 2720h.04 TRIG_BASE, TIME64, RW, stop-only (R139). -/
abbrev OD.TRIG_BASE_2720 : Nat := 0x272004

/-- OD 2720h.05 TRIG_PERIOD, DUR, RW, stop-only (R139). -/
abbrev OD.TRIG_PERIOD_2720 : Nat := 0x272005

/-- OD 2720h.06 START, BOOL, WO (R139). -/
abbrev OD.START_2720 : Nat := 0x272006

/-- OD 2720h.07 SEQ_STATE, U8, RO (R139). -/
abbrev OD.SEQ_STATE_2720 : Nat := 0x272007

/-- OD 2720h.08 RUN_COUNT, U32, RO (R139). -/
abbrev OD.RUN_COUNT_2720 : Nat := 0x272008

/-- OD 2720h.09 TRIG_OVERRUNS, U32, RC (R139). -/
abbrev OD.TRIG_OVERRUNS_2720 : Nat := 0x272009

/-- OD 2720h.0A LAST_TRIGGER, TIME64, RO (R139). -/
abbrev OD.LAST_TRIGGER_2720 : Nat := 0x27200A

/-- OD 2720h.0B LAST_DONE, TIME64, RO (R139). -/
abbrev OD.LAST_DONE_2720 : Nat := 0x27200B

/-- OD 2720h.0C EVENT_ON_DONE, BOOL, RW (R139). -/
abbrev OD.EVENT_ON_DONE_2720 : Nat := 0x27200C

/-- OD 2720h.0D ENTRIES_ABANDONED, U32, RC (R139). -/
abbrev OD.ENTRIES_ABANDONED_2720 : Nat := 0x27200D

/-- OD 2728h.01 SEQ_ENTRIES, TABLE(U64), RW, stop-only (R139). -/
abbrev OD.SEQ_ENTRIES_2728 : Nat := 0x272801

/-- OD 2730h.01 SEQ_RESULTS, TABLE(OCTET[20]), RO (R139). -/
abbrev OD.SEQ_RESULTS_2730 : Nat := 0x273001

/-- OD 2738h.01 INJECT_REQUEST, U16, WO (R139). -/
abbrev OD.INJECT_REQUEST : Nat := 0x273801

/-- OD 2738h.02 INJECT_RESULT, OCTET[20], RO (R139). -/
abbrev OD.INJECT_RESULT : Nat := 0x273802

/-- OD 2738h.03 INJECT_STATE, U8, RO (R139). -/
abbrev OD.INJECT_STATE : Nat := 0x273803

/-- OD 2738h.04 INJECT_ACCEPTED, U32, RO (R139). -/
abbrev OD.INJECT_ACCEPTED : Nat := 0x273804

/-- OD 2738h.05 INJECT_DROPS, U32, RC (R139). -/
abbrev OD.INJECT_DROPS : Nat := 0x273805

/-- OD 2800h.01 TRIM_POLICY, U8, RW (R163). -/
abbrev OD.TRIM_POLICY : Nat := 0x280001

/-- OD 2800h.02 TRIM_INTERVAL, DUR, RW (R163). -/
abbrev OD.TRIM_INTERVAL : Nat := 0x280002

/-- OD 2800h.03 TRIM_BATCH, U8, RW (R163). -/
abbrev OD.TRIM_BATCH : Nat := 0x280003

/-- OD 2800h.04 MON_SWEEP_INTERVAL, DUR, RW (R163). -/
abbrev OD.MON_SWEEP_INTERVAL : Nat := 0x280004

/-- OD 2800h.05 SURVEY_CAL_INTERVAL, DUR, RW (R163). -/
abbrev OD.SURVEY_CAL_INTERVAL : Nat := 0x280005

/-- OD 2800h.06 REFINE_MAX, U16, RW (R163). -/
abbrev OD.REFINE_MAX : Nat := 0x280006

/-- OD 2800h.07 FRINGE_CAL_CMD, U8, WO (R163). -/
abbrev OD.FRINGE_CAL_CMD : Nat := 0x280007

/-- OD 2800h.08 CAL_ENABLE, BOOL, RW (R163). -/
abbrev OD.CAL_ENABLE : Nat := 0x280008

/-- OD 2800h.09 CURRENT_AGE, DUR, RW (R163). -/
abbrev OD.CURRENT_AGE : Nat := 0x280009

/-- OD 2800h.0A CAL_REQUEST, U32, WO (R163). -/
abbrev OD.CAL_REQUEST : Nat := 0x28000A

/-- OD 2801h.01 FRINGE_STATE, U8, RO (R163). -/
abbrev OD.FRINGE_STATE : Nat := 0x280101

/-- OD 2801h.02 FRINGE_MAPS, U8, RO (R163). -/
abbrev OD.FRINGE_MAPS : Nat := 0x280102

/-- OD 2801h.03 UNREACHED, U16, RO (R163). -/
abbrev OD.UNREACHED : Nat := 0x280103

/-- OD 2801h.04 PENDING_REQUESTS, U16, RO (R163). -/
abbrev OD.PENDING_REQUESTS : Nat := 0x280104

/-- OD 2801h.05 DISAGREEMENTS, U32, RC (R163). -/
abbrev OD.DISAGREEMENTS : Nat := 0x280105

/-- OD 2801h.06 CAL_FAILURES, U32, RC (R163). -/
abbrev OD.CAL_FAILURES : Nat := 0x280106

/-- OD 2801h.07 INJECT_DEFERRALS, U32, RC (R163). -/
abbrev OD.INJECT_DEFERRALS : Nat := 0x280107

/-- OD 2801h.08 TRIM_PREEMPTED, U32, RC (R163). -/
abbrev OD.TRIM_PREEMPTED : Nat := 0x280108

/-- OD 2801h.09 GAIN_SKIPPED, U32, RC (R163). -/
abbrev OD.GAIN_SKIPPED : Nat := 0x280109

/-- OD 2801h.0A NOT_CURRENT, U16, RO (R163). -/
abbrev OD.NOT_CURRENT : Nat := 0x28010A

/-- OD 2810h.01 TE_CAL_COUNT, TABLE(U32), RO (R163). -/
abbrev OD.TE_CAL_COUNT : Nat := 0x281001

/-- OD 2811h.01 TE_CAL_TIME, TABLE(TIME64), RO (R163). -/
abbrev OD.TE_CAL_TIME : Nat := 0x281101

/-- OD 2812h.01 MON_CAL_COUNT, TABLE(U32), RO (R163). -/
abbrev OD.MON_CAL_COUNT : Nat := 0x281201

/-- OD 2813h.01 MON_CAL_TIME, TABLE(TIME64), RO (R163). -/
abbrev OD.MON_CAL_TIME : Nat := 0x281301

/-- OD 2814h.01 MON_GAIN, TABLE(U32), RO (R163). -/
abbrev OD.MON_GAIN : Nat := 0x281401

/-- OD 2815h.01 MON_OFFSET, TABLE(I32), RO (R163). -/
abbrev OD.MON_OFFSET : Nat := 0x281501

/-- OD 2816h.01 MON_CAL_FLAGS, TABLE(U8), RO (R163). -/
abbrev OD.MON_CAL_FLAGS : Nat := 0x281601

/-- OD 2817h.01 SURV_CAL_COUNT, TABLE(U32), RO (R163). -/
abbrev OD.SURV_CAL_COUNT : Nat := 0x281701

/-- OD 2818h.01 SURV_CAL_TIME, TABLE(TIME64), RO (R163). -/
abbrev OD.SURV_CAL_TIME : Nat := 0x281801

/-- OD 2819h.01 SURV_GAIN, TABLE(U32), RO (R163). -/
abbrev OD.SURV_GAIN : Nat := 0x281901

/-- OD 281Ah.01 SURV_OFFSET, TABLE(I32), RO (R163). -/
abbrev OD.SURV_OFFSET : Nat := 0x281A01

/-- OD 281Bh.01 SURV_CAL_FLAGS, TABLE(U8), RO (R163). -/
abbrev OD.SURV_CAL_FLAGS : Nat := 0x281B01

/-- OD 2820h.01 FRINGE_TABLE, TABLE(I32), RO (R163). -/
abbrev OD.FRINGE_TABLE : Nat := 0x282001

/-- OD 2821h.01 NULL_TABLE, TABLE(I32), RO (R163). -/
abbrev OD.NULL_TABLE : Nat := 0x282101

/-- OD 2822h.01 DRIVE_TABLE, TABLE(U32), RO (R163). -/
abbrev OD.DRIVE_TABLE : Nat := 0x282201

/-- OD 2823h.01 CAL_MAPS, TABLE(U16), RW (R163). -/
abbrev OD.CAL_MAPS : Nat := 0x282301

/-- OD 2824h.01 CAL_MAP_COUNT, U8, RW (R163). -/
abbrev OD.CAL_MAP_COUNT : Nat := 0x282401

/-- OD 3000h.01 PORTS_ENABLED, U8, RO (R250). -/
abbrev OD.PORTS_ENABLED : Nat := 0x300001

/-- OD 3000h.02 PORTS_UP, U8, RO (R250). -/
abbrev OD.PORTS_UP : Nat := 0x300002

/-- OD 3000h.03 PIPE_CLOCK, U16, RO (R250). -/
abbrev OD.PIPE_CLOCK : Nat := 0x300003

/-- OD 3001h.01 PORT_CONFIG, TABLE(U32), RW (R250). -/
abbrev OD.PORT_CONFIG : Nat := 0x300101

/-- OD 3002h.01 LANE_STATE, TABLE(U8), RO (R250). -/
abbrev OD.LANE_STATE : Nat := 0x300201

/-- OD 3003h.01 PORT_RX_COUNTS, TABLE(U64), RO (R250). -/
abbrev OD.PORT_RX_COUNTS : Nat := 0x300301

/-- OD 3101h.01 PARSE_NODE, TABLE(U64), RWS (R250). -/
abbrev OD.PARSE_NODE : Nat := 0x310101

/-- OD 3102h.01 PARSE_TRANS, TABLE(U64), RWS (R250). -/
abbrev OD.PARSE_TRANS : Nat := 0x310201

/-- OD 3103h.01 PORT_PARSE, TABLE(U16), RWS (R250). -/
abbrev OD.PORT_PARSE : Nat := 0x310301

/-- OD 3200h.01 ACTIVE_ENTRIES, U32, RO (R250). -/
abbrev OD.ACTIVE_ENTRIES : Nat := 0x320001

/-- OD 3200h.02 SHADOW_ENTRIES, U32, RO (R250). -/
abbrev OD.SHADOW_ENTRIES : Nat := 0x320002

/-- OD 3200h.03 STASH_ACTIVE, U16, RO (R250). -/
abbrev OD.STASH_ACTIVE : Nat := 0x320003

/-- OD 3200h.04 STASH_SHADOW, U16, RO (R250). -/
abbrev OD.STASH_SHADOW : Nat := 0x320004

/-- OD 3200h.05 FROZEN, BOOL, RO (R250). -/
abbrev OD.FROZEN : Nat := 0x320005

/-- OD 3201h.01 KEY_PROFILE, TABLE(U32), RWS (R250). -/
abbrev OD.KEY_PROFILE : Nat := 0x320101

/-- OD 3202h.01 PROFILE_MAP, TABLE(U8), RWS (R250). -/
abbrev OD.PROFILE_MAP : Nat := 0x320201

/-- OD 3203h.01 CLASS_TABLE, TABLE(OCTET[64]), RWS (R250). -/
abbrev OD.CLASS_TABLE : Nat := 0x320301

/-- OD 3204h.01 PORT_ACTIONS, TABLE(OCTET[16]), RWS (R250). -/
abbrev OD.PORT_ACTIONS : Nat := 0x320401

/-- OD 3210h.01 CLASS_CMD, U8, WO (R250). -/
abbrev OD.CLASS_CMD : Nat := 0x321001

/-- OD 3210h.02 CLASS_STAGE, OCTET[64], RW (R250). -/
abbrev OD.CLASS_STAGE : Nat := 0x321002

/-- OD 3210h.03 CLASS_RESULT, U32, RO (R250). -/
abbrev OD.CLASS_RESULT : Nat := 0x321003

/-- OD 3210h.04 CLASS_POSITION, U32, RO (R250). -/
abbrev OD.CLASS_POSITION : Nat := 0x321004

/-- OD 3210h.05 CLASS_MOVES, U8, RO (R250). -/
abbrev OD.CLASS_MOVES : Nat := 0x321005

/-- OD 3211h.01 INGRESS_OVERRUNS, U64, RC (R250). -/
abbrev OD.INGRESS_OVERRUNS : Nat := 0x321101

/-- OD 3211h.02 RECIRC_DROPS, U64, RC (R250). -/
abbrev OD.RECIRC_DROPS : Nat := 0x321102

/-- OD 3211h.03 RECIRC_STALE, U64, RC (R250). -/
abbrev OD.RECIRC_STALE : Nat := 0x321103

/-- OD 3211h.04 PARSE_TRUNC, U64, RC (R250). -/
abbrev OD.PARSE_TRUNC : Nat := 0x321104

/-- OD 3211h.05 MALFORMED, U64, RC (R250). -/
abbrev OD.MALFORMED_3211 : Nat := 0x321105

/-- OD 3211h.06 LOOKUP_HITS, U64, RC (R250). -/
abbrev OD.LOOKUP_HITS : Nat := 0x321106

/-- OD 3211h.07 LOOKUP_MISSES, U64, RC (R250). -/
abbrev OD.LOOKUP_MISSES : Nat := 0x321107

/-- OD 3211h.08 RECIRC_LIMIT, U64, RC (R250). -/
abbrev OD.RECIRC_LIMIT : Nat := 0x321108

/-- OD 3211h.09 NO_PORT, U64, RC (R250). -/
abbrev OD.NO_PORT : Nat := 0x321109

/-- OD 3211h.0A VLAN_SKIPPED, U64, RC (R250). -/
abbrev OD.VLAN_SKIPPED : Nat := 0x32110A

/-- OD 3300h.01 CELLS_FREE, U32, RO (R274). -/
abbrev OD.CELLS_FREE : Nat := 0x330001

/-- OD 3300h.02 SHARED_SIZE, U32, RO (R274). -/
abbrev OD.SHARED_SIZE : Nat := 0x330002

/-- OD 3300h.03 SHARED_USED, U32, RO (R274). -/
abbrev OD.SHARED_USED : Nat := 0x330003

/-- OD 3300h.04 RESERVE_SUM, U32, RO (R274). -/
abbrev OD.RESERVE_SUM : Nat := 0x330004

/-- OD 3300h.05 PEAK_USED, U32, RC (R274). -/
abbrev OD.PEAK_USED : Nat := 0x330005

/-- OD 3301h.01 QUEUE_CONFIG, TABLE(U64), RW (R274). -/
abbrev OD.QUEUE_CONFIG : Nat := 0x330101

/-- OD 3302h.01 BUF_PROFILE, TABLE(U64), RW (R274). -/
abbrev OD.BUF_PROFILE : Nat := 0x330201

/-- OD 3303h.01 PORT_EGRESS, TABLE(U8), RW (R274). -/
abbrev OD.PORT_EGRESS : Nat := 0x330301

/-- OD 3304h.01 QUEUE_DEPTH, TABLE(U32), RO (R274). -/
abbrev OD.QUEUE_DEPTH : Nat := 0x330401

/-- OD 3305h.01 QUEUE_COUNTS, TABLE(U64), RO (R274). -/
abbrev OD.QUEUE_COUNTS : Nat := 0x330501

/-- OD 3306h.01 MIRROR_SESSION, TABLE(U32), RW (R274). -/
abbrev OD.MIRROR_SESSION : Nat := 0x330601

/-- OD 3310h.01 PORT_DOWN_FLUSH, DUR, RW (R274). -/
abbrev OD.PORT_DOWN_FLUSH : Nat := 0x331001

/-- OD 3311h.01 ADMIT_DROPS_G, U64, RC (R274). -/
abbrev OD.ADMIT_DROPS_G : Nat := 0x331101

/-- OD 3311h.02 ADMIT_DROPS_Y, U64, RC (R274). -/
abbrev OD.ADMIT_DROPS_Y : Nat := 0x331102

/-- OD 3311h.03 ADMIT_DROPS_R, U64, RC (R274). -/
abbrev OD.ADMIT_DROPS_R : Nat := 0x331103

/-- OD 3311h.04 RED_DROPS, U64, RC (R274). -/
abbrev OD.RED_DROPS : Nat := 0x331104

/-- OD 3311h.05 QUEUE_DISABLED, U64, RC (R274). -/
abbrev OD.QUEUE_DISABLED : Nat := 0x331105

/-- OD 3311h.06 DOWN_DROPS, U64, RC (R274). -/
abbrev OD.DOWN_DROPS : Nat := 0x331106

/-- OD 3311h.07 FLUSH_DROPS, U64, RC (R274). -/
abbrev OD.FLUSH_DROPS : Nat := 0x331107

/-- OD 3311h.08 MIRROR_DROPS, U64, RC (R274). -/
abbrev OD.MIRROR_DROPS : Nat := 0x331108

/-- OD 3311h.09 GATE_HOLDS, U64, RC (R274). -/
abbrev OD.GATE_HOLDS : Nat := 0x331109

/-- OD 3311h.0A GATE_OVERSIZE, U64, RC (R274). -/
abbrev OD.GATE_OVERSIZE : Nat := 0x33110A

/-- OD 3311h.0B BUFFER_ECC_DROPS, U64, RC (R274). -/
abbrev OD.BUFFER_ECC_DROPS : Nat := 0x33110B

/-- OD 3311h.0C POOL_EMPTY, U64, RC (R274). -/
abbrev OD.POOL_EMPTY : Nat := 0x33110C

/-- OD 3401h.01 METER_CONFIG, TABLE(OCTET[16]), RW (R274). -/
abbrev OD.METER_CONFIG : Nat := 0x340101

/-- OD 3402h.01 METER_COUNTS, TABLE(U64), RO (R274). -/
abbrev OD.METER_COUNTS : Nat := 0x340201

/-- OD 3410h.01 SHAPER_CONFIG, TABLE(OCTET[16]), RW (R274). DEDUCED: its elements are 0 at reset, as R274's table says, OVERHEAD among
them, where the field map of R262 gives OVERHEAD the reset 14h (log 29). -/
abbrev OD.SHAPER_CONFIG : Nat := 0x341001

/-- OD 3411h.01 SHAPER_CREDIT, TABLE(I32), RO (R274). -/
abbrev OD.SHAPER_CREDIT : Nat := 0x341101

/-- OD 3500h.01 GATE_PORT, TABLE(U16), RWS (R274). -/
abbrev OD.GATE_PORT : Nat := 0x350001

/-- OD 3501h.01 GATE_BASE, TABLE(TIME64), RWS (R274). -/
abbrev OD.GATE_BASE : Nat := 0x350101

/-- OD 3502h.01 GATE_LIST, TABLE(U64), RWS (R274). -/
abbrev OD.GATE_LIST : Nat := 0x350201

/-- OD 3503h.01 GATE_CYCLE, TABLE(DUR), RO (R274). -/
abbrev OD.GATE_CYCLE : Nat := 0x350301

/-- OD 3504h.01 GATE_WINDOW, TABLE(DUR), RO (R274). -/
abbrev OD.GATE_WINDOW : Nat := 0x350401

/-- OD 3505h.01 GATE_STATE, TABLE(U32), RO (R274). -/
abbrev OD.GATE_STATE : Nat := 0x350501

/-- OD 3600h.01 FLOW_CONTEXT, TABLE(OCTET[48]), RO (R274). -/
abbrev OD.FLOW_CONTEXT : Nat := 0x360001

/-- OD 3601h.01 FLOW_CMD, U32, WO (R274). -/
abbrev OD.FLOW_CMD : Nat := 0x360101

/-- OD 4000h.01 FAULT_TOP, U64, RO (R344). -/
abbrev OD.FAULT_TOP : Nat := 0x400001

/-- OD 4000h.02 FIRST_SOURCE, U16, RO (R344). -/
abbrev OD.FIRST_SOURCE : Nat := 0x400002

/-- OD 4000h.03 FIRST_SEVERITY, U8, RO (R344). -/
abbrev OD.FIRST_SEVERITY : Nat := 0x400003

/-- OD 4000h.04 FIRST_TIME, TIME64, RO (R344). -/
abbrev OD.FIRST_TIME : Nat := 0x400004

/-- OD 4000h.05 FIRST_FRAME, U16, RO (R344). -/
abbrev OD.FIRST_FRAME : Nat := 0x400005

/-- OD 4000h.06 OVERFLOW, BOOL, RO (R344). -/
abbrev OD.OVERFLOW : Nat := 0x400006

/-- OD 4000h.07 LOG_NEXT, U32, RO (R344). -/
abbrev OD.LOG_NEXT : Nat := 0x400007

/-- OD 4000h.08 HALT_RECORD, OCTET[24], RO (R344). -/
abbrev OD.HALT_RECORD : Nat := 0x400008

/-- OD 4001h.01 PIN_MODE, U8, RW (R344). -/
abbrev OD.PIN_MODE : Nat := 0x400101

/-- OD 4001h.02 PIN_THRESHOLD, U8, RW (R344). -/
abbrev OD.PIN_THRESHOLD : Nat := 0x400102

/-- OD 4001h.03 PULSE_WIDTH, DUR, RW (R344). -/
abbrev OD.PULSE_WIDTH : Nat := 0x400103

/-- OD 4001h.04 PIN_REARM, BOOL, WO (R344). -/
abbrev OD.PIN_REARM : Nat := 0x400104

/-- OD 4001h.05 PIN_STATE, BOOL, RO (R344). -/
abbrev OD.PIN_STATE : Nat := 0x400105

/-- OD 4002h.01 CLEAR_SOURCE, U16, WO (R344). -/
abbrev OD.CLEAR_SOURCE : Nat := 0x400201

/-- OD 4002h.02 FIRST_CLEAR, BOOL, WO (R344). -/
abbrev OD.FIRST_CLEAR : Nat := 0x400202

/-- OD 4003h.01 GROUP_STATUS, TABLE(U64), RO (R344). -/
abbrev OD.GROUP_STATUS : Nat := 0x400301

/-- OD 4004h.01 GROUP_LIVE, TABLE(U64), RO (R344). -/
abbrev OD.GROUP_LIVE : Nat := 0x400401

/-- OD 4005h.01 SOURCE_CONFIG, TABLE(U32), RW (R344). -/
abbrev OD.SOURCE_CONFIG : Nat := 0x400501

/-- OD 4006h.01 SOURCE_COUNT, TABLE(U32), RO (R344). -/
abbrev OD.SOURCE_COUNT : Nat := 0x400601

/-- OD 4007h.01 FAULT_LOG, TABLE(OCTET[24]), RO (R344). -/
abbrev OD.FAULT_LOG : Nat := 0x400701

/-- OD 4010h.01 ECC_INJECT, U16, WO (R344). -/
abbrev OD.ECC_INJECT : Nat := 0x401001

/-- OD 4100h.01 POWER_STATE, U8, RO (R363). -/
abbrev OD.POWER_STATE : Nat := 0x410001

/-- OD 4100h.02 POWER_CHANGING, BOOL, RO (R363). -/
abbrev OD.POWER_CHANGING : Nat := 0x410002

/-- OD 4100h.03 RESTORE_PENDING, BOOL, RO (R363). -/
abbrev OD.RESTORE_PENDING : Nat := 0x410003

/-- OD 4100h.04 THROTTLE_STEP, U8, RO (R363). -/
abbrev OD.THROTTLE_STEP : Nat := 0x410004

/-- OD 4100h.05 THROTTLE_STEPS, U32, RC (R363). -/
abbrev OD.THROTTLE_STEPS : Nat := 0x410005

/-- OD 4100h.06 SHUTDOWNS, U32, RO (R363). -/
abbrev OD.SHUTDOWNS : Nat := 0x410006

/-- OD 4100h.07 LAST_SHUTDOWN, TIME64, RO (R363). -/
abbrev OD.LAST_SHUTDOWN : Nat := 0x410007

/-- OD 4100h.08 SHUTDOWN_FORM, U8, RO (R363). -/
abbrev OD.SHUTDOWN_FORM : Nat := 0x410008

/-- OD 4101h.01 POWER_CMD, U8, WO (R363). -/
abbrev OD.POWER_CMD : Nat := 0x410101

/-- OD 4101h.02 POWER_AT_READY, U8, RW (R363). -/
abbrev OD.POWER_AT_READY : Nat := 0x410102

/-- OD 4110h.01 ZONE_LEVELS, TABLE(U64), RW (R363). -/
abbrev OD.ZONE_LEVELS : Nat := 0x411001

/-- OD 4111h.01 ZONE_TEMP, TABLE(I32), RO (R363). -/
abbrev OD.ZONE_TEMP : Nat := 0x411101

/-- OD 4112h.01 ZONE_STATE, TABLE(U8), RO (R363). -/
abbrev OD.ZONE_STATE : Nat := 0x411201

/-- OD 4113h.01 ZONE_OVERRIDE, TABLE(U8), RW (R363). -/
abbrev OD.ZONE_OVERRIDE : Nat := 0x411301

/-- OD 4114h.01 SENSOR_STATE, TABLE(U8), RO (R363). -/
abbrev OD.SENSOR_STATE : Nat := 0x411401

/-- OD 4115h.01 SENSOR_ZONE, TABLE(U8), CONST (R363). -/
abbrev OD.SENSOR_ZONE : Nat := 0x411501

/-- OD 4200h.01 BOOT_STATE, U8, RO (R376). -/
abbrev OD.BOOT_STATE : Nat := 0x420001

/-- OD 4200h.02 BOOT_STEP, U8, RO (R376). -/
abbrev OD.BOOT_STEP : Nat := 0x420002

/-- OD 4200h.03 RESET_CAUSE, U8, RO (R376). -/
abbrev OD.RESET_CAUSE : Nat := 0x420003

/-- OD 4200h.04 BOOT_MODE, U8, RO (R376). -/
abbrev OD.BOOT_MODE : Nat := 0x420004

/-- OD 4200h.05 BOOT_COUNT, U32, RO (R376). -/
abbrev OD.BOOT_COUNT : Nat := 0x420005

/-- OD 4200h.06 RECORD_HEAD, U8, RO (R376). -/
abbrev OD.RECORD_HEAD : Nat := 0x420006

/-- OD 4200h.07 RECORD_LOST, U8, RO (R376). -/
abbrev OD.RECORD_LOST : Nat := 0x420007

/-- OD 4200h.08 KEY_RECOVERED, BOOL, RO (R376). -/
abbrev OD.KEY_RECOVERED : Nat := 0x420008

/-- OD 4200h.09 ALT_IN_FORCE, U16, RO (R376). -/
abbrev OD.ALT_IN_FORCE : Nat := 0x420009

/-- OD 4201h.01 RESTART_CMD, U8, WO (R376). -/
abbrev OD.RESTART_CMD : Nat := 0x420101

/-- OD 4201h.02 ALT_CLEAR, U16, WO (R376). -/
abbrev OD.ALT_CLEAR : Nat := 0x420102

/-- OD 4201h.03 BOOT_TIME_WAIT, DUR, RW (R376). -/
abbrev OD.BOOT_TIME_WAIT : Nat := 0x420103

/-- OD 4202h.01 BOOT_RECORD, TABLE(OCTET[64]), RO (R376). -/
abbrev OD.BOOT_RECORD : Nat := 0x420201

/-- OD 4203h.01 LANE_BOOT_FAILED, TABLE(BOOL), RW (R376). -/
abbrev OD.LANE_BOOT_FAILED : Nat := 0x420301

/-- OD 4204h.01 DARK_FAIL, TABLE(BOOL), RO (R376). -/
abbrev OD.DARK_FAIL : Nat := 0x420401

/-- OD 4300h.01 PERF_STATUS, U8, RO (R394). -/
abbrev OD.PERF_STATUS : Nat := 0x430001

/-- OD 4300h.02 WRAP_CLEAR, U16, WO (R394). -/
abbrev OD.WRAP_CLEAR : Nat := 0x430002

/-- OD 4301h.01 PERF_CONFIG, TABLE(U32), RW (R394). -/
abbrev OD.PERF_CONFIG : Nat := 0x430101

/-- OD 4302h.01 PERF_COUNT, TABLE(U64), RO (R394). -/
abbrev OD.PERF_COUNT : Nat := 0x430201

/-- OD 4310h.01 SNAP_LAST_ID, U32, RO (R394). -/
abbrev OD.SNAP_LAST_ID : Nat := 0x431001

/-- OD 4310h.02 SNAP_LAST_TIME, TIME64, RO (R394). -/
abbrev OD.SNAP_LAST_TIME : Nat := 0x431002

/-- OD 4310h.03 SNAP_PENDING, U8, RO (R394). -/
abbrev OD.SNAP_PENDING : Nat := 0x431003

/-- OD 4311h.01 SNAP_QUEUE, TABLE(TIME64), RO (R394). -/
abbrev OD.SNAP_QUEUE : Nat := 0x431101

/-- OD 4320h.01 BW_WINDOW, U32, RW (R394). -/
abbrev OD.BW_WINDOW : Nat := 0x432001

/-- OD 4320h.02 BW_LAST_END, TIME64, RO (R394). -/
abbrev OD.BW_LAST_END : Nat := 0x432002

/-- OD 4320h.03 BW_PEAK_CLEAR, BOOL, WO (R394). -/
abbrev OD.BW_PEAK_CLEAR : Nat := 0x432003

/-- OD 4321h.01 BW_RESULT, TABLE(U64), RO (R394). -/
abbrev OD.BW_RESULT : Nat := 0x432101

/-- OD 4330h.01 MATRIX_SLICES, U16, RW (R394). -/
abbrev OD.MATRIX_SLICES : Nat := 0x433001

/-- OD 4330h.02 SLICES_IN_FORCE, U16, RO (R394). -/
abbrev OD.SLICES_IN_FORCE : Nat := 0x433002

/-- OD 4331h.01 MATRIX_COUNTS, TABLE(U64), RO (R394). -/
abbrev OD.MATRIX_COUNTS : Nat := 0x433101

/-- OD 4400h.01 TEST_CLEAR, U16, WO (R394). -/
abbrev OD.TEST_CLEAR : Nat := 0x440001

/-- OD 4400h.02 TEST_INJECT, U16, WO (R394). -/
abbrev OD.TEST_INJECT : Nat := 0x440002

/-- OD 4401h.01 TEST_CONFIG, TABLE(U32), RW (R394). -/
abbrev OD.TEST_CONFIG : Nat := 0x440101

/-- OD 4402h.01 TEST_RESULT, TABLE(U64), RO (R394). -/
abbrev OD.TEST_RESULT : Nat := 0x440201

/-- OD 4410h.01 PROVE_CMD, U32, WO (R394). -/
abbrev OD.PROVE_CMD : Nat := 0x441001

/-- OD 4410h.02 PROVE_TIME, DUR, RW (R394). -/
abbrev OD.PROVE_TIME : Nat := 0x441002

/-- OD 4410h.03 PROVE_RESULT, OCTET[24], RO (R394). -/
abbrev OD.PROVE_RESULT : Nat := 0x441003

/-- OD 4F00h.01 RAW_LOCATE, U32, RW (R306). -/
abbrev OD.RAW_LOCATE : Nat := 0x4F0001

/-- OD 4F00h.02 RAW_ADDR, U32, RO (R306). -/
abbrev OD.RAW_ADDR : Nat := 0x4F0002

/-- OD 4F00h.03 RAW_WORDS, U16, RO (R306). -/
abbrev OD.RAW_WORDS : Nat := 0x4F0003

/-- OD 4F00h.04 RAW_DECODE_ERR, BOOL, RC (R306). -/
abbrev OD.RAW_DECODE_ERR : Nat := 0x4F0004

/-- OD 4F00h.05 RAW_REFUSED, U32, RC (R306). -/
abbrev OD.RAW_REFUSED : Nat := 0x4F0005

/-- OD 4F01h.01 RAW_WINDOW, TABLE(U32), RW (R306). -/
abbrev OD.RAW_WINDOW : Nat := 0x4F0101

/-- Objects of the index range 1000h to 10FFh (R301). -/
def Dict.rows10 : List ObjRow := [
  ⟨0x100000, .u 1, .const, 0, .nat 5, .any⟩,
  ⟨0x100001, .str 16, .const, 0, .nat 0x4a616c746f6e, .any⟩,
  ⟨0x100002, .str 16, .const, 0, .nat 0x5058333834, .any⟩,
  ⟨0x100003, .str 16, .const, 0, .special, .any⟩,
  ⟨0x100004, .str 4, .const, 0, .special, .any⟩,
  ⟨0x100005, .u 4, .const, 0, .nat 65536, .any⟩]

/-- Objects of the index range 1100h to 11FFh, part 1 (R301). -/
def Dict.rows11_1 : List ObjRow := [
  ⟨0x110000, .u 1, .const, 0, .nat 10, .any⟩,
  ⟨0x110001, .u 2, .const, 0, .nat 47990, .any⟩,
  ⟨0x110002, .u 2, .const, 0, .nat 1232, .any⟩,
  ⟨0x110003, .u 4, .rc, 0, .nat 0, .any⟩,
  ⟨0x110004, .u 4, .rc, 0, .nat 0, .any⟩,
  ⟨0x110005, .u 4, .rc, 0, .nat 0, .any⟩,
  ⟨0x110006, .u 4, .rc, 0, .nat 0, .any⟩,
  ⟨0x110007, .u 4, .rc, 0, .nat 0, .any⟩,
  ⟨0x110008, .u 8, .ro, 0, .nat 0, .any⟩,
  ⟨0x110009, .u 4, .rc, 0, .nat 0, .any⟩,
  ⟨0x11000A, .u 1, .ro, 0, .nat 0, .any⟩,
  ⟨0x111000, .u 1, .const, 0, .nat 5, .any⟩,
  ⟨0x111001, .octet 32, .wo, 0, .nat 0, .any⟩,
  ⟨0x111002, .octet 32, .wo, 0, .nat 0, .any⟩,
  ⟨0x111003, .octet 32, .wo, 0, .nat 0, .any⟩,
  ⟨0x111004, .octet 32, .wo, 0, .nat 0, .any⟩,
  ⟨0x111005, .u 1, .ro, 0, .nat 1, .any⟩,
  ⟨0x111100, .u 1, .const, 0, .nat 1, .any⟩,
  ⟨0x111101, .u 8, .ro, 4, .nat 0, .any⟩,
  ⟨0x111200, .u 1, .const, 0, .nat 1, .any⟩,
  ⟨0x111201, .u 8, .ro, 4, .nat 0, .any⟩,
  ⟨0x112000, .u 1, .const, 0, .nat 12, .any⟩,
  ⟨0x112001, .octet 6, .const, 0, .special, .any⟩,
  ⟨0x112002, .octet 4, .rw, 0, .nat 0, .any⟩,
  ⟨0x112003, .u 1, .rw, 0, .nat 0, .nat 0 32⟩,
  ⟨0x112004, .octet 4, .rw, 0, .nat 0, .any⟩,
  ⟨0x112005, .octet 16, .rw, 0, .nat 0, .any⟩,
  ⟨0x112006, .u 1, .rw, 0, .nat 0, .nat 0 128⟩,
  ⟨0x112007, .octet 16, .rw, 0, .nat 0, .any⟩,
  ⟨0x112008, .u 1, .rw, 0, .nat 0, .nat 0 31⟩,
  ⟨0x112009, .u 1, .rw, 0, .nat 0, .nat 0 1⟩,
  ⟨0x11200A, .u 2, .ro, 0, .nat 0, .any⟩,
  ⟨0x11200B, .u 4, .rc, 0, .nat 0, .any⟩,
  ⟨0x11200C, .u 4, .rc, 0, .nat 0, .any⟩,
  ⟨0x112100, .u 1, .const, 0, .nat 12, .any⟩,
  ⟨0x112101, .octet 6, .const, 0, .special, .any⟩,
  ⟨0x112102, .octet 4, .rw, 0, .nat 0, .any⟩,
  ⟨0x112103, .u 1, .rw, 0, .nat 0, .nat 0 32⟩,
  ⟨0x112104, .octet 4, .rw, 0, .nat 0, .any⟩,
  ⟨0x112105, .octet 16, .rw, 0, .nat 0, .any⟩]

/-- Objects of the index range 1100h to 11FFh, part 2 (R301). -/
def Dict.rows11_2 : List ObjRow := [
  ⟨0x112106, .u 1, .rw, 0, .nat 0, .nat 0 128⟩,
  ⟨0x112107, .octet 16, .rw, 0, .nat 0, .any⟩,
  ⟨0x112108, .u 1, .rw, 0, .nat 1, .nat 0 31⟩,
  ⟨0x112109, .u 1, .rw, 0, .nat 0, .nat 0 1⟩,
  ⟨0x11210A, .u 2, .ro, 0, .nat 0, .any⟩,
  ⟨0x11210B, .u 4, .rc, 0, .nat 0, .any⟩,
  ⟨0x11210C, .u 4, .rc, 0, .nat 0, .any⟩]

/-- Objects of the index range 1100h to 11FFh (R301). -/
def Dict.rows11 : List ObjRow := Dict.rows11_1 ++ Dict.rows11_2

/-- Objects of the index range 1200h to 12FFh (R301). -/
def Dict.rows12 : List ObjRow := [
  ⟨0x120000, .u 1, .const, 0, .nat 13, .any⟩,
  ⟨0x120001, .u 1, .ro, 0, .nat 255, .any⟩,
  ⟨0x120002, .u 1, .ro, 0, .nat 2, .any⟩,
  ⟨0x120003, .bool, .ro, 0, .nat 1, .any⟩,
  ⟨0x120004, .u 1, .ro, 0, .nat 0, .any⟩,
  ⟨0x120005, .u 1, .ro, 0, .nat 0, .any⟩,
  ⟨0x120006, .u 8, .ro, 0, .nat 0, .any⟩,
  ⟨0x120007, .u 8, .ro, 0, .nat 0, .any⟩,
  ⟨0x120008, .u 4, .ro, 0, .nat 0, .any⟩,
  ⟨0x120009, .u 1, .ro, 0, .nat 0, .any⟩,
  ⟨0x12000A, .u 8, .ro, 0, .nat 0, .any⟩,
  ⟨0x12000B, .u 4, .rc, 0, .nat 0, .any⟩,
  ⟨0x12000C, .octet 32, .ro, 0, .nat 0, .any⟩,
  ⟨0x12000D, .u 4, .ro, 0, .nat 0, .any⟩,
  ⟨0x120100, .u 1, .const, 0, .nat 4, .any⟩,
  ⟨0x120101, .u 1, .rw, 0, .nat 0, .nat 0 1⟩,
  ⟨0x120102, .u 8, .rw, 0, .nat 2000000000, .nat 100000000 60000000000⟩,
  ⟨0x120103, .u 8, .rw, 0, .nat 4000000000, .nat 1000000000 10000000000⟩,
  ⟨0x120104, .u 4, .rc, 0, .nat 0, .any⟩]

/-- Objects of the index range 1300h to 13FFh, part 1 (R301). -/
def Dict.rows13_1 : List ObjRow := [
  ⟨0x130000, .u 1, .const, 0, .nat 11, .any⟩,
  ⟨0x130001, .time64, .ro, 0, .nat 0, .any⟩,
  ⟨0x130002, .u 1, .ro, 0, .nat 0, .any⟩,
  ⟨0x130003, .u 1, .ro, 0, .nat 255, .any⟩,
  ⟨0x130004, .i 8, .ro, 0, .nat 0, .any⟩,
  ⟨0x130005, .i 4, .ro, 0, .nat 0, .any⟩,
  ⟨0x130006, .u 8, .ro, 0, .nat 0, .any⟩,
  ⟨0x130007, .u 4, .ro, 0, .nat 0, .any⟩,
  ⟨0x130008, .u 4, .ro, 0, .nat 0, .any⟩,
  ⟨0x130009, .u 2, .ro, 0, .nat 0, .any⟩,
  ⟨0x13000A, .i 2, .ro, 0, .nat 0, .any⟩,
  ⟨0x13000B, .i 8, .ro, 0, .nat 0, .any⟩,
  ⟨0x130100, .u 1, .const, 0, .nat 9, .any⟩,
  ⟨0x130101, .u 1, .rw, 0, .nat 2, .nat 0 4⟩,
  ⟨0x130102, .u 1, .rw, 0, .nat 0, .nat 0 1⟩,
  ⟨0x130103, .u 8, .rw, 0, .nat 1000000, .nat 100000 1000000000⟩,
  ⟨0x130104, .u 2, .rw, 0, .nat 100, .nat 1 150⟩,
  ⟨0x130105, .u 8, .rw, 0, .nat 100, .nat 10 10000⟩,
  ⟨0x130106, .u 1, .rw, 0, .nat 16, .nat 4 255⟩,
  ⟨0x130107, .u 8, .rw, 0, .nat 3000000000, .nat 100000000 60000000000⟩,
  ⟨0x130108, .bool, .wo, 0, .nat 0, .nat 1 1⟩,
  ⟨0x130109, .time64, .wo, 0, .nat 0, .any⟩,
  ⟨0x130200, .u 1, .const, 0, .nat 10, .any⟩,
  ⟨0x130201, .bool, .rw, 0, .nat 1, .any⟩,
  ⟨0x130202, .u 1, .rw, 0, .nat 0, .nat 0 127⟩,
  ⟨0x130203, .u 1, .rwStop, 0, .nat 0, .nat 0 2⟩,
  ⟨0x130204, .u 1, .rwStop, 0, .nat 0, .nat 0 1⟩,
  ⟨0x130205, .u 1, .rw, 0, .nat 1, .nat 0 1⟩,
  ⟨0x130206, .i 1, .rw, 0, .nat 0, .int (-4) (3)⟩,
  ⟨0x130207, .u 8, .rw, 0, .nat 0, .nat 0 1000⟩,
  ⟨0x130208, .u 8, .rw, 0, .nat 0, .nat 0 1000⟩,
  ⟨0x130209, .i 4, .rw, 0, .nat 0, .int (-100000) 100000⟩,
  ⟨0x13020A, .u 1, .ro, 0, .nat 1, .any⟩,
  ⟨0x130300, .u 1, .const, 0, .nat 10, .any⟩,
  ⟨0x130301, .bool, .rw, 0, .nat 1, .any⟩,
  ⟨0x130302, .u 1, .rw, 0, .nat 0, .nat 0 127⟩,
  ⟨0x130303, .u 1, .rwStop, 0, .nat 0, .nat 0 2⟩,
  ⟨0x130304, .u 1, .rwStop, 0, .nat 0, .nat 0 1⟩,
  ⟨0x130305, .u 1, .rw, 0, .nat 1, .nat 0 1⟩,
  ⟨0x130306, .i 1, .rw, 0, .nat 0, .int (-4) (3)⟩]

/-- Objects of the index range 1300h to 13FFh, part 2 (R301). -/
def Dict.rows13_2 : List ObjRow := [
  ⟨0x130307, .u 8, .rw, 0, .nat 0, .nat 0 1000⟩,
  ⟨0x130308, .u 8, .rw, 0, .nat 0, .nat 0 1000⟩,
  ⟨0x130309, .i 4, .rw, 0, .nat 0, .int (-100000) 100000⟩,
  ⟨0x13030A, .u 1, .ro, 0, .nat 1, .any⟩,
  ⟨0x130400, .u 1, .const, 0, .nat 7, .any⟩,
  ⟨0x130401, .u 1, .rw, 0, .nat 0, .nat 0 1⟩,
  ⟨0x130402, .u 8, .rw, 0, .nat 0, .nat 0 100000⟩,
  ⟨0x130403, .u 1, .rw, 0, .nat 2, .nat 0 2⟩,
  ⟨0x130404, .u 8, .rw, 0, .nat 100000000, .nat 1000 500000000⟩,
  ⟨0x130405, .u 8, .rw, 0, .nat 0, .nat 0 1000⟩,
  ⟨0x130406, .time64, .ro, 0, .nat 0, .any⟩,
  ⟨0x130407, .u 4, .rc, 0, .nat 0, .any⟩]

/-- Objects of the index range 1300h to 13FFh (R301). -/
def Dict.rows13 : List ObjRow := Dict.rows13_1 ++ Dict.rows13_2

/-- Objects of the index range 1400h to 14FFh (R301). -/
def Dict.rows14 : List ObjRow := [
  ⟨0x140000, .u 1, .const, 0, .nat 8, .any⟩,
  ⟨0x140001, .u 1, .ro, 0, .nat 0, .any⟩,
  ⟨0x140002, .time64, .ro, 0, .nat 0, .any⟩,
  ⟨0x140003, .u 4, .ro, 0, .nat 0, .any⟩,
  ⟨0x140004, .time64, .ro, 0, .nat 0, .any⟩,
  ⟨0x140005, .time64, .ro, 0, .nat 0, .any⟩,
  ⟨0x140006, .time64, .ro, 0, .nat 0, .any⟩,
  ⟨0x140007, .u 1, .ro, 0, .nat 0, .any⟩,
  ⟨0x140008, .u 4, .ro, 0, .nat 0, .any⟩,
  ⟨0x140100, .u 1, .const, 0, .nat 1, .any⟩,
  ⟨0x140101, .bool, .wo, 0, .nat 0, .nat 1 1⟩]

/-- Objects of the index range 2000h to 20FFh (R301). -/
def Dict.rows20 : List ObjRow := [
  ⟨0x200000, .u 1, .const, 0, .nat 9, .any⟩,
  ⟨0x200001, .u 1, .rws, 0, .nat 0, .nat 0 2⟩,
  ⟨0x200002, .u 2, .rws, 0, .nat 650, .nat 650 2000⟩,
  ⟨0x200003, .u 2, .rws, 0, .nat 500, .nat 450 1500⟩,
  ⟨0x200004, .i 2, .rw, 0, .nat 62536, .int (-4000) (-2300)⟩,
  ⟨0x200005, .i 2, .rw, 0, .nat 62236, .int (-4300) (-2400)⟩,
  ⟨0x200006, .u 1, .rw, 0, .nat 2, .nat 1 20⟩,
  ⟨0x200007, .i 2, .rw, 0, .nat 1000, .int (0) (1200)⟩,
  ⟨0x200008, .i 2, .const, 0, .nat 63236, .any⟩,
  ⟨0x200009, .u 1, .rw, 0, .nat 20, .nat 1 200⟩,
  ⟨0x200100, .u 1, .const, 0, .nat 7, .any⟩,
  ⟨0x200101, .u 2, .ro, 0, .nat 0, .any⟩,
  ⟨0x200102, .u 2, .ro, 0, .nat 0, .any⟩,
  ⟨0x200103, .u 2, .ro, 0, .nat 512, .any⟩,
  ⟨0x200104, .u 2, .ro, 0, .nat 512, .any⟩,
  ⟨0x200105, .u 2, .ro, 0, .nat 0, .any⟩,
  ⟨0x200106, .u 2, .ro, 0, .nat 0, .any⟩,
  ⟨0x200107, .u 2, .ro, 0, .nat 0, .any⟩,
  ⟨0x201000, .u 1, .const, 0, .nat 1, .any⟩,
  ⟨0x201001, .i 2, .ro, 512, .nat 61536, .any⟩,
  ⟨0x201100, .u 1, .const, 0, .nat 1, .any⟩,
  ⟨0x201101, .i 2, .ro, 512, .nat 61536, .any⟩,
  ⟨0x201200, .u 1, .const, 0, .nat 1, .any⟩,
  ⟨0x201201, .u 1, .ro, 512, .nat 0, .any⟩,
  ⟨0x201300, .u 1, .const, 0, .nat 1, .any⟩,
  ⟨0x201301, .u 1, .ro, 512, .nat 16, .any⟩,
  ⟨0x201400, .u 1, .const, 0, .nat 1, .any⟩,
  ⟨0x201401, .u 2, .rws, 512, .nat 650, .nat 0 3000⟩,
  ⟨0x201500, .u 1, .const, 0, .nat 1, .any⟩,
  ⟨0x201501, .u 4, .ro, 512, .nat 0, .any⟩]

/-- Objects of the index range 2100h to 21FFh (R301). -/
def Dict.rows21 : List ObjRow := [
  ⟨0x210000, .u 1, .const, 0, .nat 1, .any⟩,
  ⟨0x210001, .u 2, .rws, 512, .nat 32768, .any⟩,
  ⟨0x210100, .u 1, .const, 0, .nat 5, .any⟩,
  ⟨0x210101, .bool, .ro, 0, .nat 1, .any⟩,
  ⟨0x210102, .u 1, .ro, 0, .nat 0, .any⟩,
  ⟨0x210103, .u 2, .ro, 0, .nat 0, .any⟩,
  ⟨0x210104, .u 2, .ro, 0, .nat 0, .any⟩,
  ⟨0x210105, .u 2, .ro, 0, .nat 0, .any⟩,
  ⟨0x210200, .u 1, .const, 0, .nat 1, .any⟩,
  ⟨0x210201, .u 4, .ro, 136, .nat 0, .any⟩,
  ⟨0x210300, .u 1, .const, 0, .nat 1, .any⟩,
  ⟨0x210301, .u 4, .ro, 136, .nat 0, .any⟩,
  ⟨0x211000, .u 1, .const, 0, .nat 8, .any⟩,
  ⟨0x211001, .u 4, .wo, 0, .nat 0, .any⟩,
  ⟨0x211002, .u 1, .ro, 0, .nat 0, .any⟩,
  ⟨0x211003, .u 4, .ro, 0, .nat 0, .any⟩,
  ⟨0x211004, .u 1, .ro, 0, .nat 0, .any⟩,
  ⟨0x211005, .u 8, .ro, 0, .nat 0, .any⟩,
  ⟨0x211006, .u 2, .ro, 0, .nat 0, .any⟩,
  ⟨0x211007, .u 2, .ro, 0, .nat 65535, .any⟩,
  ⟨0x211008, .u 4, .ro, 0, .nat 0, .any⟩,
  ⟨0x211100, .u 1, .const, 0, .nat 1, .any⟩,
  ⟨0x211101, .u 4, .ro, 512, .nat 0, .any⟩,
  ⟨0x212000, .u 1, .const, 0, .nat 1, .any⟩,
  ⟨0x212001, .u 4, .ro, 64, .nat 0, .any⟩,
  ⟨0x212100, .u 1, .const, 0, .nat 1, .any⟩,
  ⟨0x212101, .u 2, .rw, 32768, .nat 32768, .any⟩,
  ⟨0x212200, .u 1, .const, 0, .nat 1, .any⟩,
  ⟨0x212201, .u 4, .rw, 8704, .nat 0, .any⟩,
  ⟨0x212300, .u 1, .const, 0, .nat 2, .any⟩,
  ⟨0x212301, .u 2, .wo, 0, .nat 0, .any⟩,
  ⟨0x212302, .u 4, .ro, 0, .nat 0, .any⟩]

/-- Objects of the index range 2200h to 22FFh (R301). -/
def Dict.rows22 : List ObjRow := [
  ⟨0x220000, .u 1, .const, 0, .nat 1, .any⟩,
  ⟨0x220001, .u 8, .rw, 0, .nat 2000, .nat 500 20000⟩,
  ⟨0x220100, .u 1, .const, 0, .nat 11, .any⟩,
  ⟨0x220101, .u 4, .ro, 0, .nat 0, .any⟩,
  ⟨0x220102, .u 4, .rc, 0, .nat 0, .any⟩,
  ⟨0x220103, .u 4, .rc, 0, .nat 0, .any⟩,
  ⟨0x220104, .u 4, .rc, 0, .nat 0, .any⟩,
  ⟨0x220105, .u 8, .ro, 0, .nat 0, .any⟩,
  ⟨0x220106, .u 8, .ro, 0, .nat 0, .any⟩,
  ⟨0x220107, .u 4, .rc, 0, .nat 0, .any⟩,
  ⟨0x220108, .u 4, .rc, 0, .nat 0, .any⟩,
  ⟨0x220109, .u 4, .ro, 0, .nat 0, .any⟩,
  ⟨0x22010A, .u 4, .rc, 0, .nat 0, .any⟩,
  ⟨0x22010B, .u 4, .rc, 0, .nat 0, .any⟩,
  ⟨0x221000, .u 1, .const, 0, .nat 1, .any⟩,
  ⟨0x221001, .f32, .rw, 64, .special, .any⟩,
  ⟨0x221100, .u 1, .const, 0, .nat 1, .any⟩,
  ⟨0x221101, .u 8, .ro, 16, .special, .any⟩,
  ⟨0x221200, .u 1, .const, 0, .nat 1, .any⟩,
  ⟨0x221201, .u 1, .ro, 512, .nat 0, .any⟩]

/-- Objects of the index range 2300h to 23FFh (R301). -/
def Dict.rows23 : List ObjRow := [
  ⟨0x230000, .u 1, .const, 0, .nat 6, .any⟩,
  ⟨0x230001, .u 1, .wo, 0, .nat 0, .nat 1 5⟩,
  ⟨0x230002, .time64, .rwStop, 0, .nat 0, .any⟩,
  ⟨0x230003, .u 1, .rw, 0, .nat 0, .nat 0 1⟩,
  ⟨0x230004, .u 1, .rw, 0, .nat 1, .nat 1 64⟩,
  ⟨0x230005, .u 1, .rw, 0, .nat 1, .nat 1 64⟩,
  ⟨0x230006, .u 1, .rwStop, 0, .nat 0, .nat 0 1⟩,
  ⟨0x230100, .u 1, .const, 0, .nat 12, .any⟩,
  ⟨0x230101, .u 1, .ro, 0, .nat 0, .any⟩,
  ⟨0x230102, .u 1, .ro, 0, .nat 0, .any⟩,
  ⟨0x230103, .u 1, .ro, 0, .nat 0, .any⟩,
  ⟨0x230104, .time64, .ro, 0, .nat 0, .any⟩,
  ⟨0x230105, .u 8, .ro, 0, .nat 0, .any⟩,
  ⟨0x230106, .time64, .ro, 0, .nat 0, .any⟩,
  ⟨0x230107, .time64, .ro, 0, .nat 0, .any⟩,
  ⟨0x230108, .u 8, .ro, 0, .nat 0, .any⟩,
  ⟨0x230109, .u 4, .rc, 0, .nat 0, .any⟩,
  ⟨0x23010A, .u 4, .rc, 0, .nat 0, .any⟩,
  ⟨0x23010B, .u 1, .ro, 0, .nat 0, .any⟩,
  ⟨0x23010C, .u 1, .ro, 0, .nat 255, .any⟩,
  ⟨0x231000, .u 1, .const, 0, .nat 1, .any⟩,
  ⟨0x231001, .u 4, .rw, 128, .nat 0, .any⟩,
  ⟨0x231100, .u 1, .const, 0, .nat 1, .any⟩,
  ⟨0x231101, .u 1, .rw, 16384, .nat 255, .any⟩,
  ⟨0x231200, .u 1, .const, 0, .nat 1, .any⟩,
  ⟨0x231201, .u 4, .ro, 128, .nat 0, .any⟩]

/-- Objects of the index range 2400h to 24FFh (R301). -/
def Dict.rows24 : List ObjRow := [
  ⟨0x240000, .u 1, .const, 0, .nat 9, .any⟩,
  ⟨0x240001, .u 2, .rw, 0, .nat 400, .nat 50 2000⟩,
  ⟨0x240002, .u 1, .rw, 0, .nat 2, .nat 1 4⟩,
  ⟨0x240003, .u 1, .rw, 0, .nat 8, .nat 4 64⟩,
  ⟨0x240004, .u 4, .ro, 0, .nat 0, .any⟩,
  ⟨0x240005, .u 8, .rw, 0, .nat 600000000000, .nat 1000000000 600000000000⟩,
  ⟨0x240006, .q15, .rw, 0, .nat 1638, .nat 328 16384⟩,
  ⟨0x240007, .u 8, .rw, 0, .nat 60000000000, .nat 1000000000 3600000000000⟩,
  ⟨0x240008, .bool, .rws, 0, .nat 0, .any⟩,
  ⟨0x240009, .u 2, .wo, 0, .nat 0, .any⟩,
  ⟨0x240100, .u 1, .const, 0, .nat 1, .any⟩,
  ⟨0x240101, .u 2, .ro, 9216, .nat 0, .any⟩,
  ⟨0x240200, .u 1, .const, 0, .nat 1, .any⟩,
  ⟨0x240201, .u 2, .rws, 9216, .nat 0, .any⟩,
  ⟨0x240300, .u 1, .const, 0, .nat 1, .any⟩,
  ⟨0x240301, .u 8, .rws, 9216, .nat 0, .any⟩,
  ⟨0x240400, .u 1, .const, 0, .nat 1, .any⟩,
  ⟨0x240401, .u 2, .rws, 2560, .special, .any⟩,
  ⟨0x240500, .u 1, .const, 0, .nat 1, .any⟩,
  ⟨0x240501, .i 4, .ro, 9216, .nat 0, .any⟩,
  ⟨0x240600, .u 1, .const, 0, .nat 1, .any⟩,
  ⟨0x240601, .i 4, .ro, 9216, .nat 0, .any⟩,
  ⟨0x240700, .u 1, .const, 0, .nat 1, .any⟩,
  ⟨0x240701, .i 4, .ro, 9216, .nat 0, .any⟩,
  ⟨0x240800, .u 1, .const, 0, .nat 1, .any⟩,
  ⟨0x240801, .i 2, .ro, 9216, .nat 0, .any⟩,
  ⟨0x240900, .u 1, .const, 0, .nat 6, .any⟩,
  ⟨0x240901, .u 4, .rc, 0, .nat 0, .any⟩,
  ⟨0x240902, .u 4, .rc, 0, .nat 0, .any⟩,
  ⟨0x240903, .u 4, .rc, 0, .nat 0, .any⟩,
  ⟨0x240904, .u 8, .rc, 0, .nat 0, .any⟩,
  ⟨0x240905, .u 8, .rc, 0, .nat 0, .any⟩,
  ⟨0x240906, .u 4, .rc, 0, .nat 0, .any⟩]

/-- Objects of the index range 2500h to 25FFh (R301). -/
def Dict.rows25 : List ObjRow := [
  ⟨0x250000, .u 1, .const, 0, .nat 9, .any⟩,
  ⟨0x250001, .u 4, .ro, 0, .special, .any⟩,
  ⟨0x250002, .u 4, .ro, 0, .special, .any⟩,
  ⟨0x250003, .u 1, .ro, 0, .nat 0, .any⟩,
  ⟨0x250004, .u 1, .ro, 0, .nat 0, .any⟩,
  ⟨0x250005, .u 4, .ro, 0, .nat 0, .any⟩,
  ⟨0x250006, .u 4, .ro, 0, .nat 0, .any⟩,
  ⟨0x250007, .u 4, .ro, 0, .nat 0, .any⟩,
  ⟨0x250008, .u 4, .rc, 0, .nat 0, .any⟩,
  ⟨0x250009, .u 2, .ro, 0, .nat 65535, .any⟩,
  ⟨0x250100, .u 1, .const, 0, .nat 1, .any⟩,
  ⟨0x250101, .u 4, .wo, 4440, .nat 0, .any⟩,
  ⟨0x250200, .u 1, .const, 0, .nat 2, .any⟩,
  ⟨0x250201, .u 1, .wo, 0, .nat 0, .nat 1 3⟩,
  ⟨0x250202, .time64, .rw, 0, .nat 0, .any⟩,
  ⟨0x250300, .u 1, .const, 0, .nat 4, .any⟩,
  ⟨0x250301, .u 4, .const, 0, .special, .any⟩,
  ⟨0x250302, .octet 64, .wo, 0, .nat 0, .any⟩,
  ⟨0x250303, .bool, .ro, 0, .nat 0, .any⟩,
  ⟨0x250304, .bool, .wo, 0, .nat 0, .nat 1 1⟩,
  ⟨0x250400, .u 1, .const, 0, .nat 1, .any⟩,
  ⟨0x250401, .u 1, .ro, 16, .special, .any⟩,
  ⟨0x250500, .u 1, .const, 0, .nat 1, .any⟩,
  ⟨0x250501, .u 2, .ro, 512, .special, .any⟩,
  ⟨0x250600, .u 1, .const, 0, .nat 1, .any⟩,
  ⟨0x250601, .u 4, .ro, 36, .nat 0, .any⟩,
  ⟨0x250700, .u 1, .const, 0, .nat 3, .any⟩,
  ⟨0x250701, .u 4, .rc, 0, .nat 0, .any⟩,
  ⟨0x250702, .u 4, .rc, 0, .nat 0, .any⟩,
  ⟨0x250703, .u 4, .rc, 0, .nat 0, .any⟩]

/-- Objects of the index range 2600h to 26FFh (R301). -/
def Dict.rows26 : List ObjRow := [
  ⟨0x260000, .u 1, .const, 0, .nat 4, .any⟩,
  ⟨0x260001, .u 2, .rwStop, 0, .nat 80, .nat 40 320⟩,
  ⟨0x260002, .u 1, .ro, 0, .nat 0, .any⟩,
  ⟨0x260003, .bool, .ro, 0, .nat 1, .any⟩,
  ⟨0x260004, .u 4, .rc, 0, .nat 0, .any⟩,
  ⟨0x260100, .u 1, .const, 0, .nat 1, .any⟩,
  ⟨0x260101, .u 4, .rw, 9216, .nat 0, .any⟩,
  ⟨0x260200, .u 1, .const, 0, .nat 1, .any⟩,
  ⟨0x260201, .u 4, .rw, 9216, .special, .any⟩,
  ⟨0x260300, .u 1, .const, 0, .nat 1, .any⟩,
  ⟨0x260301, .u 4, .ro, 9216, .special, .any⟩,
  ⟨0x260400, .u 1, .const, 0, .nat 1, .any⟩,
  ⟨0x260401, .u 4, .ro, 9216, .nat 0, .any⟩,
  ⟨0x260500, .u 1, .const, 0, .nat 7, .any⟩,
  ⟨0x260501, .u 4, .rc, 0, .nat 0, .any⟩,
  ⟨0x260502, .u 4, .rc, 0, .nat 0, .any⟩,
  ⟨0x260503, .u 4, .rc, 0, .nat 0, .any⟩,
  ⟨0x260504, .u 4, .rc, 0, .nat 0, .any⟩,
  ⟨0x260505, .u 4, .rc, 0, .nat 0, .any⟩,
  ⟨0x260506, .u 4, .rc, 0, .nat 0, .any⟩,
  ⟨0x260507, .u 4, .ro, 0, .nat 0, .any⟩]

/-- Objects of the index range 2700h to 27FFh, part 1 (R301). -/
def Dict.rows27_1 : List ObjRow := [
  ⟨0x270000, .u 1, .const, 0, .nat 3, .any⟩,
  ⟨0x270001, .u 2, .ro, 0, .nat 0, .any⟩,
  ⟨0x270002, .u 8, .rc, 0, .nat 0, .any⟩,
  ⟨0x270003, .u 8, .rc, 0, .nat 0, .any⟩,
  ⟨0x270100, .u 1, .const, 0, .nat 1, .any⟩,
  ⟨0x270101, .u 4, .ro, 9728, .nat 0, .any⟩,
  ⟨0x270200, .u 1, .const, 0, .nat 1, .any⟩,
  ⟨0x270201, .i 4, .ro, 9728, .nat 0, .any⟩,
  ⟨0x271000, .u 1, .const, 0, .nat 4, .any⟩,
  ⟨0x271001, .u 1, .ro, 0, .nat 255, .any⟩,
  ⟨0x271002, .time64, .ro, 0, .nat 0, .any⟩,
  ⟨0x271003, .u 8, .ro, 0, .nat 0, .any⟩,
  ⟨0x271004, .u 4, .rc, 0, .nat 0, .any⟩,
  ⟨0x271100, .u 1, .const, 0, .nat 1, .any⟩,
  ⟨0x271101, .i 4, .ro, 104, .nat 0, .any⟩,
  ⟨0x271200, .u 1, .const, 0, .nat 1, .any⟩,
  ⟨0x271201, .time64, .ro, 104, .nat 0, .any⟩,
  ⟨0x272000, .u 1, .const, 0, .nat 13, .any⟩,
  ⟨0x272001, .bool, .rw, 0, .nat 0, .any⟩,
  ⟨0x272002, .u 1, .rwStop, 0, .nat 0, .nat 0 5⟩,
  ⟨0x272003, .u 2, .rwStop, 0, .nat 1, .nat 1 256⟩,
  ⟨0x272004, .time64, .rwStop, 0, .nat 0, .any⟩,
  ⟨0x272005, .u 8, .rwStop, 0, .nat 10000000, .any⟩,
  ⟨0x272006, .bool, .wo, 0, .nat 0, .nat 1 1⟩,
  ⟨0x272007, .u 1, .ro, 0, .nat 0, .any⟩,
  ⟨0x272008, .u 4, .ro, 0, .nat 0, .any⟩,
  ⟨0x272009, .u 4, .rc, 0, .nat 0, .any⟩,
  ⟨0x27200A, .time64, .ro, 0, .nat 0, .any⟩,
  ⟨0x27200B, .time64, .ro, 0, .nat 0, .any⟩,
  ⟨0x27200C, .bool, .rw, 0, .nat 0, .any⟩,
  ⟨0x27200D, .u 4, .rc, 0, .nat 0, .any⟩,
  ⟨0x272100, .u 1, .const, 0, .nat 13, .any⟩,
  ⟨0x272101, .bool, .rw, 0, .nat 0, .any⟩,
  ⟨0x272102, .u 1, .rwStop, 0, .nat 0, .nat 0 5⟩,
  ⟨0x272103, .u 2, .rwStop, 0, .nat 1, .nat 1 256⟩,
  ⟨0x272104, .time64, .rwStop, 0, .nat 0, .any⟩,
  ⟨0x272105, .u 8, .rwStop, 0, .nat 10000000, .any⟩,
  ⟨0x272106, .bool, .wo, 0, .nat 0, .nat 1 1⟩,
  ⟨0x272107, .u 1, .ro, 0, .nat 0, .any⟩,
  ⟨0x272108, .u 4, .ro, 0, .nat 0, .any⟩]

/-- Objects of the index range 2700h to 27FFh, part 2 (R301). -/
def Dict.rows27_2 : List ObjRow := [
  ⟨0x272109, .u 4, .rc, 0, .nat 0, .any⟩,
  ⟨0x27210A, .time64, .ro, 0, .nat 0, .any⟩,
  ⟨0x27210B, .time64, .ro, 0, .nat 0, .any⟩,
  ⟨0x27210C, .bool, .rw, 0, .nat 0, .any⟩,
  ⟨0x27210D, .u 4, .rc, 0, .nat 0, .any⟩,
  ⟨0x272200, .u 1, .const, 0, .nat 13, .any⟩,
  ⟨0x272201, .bool, .rw, 0, .nat 0, .any⟩,
  ⟨0x272202, .u 1, .rwStop, 0, .nat 0, .nat 0 5⟩,
  ⟨0x272203, .u 2, .rwStop, 0, .nat 1, .nat 1 256⟩,
  ⟨0x272204, .time64, .rwStop, 0, .nat 0, .any⟩,
  ⟨0x272205, .u 8, .rwStop, 0, .nat 10000000, .any⟩,
  ⟨0x272206, .bool, .wo, 0, .nat 0, .nat 1 1⟩,
  ⟨0x272207, .u 1, .ro, 0, .nat 0, .any⟩,
  ⟨0x272208, .u 4, .ro, 0, .nat 0, .any⟩,
  ⟨0x272209, .u 4, .rc, 0, .nat 0, .any⟩,
  ⟨0x27220A, .time64, .ro, 0, .nat 0, .any⟩,
  ⟨0x27220B, .time64, .ro, 0, .nat 0, .any⟩,
  ⟨0x27220C, .bool, .rw, 0, .nat 0, .any⟩,
  ⟨0x27220D, .u 4, .rc, 0, .nat 0, .any⟩,
  ⟨0x272300, .u 1, .const, 0, .nat 13, .any⟩,
  ⟨0x272301, .bool, .rw, 0, .nat 0, .any⟩,
  ⟨0x272302, .u 1, .rwStop, 0, .nat 0, .nat 0 5⟩,
  ⟨0x272303, .u 2, .rwStop, 0, .nat 1, .nat 1 256⟩,
  ⟨0x272304, .time64, .rwStop, 0, .nat 0, .any⟩,
  ⟨0x272305, .u 8, .rwStop, 0, .nat 10000000, .any⟩,
  ⟨0x272306, .bool, .wo, 0, .nat 0, .nat 1 1⟩,
  ⟨0x272307, .u 1, .ro, 0, .nat 0, .any⟩,
  ⟨0x272308, .u 4, .ro, 0, .nat 0, .any⟩,
  ⟨0x272309, .u 4, .rc, 0, .nat 0, .any⟩,
  ⟨0x27230A, .time64, .ro, 0, .nat 0, .any⟩,
  ⟨0x27230B, .time64, .ro, 0, .nat 0, .any⟩,
  ⟨0x27230C, .bool, .rw, 0, .nat 0, .any⟩,
  ⟨0x27230D, .u 4, .rc, 0, .nat 0, .any⟩,
  ⟨0x272800, .u 1, .const, 0, .nat 1, .any⟩,
  ⟨0x272801, .u 8, .rwStop, 256, .nat 0, .any⟩,
  ⟨0x272900, .u 1, .const, 0, .nat 1, .any⟩,
  ⟨0x272901, .u 8, .rwStop, 256, .nat 0, .any⟩,
  ⟨0x272A00, .u 1, .const, 0, .nat 1, .any⟩,
  ⟨0x272A01, .u 8, .rwStop, 256, .nat 0, .any⟩,
  ⟨0x272B00, .u 1, .const, 0, .nat 1, .any⟩]

/-- Objects of the index range 2700h to 27FFh, part 3 (R301). -/
def Dict.rows27_3 : List ObjRow := [
  ⟨0x272B01, .u 8, .rwStop, 256, .nat 0, .any⟩,
  ⟨0x273000, .u 1, .const, 0, .nat 1, .any⟩,
  ⟨0x273001, .octet 20, .ro, 256, .nat 0, .any⟩,
  ⟨0x273100, .u 1, .const, 0, .nat 1, .any⟩,
  ⟨0x273101, .octet 20, .ro, 256, .nat 0, .any⟩,
  ⟨0x273200, .u 1, .const, 0, .nat 1, .any⟩,
  ⟨0x273201, .octet 20, .ro, 256, .nat 0, .any⟩,
  ⟨0x273300, .u 1, .const, 0, .nat 1, .any⟩,
  ⟨0x273301, .octet 20, .ro, 256, .nat 0, .any⟩,
  ⟨0x273800, .u 1, .const, 0, .nat 5, .any⟩,
  ⟨0x273801, .u 2, .wo, 0, .nat 0, .any⟩,
  ⟨0x273802, .octet 20, .ro, 0, .nat 0, .any⟩,
  ⟨0x273803, .u 1, .ro, 0, .nat 0, .any⟩,
  ⟨0x273804, .u 4, .ro, 0, .nat 0, .any⟩,
  ⟨0x273805, .u 4, .rc, 0, .nat 0, .any⟩]

/-- Objects of the index range 2700h to 27FFh (R301). -/
def Dict.rows27 : List ObjRow := Dict.rows27_1 ++ Dict.rows27_2 ++ Dict.rows27_3

/-- Objects of the index range 2800h to 28FFh, part 1 (R301). -/
def Dict.rows28_1 : List ObjRow := [
  ⟨0x280000, .u 1, .const, 0, .nat 10, .any⟩,
  ⟨0x280001, .u 1, .rw, 0, .nat 2, .nat 0 2⟩,
  ⟨0x280002, .u 8, .rw, 0, .nat 600000000000, .nat 60000000000 86400000000000⟩,
  ⟨0x280003, .u 1, .rw, 0, .nat 64, .nat 1 112⟩,
  ⟨0x280004, .u 8, .rw, 0, .nat 60000000000, .nat 10000000000 86400000000000⟩,
  ⟨0x280005, .u 8, .rw, 0, .nat 60000000000, .nat 1000000000 86400000000000⟩,
  ⟨0x280006, .u 2, .rw, 0, .nat 2000, .nat 500 10000⟩,
  ⟨0x280007, .u 1, .wo, 0, .nat 0, .nat 1 1⟩,
  ⟨0x280008, .bool, .rw, 0, .nat 1, .any⟩,
  ⟨0x280009, .u 8, .rw, 0, .nat 86400000000000, .nat 3600000000000 2592000000000000⟩,
  ⟨0x28000A, .u 4, .wo, 0, .nat 0, .any⟩,
  ⟨0x280100, .u 1, .const, 0, .nat 10, .any⟩,
  ⟨0x280101, .u 1, .ro, 0, .nat 0, .any⟩,
  ⟨0x280102, .u 1, .ro, 0, .nat 8, .any⟩,
  ⟨0x280103, .u 2, .ro, 0, .nat 0, .any⟩,
  ⟨0x280104, .u 2, .ro, 0, .nat 0, .any⟩,
  ⟨0x280105, .u 4, .rc, 0, .nat 0, .any⟩,
  ⟨0x280106, .u 4, .rc, 0, .nat 0, .any⟩,
  ⟨0x280107, .u 4, .rc, 0, .nat 0, .any⟩,
  ⟨0x280108, .u 4, .rc, 0, .nat 0, .any⟩,
  ⟨0x280109, .u 4, .rc, 0, .nat 0, .any⟩,
  ⟨0x28010A, .u 2, .ro, 0, .nat 0, .any⟩,
  ⟨0x281000, .u 1, .const, 0, .nat 1, .any⟩,
  ⟨0x281001, .u 4, .ro, 9216, .nat 0, .any⟩,
  ⟨0x281100, .u 1, .const, 0, .nat 1, .any⟩,
  ⟨0x281101, .time64, .ro, 9216, .special, .any⟩,
  ⟨0x281200, .u 1, .const, 0, .nat 1, .any⟩,
  ⟨0x281201, .u 4, .ro, 9728, .nat 0, .any⟩,
  ⟨0x281300, .u 1, .const, 0, .nat 1, .any⟩,
  ⟨0x281301, .time64, .ro, 9728, .special, .any⟩,
  ⟨0x281400, .u 1, .const, 0, .nat 1, .any⟩,
  ⟨0x281401, .u 4, .ro, 9728, .special, .any⟩,
  ⟨0x281500, .u 1, .const, 0, .nat 1, .any⟩,
  ⟨0x281501, .i 4, .ro, 9728, .special, .any⟩,
  ⟨0x281600, .u 1, .const, 0, .nat 1, .any⟩,
  ⟨0x281601, .u 1, .ro, 9728, .nat 0, .any⟩,
  ⟨0x281700, .u 1, .const, 0, .nat 1, .any⟩,
  ⟨0x281701, .u 4, .ro, 8, .nat 0, .any⟩,
  ⟨0x281800, .u 1, .const, 0, .nat 1, .any⟩,
  ⟨0x281801, .time64, .ro, 8, .special, .any⟩]

/-- Objects of the index range 2800h to 28FFh, part 2 (R301). -/
def Dict.rows28_2 : List ObjRow := [
  ⟨0x281900, .u 1, .const, 0, .nat 1, .any⟩,
  ⟨0x281901, .u 4, .ro, 8, .special, .any⟩,
  ⟨0x281A00, .u 1, .const, 0, .nat 1, .any⟩,
  ⟨0x281A01, .i 4, .ro, 8, .special, .any⟩,
  ⟨0x281B00, .u 1, .const, 0, .nat 1, .any⟩,
  ⟨0x281B01, .u 1, .ro, 8, .nat 0, .any⟩,
  ⟨0x282000, .u 1, .const, 0, .nat 1, .any⟩,
  ⟨0x282001, .i 4, .ro, 278528, .special, .any⟩,
  ⟨0x282100, .u 1, .const, 0, .nat 1, .any⟩,
  ⟨0x282101, .i 4, .ro, 69632, .special, .any⟩,
  ⟨0x282200, .u 1, .const, 0, .nat 1, .any⟩,
  ⟨0x282201, .u 4, .ro, 589824, .special, .any⟩,
  ⟨0x282300, .u 1, .const, 0, .nat 1, .any⟩,
  ⟨0x282301, .u 2, .rw, 32768, .special, .any⟩,
  ⟨0x282400, .u 1, .const, 0, .nat 1, .any⟩,
  ⟨0x282401, .u 1, .rw, 0, .nat 8, .nat 1 64⟩]

/-- Objects of the index range 2800h to 28FFh (R301). -/
def Dict.rows28 : List ObjRow := Dict.rows28_1 ++ Dict.rows28_2

/-- Objects of the index range 3000h to 30FFh (R301). -/
def Dict.rows30 : List ObjRow := [
  ⟨0x300000, .u 1, .const, 0, .nat 3, .any⟩,
  ⟨0x300001, .u 1, .ro, 0, .nat 0, .any⟩,
  ⟨0x300002, .u 1, .ro, 0, .nat 0, .any⟩,
  ⟨0x300003, .u 2, .ro, 0, .nat 1250, .any⟩,
  ⟨0x300100, .u 1, .const, 0, .nat 1, .any⟩,
  ⟨0x300101, .u 4, .rw, 128, .nat 150994944, .any⟩,
  ⟨0x300200, .u 1, .const, 0, .nat 1, .any⟩,
  ⟨0x300201, .u 1, .ro, 128, .nat 0, .any⟩,
  ⟨0x300300, .u 1, .const, 0, .nat 1, .any⟩,
  ⟨0x300301, .u 8, .ro, 1024, .nat 0, .any⟩]

/-- Objects of the index range 3100h to 31FFh (R301). -/
def Dict.rows31 : List ObjRow := [
  ⟨0x310100, .u 1, .const, 0, .nat 1, .any⟩,
  ⟨0x310101, .u 8, .rws, 256, .special, .any⟩,
  ⟨0x310200, .u 1, .const, 0, .nat 1, .any⟩,
  ⟨0x310201, .u 8, .rws, 2048, .special, .any⟩,
  ⟨0x310300, .u 1, .const, 0, .nat 1, .any⟩,
  ⟨0x310301, .u 2, .rws, 128, .nat 0, .any⟩]

/-- Objects of the index range 3200h to 32FFh (R301). -/
def Dict.rows32 : List ObjRow := [
  ⟨0x320000, .u 1, .const, 0, .nat 5, .any⟩,
  ⟨0x320001, .u 4, .ro, 0, .nat 0, .any⟩,
  ⟨0x320002, .u 4, .ro, 0, .nat 0, .any⟩,
  ⟨0x320003, .u 2, .ro, 0, .nat 0, .any⟩,
  ⟨0x320004, .u 2, .ro, 0, .nat 0, .any⟩,
  ⟨0x320005, .bool, .ro, 0, .nat 0, .any⟩,
  ⟨0x320100, .u 1, .const, 0, .nat 1, .any⟩,
  ⟨0x320101, .u 4, .rws, 256, .nat 0, .any⟩,
  ⟨0x320200, .u 1, .const, 0, .nat 1, .any⟩,
  ⟨0x320201, .u 1, .rws, 256, .nat 255, .any⟩,
  ⟨0x320300, .u 1, .const, 0, .nat 1, .any⟩,
  ⟨0x320301, .octet 64, .rws, 263168, .nat 0, .any⟩,
  ⟨0x320400, .u 1, .const, 0, .nat 1, .any⟩,
  ⟨0x320401, .octet 16, .rws, 384, .nat 0, .any⟩,
  ⟨0x321000, .u 1, .const, 0, .nat 5, .any⟩,
  ⟨0x321001, .u 1, .wo, 0, .nat 0, .nat 1 5⟩,
  ⟨0x321002, .octet 64, .rw, 0, .nat 0, .any⟩,
  ⟨0x321003, .u 4, .ro, 0, .nat 0, .any⟩,
  ⟨0x321004, .u 4, .ro, 0, .nat 4294967295, .any⟩,
  ⟨0x321005, .u 1, .ro, 0, .nat 0, .any⟩,
  ⟨0x321100, .u 1, .const, 0, .nat 10, .any⟩,
  ⟨0x321101, .u 8, .rc, 0, .nat 0, .any⟩,
  ⟨0x321102, .u 8, .rc, 0, .nat 0, .any⟩,
  ⟨0x321103, .u 8, .rc, 0, .nat 0, .any⟩,
  ⟨0x321104, .u 8, .rc, 0, .nat 0, .any⟩,
  ⟨0x321105, .u 8, .rc, 0, .nat 0, .any⟩,
  ⟨0x321106, .u 8, .rc, 0, .nat 0, .any⟩,
  ⟨0x321107, .u 8, .rc, 0, .nat 0, .any⟩,
  ⟨0x321108, .u 8, .rc, 0, .nat 0, .any⟩,
  ⟨0x321109, .u 8, .rc, 0, .nat 0, .any⟩,
  ⟨0x32110A, .u 8, .rc, 0, .nat 0, .any⟩]

/-- Objects of the index range 3300h to 33FFh (R301). -/
def Dict.rows33 : List ObjRow := [
  ⟨0x330000, .u 1, .const, 0, .nat 5, .any⟩,
  ⟨0x330001, .u 4, .ro, 0, .nat 393216, .any⟩,
  ⟨0x330002, .u 4, .ro, 0, .nat 385024, .any⟩,
  ⟨0x330003, .u 4, .ro, 0, .nat 0, .any⟩,
  ⟨0x330004, .u 4, .ro, 0, .nat 8192, .any⟩,
  ⟨0x330005, .u 4, .rc, 0, .nat 0, .any⟩,
  ⟨0x330100, .u 1, .const, 0, .nat 1, .any⟩,
  ⟨0x330101, .u 8, .rw, 262144, .special, .any⟩,
  ⟨0x330200, .u 1, .const, 0, .nat 1, .any⟩,
  ⟨0x330201, .u 8, .rw, 16, .nat 2462906052780032, .any⟩,
  ⟨0x330300, .u 1, .const, 0, .nat 1, .any⟩,
  ⟨0x330301, .u 1, .rw, 128, .nat 0, .any⟩,
  ⟨0x330400, .u 1, .const, 0, .nat 1, .any⟩,
  ⟨0x330401, .u 4, .ro, 262144, .nat 0, .any⟩,
  ⟨0x330500, .u 1, .const, 0, .nat 1, .any⟩,
  ⟨0x330501, .u 8, .ro, 1048576, .nat 0, .any⟩,
  ⟨0x330600, .u 1, .const, 0, .nat 1, .any⟩,
  ⟨0x330601, .u 4, .rw, 16, .nat 0, .any⟩,
  ⟨0x331000, .u 1, .const, 0, .nat 1, .any⟩,
  ⟨0x331001, .u 8, .rw, 0, .nat 1000000, .nat 100000 10000000000⟩,
  ⟨0x331100, .u 1, .const, 0, .nat 12, .any⟩,
  ⟨0x331101, .u 8, .rc, 0, .nat 0, .any⟩,
  ⟨0x331102, .u 8, .rc, 0, .nat 0, .any⟩,
  ⟨0x331103, .u 8, .rc, 0, .nat 0, .any⟩,
  ⟨0x331104, .u 8, .rc, 0, .nat 0, .any⟩,
  ⟨0x331105, .u 8, .rc, 0, .nat 0, .any⟩,
  ⟨0x331106, .u 8, .rc, 0, .nat 0, .any⟩,
  ⟨0x331107, .u 8, .rc, 0, .nat 0, .any⟩,
  ⟨0x331108, .u 8, .rc, 0, .nat 0, .any⟩,
  ⟨0x331109, .u 8, .rc, 0, .nat 0, .any⟩,
  ⟨0x33110A, .u 8, .rc, 0, .nat 0, .any⟩,
  ⟨0x33110B, .u 8, .rc, 0, .nat 0, .any⟩,
  ⟨0x33110C, .u 8, .rc, 0, .nat 0, .any⟩]

/-- Objects of the index range 3400h to 34FFh (R301). -/
def Dict.rows34 : List ObjRow := [
  ⟨0x340100, .u 1, .const, 0, .nat 1, .any⟩,
  ⟨0x340101, .octet 16, .rw, 32768, .nat 0, .any⟩,
  ⟨0x340200, .u 1, .const, 0, .nat 1, .any⟩,
  ⟨0x340201, .u 8, .ro, 98304, .nat 0, .any⟩,
  ⟨0x341000, .u 1, .const, 0, .nat 1, .any⟩,
  ⟨0x341001, .octet 16, .rw, 16384, .nat 0, .any⟩,
  ⟨0x341100, .u 1, .const, 0, .nat 1, .any⟩,
  ⟨0x341101, .i 4, .ro, 16384, .nat 0, .any⟩]

/-- Objects of the index range 3500h to 35FFh (R301). -/
def Dict.rows35 : List ObjRow := [
  ⟨0x350000, .u 1, .const, 0, .nat 1, .any⟩,
  ⟨0x350001, .u 2, .rws, 128, .nat 1, .any⟩,
  ⟨0x350100, .u 1, .const, 0, .nat 1, .any⟩,
  ⟨0x350101, .time64, .rws, 128, .nat 0, .any⟩,
  ⟨0x350200, .u 1, .const, 0, .nat 1, .any⟩,
  ⟨0x350201, .u 8, .rws, 131072, .nat 18374686479671623680, .any⟩,
  ⟨0x350300, .u 1, .const, 0, .nat 1, .any⟩,
  ⟨0x350301, .u 8, .ro, 128, .nat 0, .any⟩,
  ⟨0x350400, .u 1, .const, 0, .nat 1, .any⟩,
  ⟨0x350401, .u 8, .ro, 1024, .nat 18446744073709551615, .any⟩,
  ⟨0x350500, .u 1, .const, 0, .nat 1, .any⟩,
  ⟨0x350501, .u 4, .ro, 128, .nat 65535, .any⟩]

/-- Objects of the index range 3600h to 36FFh (R301). -/
def Dict.rows36 : List ObjRow := [
  ⟨0x360000, .u 1, .const, 0, .nat 1, .any⟩,
  ⟨0x360001, .octet 48, .ro, 262144, .nat 0, .any⟩,
  ⟨0x360100, .u 1, .const, 0, .nat 1, .any⟩,
  ⟨0x360101, .u 4, .wo, 0, .nat 0, .any⟩]

/-- Objects of the index range 4000h to 40FFh (R301). -/
def Dict.rows40 : List ObjRow := [
  ⟨0x400000, .u 1, .const, 0, .nat 8, .any⟩,
  ⟨0x400001, .u 8, .ro, 0, .nat 0, .any⟩,
  ⟨0x400002, .u 2, .ro, 0, .nat 65535, .any⟩,
  ⟨0x400003, .u 1, .ro, 0, .nat 0, .any⟩,
  ⟨0x400004, .time64, .ro, 0, .nat 0, .any⟩,
  ⟨0x400005, .u 2, .ro, 0, .nat 0, .any⟩,
  ⟨0x400006, .bool, .ro, 0, .nat 0, .any⟩,
  ⟨0x400007, .u 4, .ro, 0, .nat 0, .any⟩,
  ⟨0x400008, .octet 24, .ro, 0, .nat 0, .any⟩,
  ⟨0x400100, .u 1, .const, 0, .nat 5, .any⟩,
  ⟨0x400101, .u 1, .rw, 0, .nat 0, .nat 0 1⟩,
  ⟨0x400102, .u 1, .rw, 0, .nat 3, .nat 1 4⟩,
  ⟨0x400103, .u 8, .rw, 0, .nat 10000, .nat 10000 1000000⟩,
  ⟨0x400104, .bool, .wo, 0, .nat 0, .nat 1 1⟩,
  ⟨0x400105, .bool, .ro, 0, .nat 1, .any⟩,
  ⟨0x400200, .u 1, .const, 0, .nat 2, .any⟩,
  ⟨0x400201, .u 2, .wo, 0, .nat 0, .any⟩,
  ⟨0x400202, .bool, .wo, 0, .nat 0, .nat 1 1⟩,
  ⟨0x400300, .u 1, .const, 0, .nat 1, .any⟩,
  ⟨0x400301, .u 8, .ro, 8, .nat 0, .any⟩,
  ⟨0x400400, .u 1, .const, 0, .nat 1, .any⟩,
  ⟨0x400401, .u 8, .ro, 8, .nat 0, .any⟩,
  ⟨0x400500, .u 1, .const, 0, .nat 1, .any⟩,
  ⟨0x400501, .u 4, .rw, 512, .special, .any⟩,
  ⟨0x400600, .u 1, .const, 0, .nat 1, .any⟩,
  ⟨0x400601, .u 4, .ro, 512, .nat 0, .any⟩,
  ⟨0x400700, .u 1, .const, 0, .nat 1, .any⟩,
  ⟨0x400701, .octet 24, .ro, 64, .nat 0, .any⟩,
  ⟨0x401000, .u 1, .const, 0, .nat 1, .any⟩,
  ⟨0x401001, .u 2, .wo, 0, .nat 0, .any⟩]

/-- Objects of the index range 4100h to 41FFh (R301). -/
def Dict.rows41 : List ObjRow := [
  ⟨0x410000, .u 1, .const, 0, .nat 8, .any⟩,
  ⟨0x410001, .u 1, .ro, 0, .nat 4, .any⟩,
  ⟨0x410002, .bool, .ro, 0, .nat 0, .any⟩,
  ⟨0x410003, .bool, .ro, 0, .nat 0, .any⟩,
  ⟨0x410004, .u 1, .ro, 0, .nat 0, .any⟩,
  ⟨0x410005, .u 4, .rc, 0, .nat 0, .any⟩,
  ⟨0x410006, .u 4, .ro, 0, .nat 0, .any⟩,
  ⟨0x410007, .time64, .ro, 0, .nat 0, .any⟩,
  ⟨0x410008, .u 1, .ro, 0, .nat 0, .any⟩,
  ⟨0x410100, .u 1, .const, 0, .nat 2, .any⟩,
  ⟨0x410101, .u 1, .wo, 0, .nat 0, .nat 0 2⟩,
  ⟨0x410102, .u 1, .rw, 0, .nat 0, .nat 0 2⟩,
  ⟨0x411000, .u 1, .const, 0, .nat 1, .any⟩,
  ⟨0x411001, .u 8, .rw, 8, .special, .any⟩,
  ⟨0x411100, .u 1, .const, 0, .nat 1, .any⟩,
  ⟨0x411101, .i 4, .ro, 8, .nat 0, .any⟩,
  ⟨0x411200, .u 1, .const, 0, .nat 1, .any⟩,
  ⟨0x411201, .u 1, .ro, 8, .nat 0, .any⟩,
  ⟨0x411300, .u 1, .const, 0, .nat 1, .any⟩,
  ⟨0x411301, .u 1, .rw, 8, .nat 0, .nat 0 1⟩,
  ⟨0x411400, .u 1, .const, 0, .nat 1, .any⟩,
  ⟨0x411401, .u 1, .ro, 64, .nat 0, .any⟩,
  ⟨0x411500, .u 1, .const, 0, .nat 1, .any⟩,
  ⟨0x411501, .u 1, .const, 64, .special, .any⟩]

/-- Objects of the index range 4200h to 42FFh (R301). -/
def Dict.rows42 : List ObjRow := [
  ⟨0x420000, .u 1, .const, 0, .nat 9, .any⟩,
  ⟨0x420001, .u 1, .ro, 0, .nat 0, .any⟩,
  ⟨0x420002, .u 1, .ro, 0, .nat 1, .any⟩,
  ⟨0x420003, .u 1, .ro, 0, .nat 0, .any⟩,
  ⟨0x420004, .u 1, .ro, 0, .nat 0, .any⟩,
  ⟨0x420005, .u 4, .ro, 0, .nat 0, .any⟩,
  ⟨0x420006, .u 1, .ro, 0, .nat 0, .any⟩,
  ⟨0x420007, .u 1, .ro, 0, .nat 0, .any⟩,
  ⟨0x420008, .bool, .ro, 0, .nat 0, .any⟩,
  ⟨0x420009, .u 2, .ro, 0, .nat 0, .any⟩,
  ⟨0x420100, .u 1, .const, 0, .nat 3, .any⟩,
  ⟨0x420101, .u 1, .wo, 0, .nat 0, .nat 1 2⟩,
  ⟨0x420102, .u 2, .wo, 0, .nat 0, .any⟩,
  ⟨0x420103, .u 8, .rw, 0, .nat 5000000000, .nat 0 60000000000⟩,
  ⟨0x420200, .u 1, .const, 0, .nat 1, .any⟩,
  ⟨0x420201, .octet 64, .ro, 16, .nat 0, .any⟩,
  ⟨0x420300, .u 1, .const, 0, .nat 1, .any⟩,
  ⟨0x420301, .bool, .rw, 128, .nat 0, .any⟩,
  ⟨0x420400, .u 1, .const, 0, .nat 1, .any⟩,
  ⟨0x420401, .bool, .ro, 9728, .nat 0, .any⟩]

/-- Objects of the index range 4300h to 43FFh (R301). -/
def Dict.rows43 : List ObjRow := [
  ⟨0x430000, .u 1, .const, 0, .nat 2, .any⟩,
  ⟨0x430001, .u 1, .ro, 0, .nat 0, .any⟩,
  ⟨0x430002, .u 2, .wo, 0, .nat 0, .nat 0 581⟩,
  ⟨0x430100, .u 1, .const, 0, .nat 1, .any⟩,
  ⟨0x430101, .u 4, .rw, 64, .nat 0, .any⟩,
  ⟨0x430200, .u 1, .const, 0, .nat 1, .any⟩,
  ⟨0x430201, .u 8, .ro, 64, .nat 0, .any⟩,
  ⟨0x431000, .u 1, .const, 0, .nat 3, .any⟩,
  ⟨0x431001, .u 4, .ro, 0, .nat 0, .any⟩,
  ⟨0x431002, .time64, .ro, 0, .nat 0, .any⟩,
  ⟨0x431003, .u 1, .ro, 0, .nat 0, .any⟩,
  ⟨0x431100, .u 1, .const, 0, .nat 1, .any⟩,
  ⟨0x431101, .time64, .ro, 4, .nat 0, .any⟩,
  ⟨0x432000, .u 1, .const, 0, .nat 3, .any⟩,
  ⟨0x432001, .u 4, .rw, 0, .nat 1000, .any⟩,
  ⟨0x432002, .time64, .ro, 0, .nat 0, .any⟩,
  ⟨0x432003, .bool, .wo, 0, .nat 0, .nat 1 1⟩,
  ⟨0x432100, .u 1, .const, 0, .nat 1, .any⟩,
  ⟨0x432101, .u 8, .ro, 512, .nat 0, .any⟩,
  ⟨0x433000, .u 1, .const, 0, .nat 2, .any⟩,
  ⟨0x433001, .u 2, .rw, 0, .nat 0, .any⟩,
  ⟨0x433002, .u 2, .ro, 0, .nat 0, .any⟩,
  ⟨0x433100, .u 1, .const, 0, .nat 1, .any⟩,
  ⟨0x433101, .u 8, .ro, 14, .nat 0, .any⟩]

/-- Objects of the index range 4400h to 44FFh (R301). -/
def Dict.rows44 : List ObjRow := [
  ⟨0x440000, .u 1, .const, 0, .nat 2, .any⟩,
  ⟨0x440001, .u 2, .wo, 0, .nat 0, .any⟩,
  ⟨0x440002, .u 2, .wo, 0, .nat 0, .nat 0 145⟩,
  ⟨0x440100, .u 1, .const, 0, .nat 1, .any⟩,
  ⟨0x440101, .u 4, .rw, 146, .nat 0, .any⟩,
  ⟨0x440200, .u 1, .const, 0, .nat 1, .any⟩,
  ⟨0x440201, .u 8, .ro, 584, .nat 0, .any⟩,
  ⟨0x441000, .u 1, .const, 0, .nat 3, .any⟩,
  ⟨0x441001, .u 4, .wo, 0, .nat 0, .any⟩,
  ⟨0x441002, .u 8, .rw, 0, .nat 1000000000, .nat 1000000 3600000000000⟩,
  ⟨0x441003, .octet 24, .ro, 0, .nat 0, .any⟩]

/-- Objects of the index range 4F00h to 4FFFh (R301). -/
def Dict.rows4F : List ObjRow := [
  ⟨0x4F0000, .u 1, .const, 0, .nat 5, .any⟩,
  ⟨0x4F0001, .u 4, .rw, 0, .nat 0, .any⟩,
  ⟨0x4F0002, .u 4, .ro, 0, .nat 0, .any⟩,
  ⟨0x4F0003, .u 2, .ro, 0, .nat 0, .any⟩,
  ⟨0x4F0004, .bool, .rc, 0, .nat 0, .any⟩,
  ⟨0x4F0005, .u 4, .rc, 0, .nat 0, .any⟩,
  ⟨0x4F0100, .u 1, .const, 0, .nat 1, .any⟩,
  ⟨0x4F0101, .u 4, .rw, 4294967295, .nat 0, .any⟩]

/-- The objects of one page of the index map (R301). -/
def Dict.page : Nat → List ObjRow
  | 0x10 => Dict.rows10
  | 0x11 => Dict.rows11
  | 0x12 => Dict.rows12
  | 0x13 => Dict.rows13
  | 0x14 => Dict.rows14
  | 0x20 => Dict.rows20
  | 0x21 => Dict.rows21
  | 0x22 => Dict.rows22
  | 0x23 => Dict.rows23
  | 0x24 => Dict.rows24
  | 0x25 => Dict.rows25
  | 0x26 => Dict.rows26
  | 0x27 => Dict.rows27
  | 0x28 => Dict.rows28
  | 0x30 => Dict.rows30
  | 0x31 => Dict.rows31
  | 0x32 => Dict.rows32
  | 0x33 => Dict.rows33
  | 0x34 => Dict.rows34
  | 0x35 => Dict.rows35
  | 0x36 => Dict.rows36
  | 0x40 => Dict.rows40
  | 0x41 => Dict.rows41
  | 0x42 => Dict.rows42
  | 0x43 => Dict.rows43
  | 0x44 => Dict.rows44
  | 0x4F => Dict.rows4F
  | _ => []

/-- The row of an object in a list of rows. -/
def Dict.findIn (k : Nat) : List ObjRow → Option ObjRow
  | [] => none
  | r :: rs => if r.key = k then some r else Dict.findIn k rs

/-- The row of an object, by index × 256 + subindex (R301). -/
def Dict.find? (obj : Nat) : Option ObjRow := Dict.findIn obj (Dict.page (obj / 0x10000))

/-- Whether an index is assigned (R301): every assigned index has a subindex 00. -/
def Dict.hasIndex (obj : Nat) : Bool := (Dict.find? (obj / 256 * 256)).isSome

/-- Bytes of a value of a type on the wire (R286). -/
def Ty.bytes : Ty → Nat
  | .bool => 1
  | .u n => n
  | .i n => n
  | .q15 => 2
  | .q31 => 4
  | .f32 => 4
  | .time64 => 14
  | .octet n => n
  | .str n => n

/-- Program of the factory image: slot k's instruction m at element 32k + m (R90). -/
def Dict.factoryProgram (n : Nat) : Nat :=
  let ld := fun (op operand : Nat) => op * 1024 + operand
  let cell := fun (phs : Nat) =>
    [ld 1 0, ld 2 14, ld 3 phs, ld 8 0, ld 4 0, ld 9 0, ld 5 0, ld 5 1, ld 5 2, ld 5 3, ld 6 0, ld 7 0, ld 12 0, ld 0 0,
     ld 11 0, ld 7 0, ld 12 0, ld 0 0]
  let voa := [ld 1 1, ld 2 (256 + 13), ld 8 0, ld 4 1, ld 9 0, ld 5 0, ld 5 1, ld 5 2, ld 5 3, ld 6 0, ld 7 0, ld 12 0,
     ld 0 0, ld 11 0, ld 7 0, ld 12 0, ld 0 0]
  match n / 32 with
  | 0 => (cell 0).getD (n % 32) 0
  | 1 => (cell 1).getD (n % 32) 0
  | 2 => voa.getD (n % 32) 0
  | _ => 0

/-- Set 0 of the factory coefficients, as OD 2404h words (the example of R83). -/
def Dict.coefSet0 : List Nat :=
  [0x0004, 0x4000, 0x7000, 0xA000, 0, 0xC000, 0, 1, 0x4000, 0xC666, 0, 0xF666, 0, 3, 0x2000, 0x2000, 0, 0xC000, 0, 0,
   0x4000, 0, 0, 0, 0, 1]

/-- Glide profiles at delivery, as binary32 words V_MAX, A_MAX, J_MAX, 0 (R202). -/
def Dict.glideProfile (n : Nat) : Nat :=
  match n / 4, n % 4 with
  | 0, 0 => 0x461C4000 | 0, 1 => 0x4B189680 | 0, 2 => 0x501502F9
  | 1, 0 => 0x447A0000 | 1, 1 => 0x47C35000 | 1, 2 => 0x4B189680
  | 2, 0 => 0x42C80000 | 2, 1 => 0x447A0000 | 2, 2 => 0x461C4000
  | _, 0 => 0x42480000 | _, 1 => 0x43480000 | _, 2 => 0x44FA0000
  | _, _ => 0

/-- Default severities of the fault sources (R343); none for a reserved number. -/
def Dict.severity (n : Nat) : Option Nat :=
  if n ≤ 1 then some 4 else if n ≤ 3 then some 2 else if n = 4 then some 1 else if n ≤ 13 then some 2
  else if n = 14 then some 3 else if n ≤ 16 then some 2 else if n ≤ 22 then some 3 else if n = 23 then some 4
  else if n ≤ 32 then some 2
  else if 64 ≤ n ∧ n ≤ 71 then some 3 else if 72 ≤ n ∧ n ≤ 75 then some 2 else if 76 ≤ n ∧ n ≤ 79 then some 1
  else if 80 ≤ n ∧ n ≤ 83 then some 2 else if 84 ≤ n ∧ n ≤ 92 then some 3 else if n = 93 then some 1
  else if 128 ≤ n ∧ n ≤ 135 then some 3 else if 136 ≤ n ∧ n ≤ 137 then some 2 else if 138 ≤ n ∧ n ≤ 142 then some 1
  else if n = 143 then some 2 else if 144 ≤ n ∧ n ≤ 145 then some 1 else if 146 ≤ n ∧ n ≤ 182 then some 3
  else if 192 ≤ n ∧ n ≤ 227 then some 3 else if 228 ≤ n ∧ n ≤ 231 then some 1 else if n = 232 then some 2
  else if n = 233 then some 1 else if n = 234 then some 3 else if 235 ≤ n ∧ n ≤ 241 then some 2
  else if n = 242 then some 1 else if 243 ≤ n ∧ n ≤ 244 then some 2
  else if n = 256 then some 1 else if 257 ≤ n ∧ n ≤ 259 then some 3 else if 260 ≤ n ∧ n ≤ 261 then some 2
  else if n = 262 then some 1 else if n = 263 then some 2 else if n = 264 then some 1 else if n = 265 then some 2
  else if 266 ≤ n ∧ n ≤ 267 then some 1
  else if 320 ≤ n ∧ n ≤ 323 then some 2 else if 324 ≤ n ∧ n ≤ 327 then some 3 else if 328 ≤ n ∧ n ≤ 333 then some 1
  else if n = 334 then some 3
  else if n = 384 then some 1 else if n = 385 then some 2 else if n = 386 then some 3
  else if 387 ≤ n ∧ n ≤ 390 then some 2 else if 391 ≤ n ∧ n ≤ 392 then some 1
  else if 448 ≤ n ∧ n ≤ 452 then some 1 else if 453 ≤ n ∧ n ≤ 456 then some 2 else if n = 457 then some 1
  else if 458 ≤ n ∧ n ≤ 459 then some 2 else if n = 460 then some 1 else if 461 ≤ n ∧ n ≤ 462 then some 3
  else if n = 463 then some 2 else if n = 464 then some 3
  else none

/-- A node of the factory parse graph from its fields, VALID 1 and SEL_BIT 0 (R236, R419). -/
def Dict.parseNode (hdr selByte selLen mode base lenByte lenShift lenWidth scale chk chkByte minLen : Nat) : Nat :=
  2 ^ 63 + hdr * 2 ^ 57 + selByte * 2 ^ 50 + selLen * 2 ^ 42 + mode * 2 ^ 40 + base * 2 ^ 33 + lenByte * 2 ^ 26 + lenShift * 2 ^ 23
    + lenWidth * 2 ^ 20 + scale * 2 ^ 18 + chk * 2 ^ 16 + chkByte * 2 ^ 9 + minLen * 2 ^ 2

/-- The nodes of the factory parse graph; nodes 8 to 255 have VALID 0 (R419). -/
def Dict.parseNodes : List Nat :=
  [Dict.parseNode 1 12 16 0 14 0 0 0 0 0 0 0, Dict.parseNode 2 2 16 0 4 0 0 0 0 0 0 0, Dict.parseNode 3 9 8 1 0 0 0 3 2 1 2 20,
   Dict.parseNode 4 6 8 0 40 0 0 0 0 2 4 0, Dict.parseNode 5 0 8 1 8 1 0 7 3 0 0 8, Dict.parseNode 6 0 0 2 8 0 0 0 0 0 0 0,
   Dict.parseNode 7 0 0 1 0 12 4 3 2 0 0 20, Dict.parseNode 8 0 0 2 28 0 0 0 0 0 0 0]

/-- The transitions of the factory parse graph, of a node and its successors by value; elements 22 to 2,047 have VALID 0
(R237, R419). -/
def Dict.parseTrans : List Nat :=
  let from_ : Nat → Nat → List (Nat × Nat) → List Nat := fun n mask l => l.map (fun p =>
    2 ^ 63 + n * 2 ^ 55 + p.1 * 2 ^ 47 + p.2 * 2 ^ 31 + mask * 2 ^ 15)
  let ether := [(1, 0x8100), (1, 0x88A8), (2, 0x0800), (3, 0x86DD), (7, 0x0806)]
  let ip6 := [(4, 0x0000), (4, 0x002B), (4, 0x003C), (6, 0x0006), (5, 0x0011)]
  from_ 0 0xFFFF ether ++ from_ 1 0xFFFF ether ++ from_ 2 0x00FF [(6, 0x0006), (5, 0x0011)] ++ from_ 3 0x00FF ip6 ++ from_ 4 0x00FF ip6

/-- The defaults that the spec gives by a rule of their own; the rest is factory content (log 5). -/
def Dict.special (obj e : Nat) : Nat :=
  match obj with
  | 0x221001 => Dict.glideProfile e
  | 0x221101 => if e = 0 then 4500000 else if e = 1 then 45000000 else if e = 2 then 450000000 else 850000000
  | 0x250401 => if e ≤ 1 then 81 else if e = 2 then 67 else 0
  | 0x250501 => Dict.factoryProgram e
  | 0x240401 => if e < 40 then Dict.coefSet0.getD e 0 else if e < 240 then Config.factory obj e % 65536 else 0
  | 0x260201 => Config.factory 0x260301 e % 262144
  | 0x260301 => Config.factory 0x260301 e % 262144
  | 0x282301 =>
    if e < 4096 then
      let k := e / 512
      let o := e % 512
      let j := (o + 128 * 4 - 64 * (k / 4)) % 128
      if o / 128 = k % 4 then 384 + j else 0x8000
    else 0x8000
  | 0x310101 => Dict.parseNodes.getD e 0
  | 0x310201 => Dict.parseTrans.getD e 0
  | 0x330101 => if e % 2048 < 8 then 0x8001000000000000 + e % 2048 * 0x1000000000000000 else 0x0001000000000000
  | 0x411001 => if e = 0 then 0x4624B25555F50000 else if e ≤ 4 then 0x5A35F469A7350000 else 0x5F36446EA7850000
  | 0x411501 => if e < 16 then 0 else if e < 32 then 1 + (e - 16) / 4 else if e < 48 then 5 else if e < 56 then 6 else 7
  | 0x400501 => (Dict.severity e).getD 0 * 2 ^ 24
  | _ => Config.factory obj e

/-- What an object's element reads as where nothing else has been written: its default, within its type's width. -/
def Dict.dflt (obj e : Nat) : Nat :=
  match Dict.find? obj with
  | none => 0
  | some r =>
    match r.dflt with
    | .nat v =>
      match obj with
      | 0x240201 => if e < 8704 then (if e % 2 = 0 then 0x0001 else 0x1083) else 0x2105
      | 0x240301 => if e < 8704 then 0x999A666613880004 else 0x999A6666012C0004
      | _ => v
    | .special => Dict.special obj e % 256 ^ r.ty.bytes

end Sys2Proof.Machine
end

