-- ==== Sys2Proof/Machine/Ops.lean ====
section
/-! DEFINITION. The named operations over the register file, the configuration sets, time, counters, fault lines and
events, which every meaning uses. -/

namespace Sys2Proof.Machine

/-! ### The register file -/

/-- The key of element e of an object. -/
abbrev okey (obj e : Nat) : Nat := obj * 1048576 + e

/-- The object of a key. -/
def okeyObj (k : Nat) : Nat := k / 1048576

/-- The element of a key. -/
def okeyElem (k : Nat) : Nat := k % 1048576

/-- What an unlisted key reads as. -/
def dfltOf (k : Nat) : Nat := Dict.dflt (okeyObj k) (okeyElem k)

/-- Reads a store of values by key. -/
def storeGet (t : Tab Nat) (k : Nat) : Nat := Tab.get t k (dfltOf k)

/-- Writes a store of values by key. -/
def storePut (t : Tab Nat) (k v : Nat) : Tab Nat := Tab.put t k v (dfltOf k)

/-- The present value of an object that is not RWS (R287). -/
def Core.rd (c : Core) (obj : Nat) (e : Nat := 0) : Nat := storeGet c.regs (okey obj e)

/-- Sets the present value of an object that is not RWS. -/
def Core.wr (c : Core) (obj e v : Nat) : Core := { c with regs := storePut c.regs (okey obj e) v }

/-- Sets the present value of an object that is no table. -/
abbrev Core.set (c : Core) (obj v : Nat) : Core := c.wr obj 0 v

/-- An RWS object in the active set (R187). -/
def Core.rdA (c : Core) (obj : Nat) (e : Nat := 0) : Nat := storeGet c.act (okey obj e)

/-- An RWS object in the shadow set (R187). -/
def Core.rdS (c : Core) (obj : Nat) (e : Nat := 0) : Nat := storeGet c.shd (okey obj e)

/-- Sets an RWS object in the shadow set. -/
def Core.wrS (c : Core) (obj e v : Nat) : Core := { c with shd := storePut c.shd (okey obj e) v }

/-- The elements listed in a store for an object, with their values. -/
def storeListed (t : Tab Nat) (obj : Nat) : List (Nat × Nat) :=
  t.filterMap (fun p => if okeyObj p.1 = obj then some (okeyElem p.1, p.2) else none)

/-- Accepts an RW write: it takes effect at the next frame boundary (R7). -/
def Core.defer (c : Core) (obj e v : Nat) : Core := { c with pend := c.pend ++ [(okey obj e, v)] }

/-- The value an RW element will have once every accepted write is in effect. -/
def Core.rdNext (c : Core) (obj : Nat) (e : Nat := 0) : Nat :=
  c.pend.foldl (fun v p => if p.1 = okey obj e then p.2 else v) (c.rd obj e)

/-! ### Free values -/

/-- The next free value: the present draw of an opaque sequence (log 4). -/
def Core.draw (c : Core) : Nat := Config.free c.free

/-- The machine after one free value is used. -/
def Core.drawn (c : Core) : Core := { c with free := c.free + 1 }

/-! ### Time -/

/-- The start of the present frame. -/
def Core.frameStart (c : Core) : Instant := c.now / frameUnits * frameUnits

/-- Running time at the start of the present frame. -/
def Core.upFrame (c : Core) : Nat := c.up - (c.now - c.frameStart)

/-- Index f of the present frame within its second (R8). -/
def Core.frameIx (c : Core) : Nat := c.now % secondUnits / frameUnits

/-- The boundary that ends the present frame. -/
def Core.frameEnd (c : Core) : Instant := c.frameStart + frameUnits

/-- Whether an instant is a frame boundary (R24). -/
def isBoundary (t : Instant) : Bool := t % frameUnits == 0

/-- The first frame boundary at or after an instant. -/
def boundaryFrom (t : Instant) : Instant := (t + (frameUnits - 1)) / frameUnits * frameUnits

/-- The first of the instants base + k × period that is at or after t (R41). -/
def gridFrom (base period t : Nat) : Nat :=
  if period = 0 ∨ t ≤ base then base else base + (t - base + (period - 1)) / period * period

/-- Nanoseconds as units of an instant. -/
abbrev nsU (n : Nat) : Nat := n * 65536

/-- Time states of R25. -/
abbrev tsFree : Nat := 0
abbrev tsAcquiring : Nat := 1
abbrev tsLocked : Nat := 2
abbrev tsHoldover : Nat := 3

/-- The time state (R25). -/
def Core.timeState (c : Core) : Nat := c.rd OD.TIME_STATE

/-- Power state codes of OD 4100h.01 POWER_STATE (R358). -/
abbrev psRun : Nat := 0
abbrev psQuiet : Nat := 1
abbrev psDormant : Nat := 2
abbrev psHalted : Nat := 3
abbrev psMaint : Nat := 4

/-- The power state (R358). -/
def Core.power (c : Core) : Nat := c.rd OD.POWER_STATE

/-- The power state whose loop rate and coefficient sets hold: that before a staged release while it runs (R355). -/
def Core.loopPower (c : Core) : Nat :=
  match c.trav.release with
  | some r => r.home
  | none => c.power

/-- Whether the lanes are powered (R354, R358). -/
def Core.lanesOn (c : Core) : Bool := decide (c.power = psRun) && !c.pwr.shut

/-- Whether a supervisor is in charge: no gap, not Unsupervised (R317, R318). -/
def Core.inCharge (c : Core) : Bool := decide (c.rd OD.SUP_STATE = 0)

/-- The dies are held in reset: a rail or PWR_GOOD_IN is missing, or RESET_N is low (R364, R402, R408). -/
def Core.dead (c : Core) : Bool := !c.boot.powered || !c.boot.good || c.boot.resetLow

/-- A boot step of this boot has passed, whether or not by its alternate (R371). -/
def Core.passed (c : Core) (k : Nat) : Bool := decide (Tab.get c.boot.outcome k 0 = 2 ∨ Tab.get c.boot.outcome k 0 = 3)

/-- The clear codes are loaded: S05 has applied them, or a warm restart left the drive as it was (R116, R374). -/
def Core.drivesUp (c : Core) : Bool := c.passed 5 || c.boot.warm.isSome

/-! ### Test points in use (R390, R391) -/

/-- Whether a test point's generator or checker is enabled. -/
def Core.pointUsed (c : Core) (n : Nat) : Bool := bit (c.rd OD.TEST_CONFIG n) 31 || bit (c.rd OD.TEST_CONFIG n) 26

/-- Whether a test point of a die-to-die link is in use, which puts the link out of service. -/
def Core.linkTested (c : Core) (d : Nat) : Bool := (rangeFrom (128 + 4 * d) 4).any c.pointUsed

/-! ### Counters -/

/-- A counter element of type U64 after n more occurrences: 48 bits that wrap and a sticky WRAP bit (R378). -/
def count64 (v n : Nat) : Nat :=
  let s := bits v 47 0 + n
  (if bit v 63 ∨ 2 ^ 48 ≤ s then 2 ^ 63 else 0) + s % 2 ^ 48

/-- A counter of type U32 after n more occurrences: it wraps without a bit (R378). -/
def count32 (v n : Nat) : Nat := (v + n) % 2 ^ 32

/-- Advances a U32 counter (R378). -/
def Core.inc (c : Core) (obj : Nat) (e : Nat := 0) (n : Nat := 1) : Core := c.wr obj e (count32 (c.rd obj e) n)

/-- Advances a U64 counter (R378). -/
def Core.inc64 (c : Core) (obj : Nat) (e : Nat := 0) (n : Nat := 1) : Core := c.wr obj e (count64 (c.rd obj e) n)

/-- Adds occurrences of an event to the performance counters that count it by edges (R380, R381). -/
def Core.occur (c : Core) (ev q : Nat) (n : Nat := 1) : Core :=
  (storeListed c.regs OD.PERF_CONFIG).foldl (fun (c : Core) p =>
    if bit p.2 31 ∧ ¬ bit p.2 30 ∧ bits p.2 23 18 = ev ∧ bits p.2 17 0 = q then c.inc64 OD.PERF_COUNT p.1 n else c) c

/-! ### Fault lines and events -/

/-- Reports a line that asserts in this collector cycle and drops again (R326). -/
def Core.pulse (c : Core) (source : Nat) (loops : List Nat := []) (lanes : List Nat := []) : Core :=
  { c with faults := { c.faults with raised := c.faults.raised ++ [⟨source, loops, lanes, [], true⟩] } }

/-- Asserts a line, which stays asserted until it is dropped (R326). -/
def Core.hold (c : Core) (source : Nat) (loops : List Nat := []) (lanes : List Nat := []) : Core :=
  { c with faults := { c.faults with raised := c.faults.raised ++ [⟨source, loops, lanes, [], false⟩] } }

/-- Drops a line: its LIVE bit follows (R327). -/
def Core.drop (c : Core) (source : Nat) : Core :=
  { c with faults := { c.faults with lines := c.faults.lines.filter (· != source) } }

/-- Asserts or drops a line by a condition. -/
def Core.follow (c : Core) (source : Nat) (on : Bool) : Core := if on then c.hold source else c.drop source

/-- A happening that is sent to the subscribers of its origin (R300). -/
def Core.emit (c : Core) (kind origin : Nat) (data : List Byte) : Core :=
  { c with events := c.events ++ [⟨kind, origin, c.now, data⟩] }

/-- Ends a command with an abort code, 0 for success (R308). -/
def Core.ends (c : Core) (code : Nat) : Core := { c with result := code }

/-- Abort codes of R308. -/
abbrev abNoObject : Nat := 0x06010000
abbrev abNoSub : Nat := 0x06010001
abbrev abNotWritable : Nat := 0x06010002
abbrev abNotReadable : Nat := 0x06010003
abbrev abTransfer : Nat := 0x06010004
abbrev abSelector : Nat := 0x06010005
abbrev abLength : Nat := 0x06020000
abbrev abOffset : Nat := 0x06020001
abbrev abBody : Nat := 0x06030000
abbrev abType : Nat := 0x06030001
abbrev abCount : Nat := 0x06030002
abbrev abReplySize : Nat := 0x06030003
abbrev abLead : Nat := 0x06040002
abbrev abFree : Nat := 0x06040003
abbrev abExport : Nat := 0x06040010
abbrev abRole : Nat := 0x06040011
abbrev abUnsolved : Nat := 0x06040012
abbrev abStrict : Nat := 0x06040014
abbrev abSuperseded : Nat := 0x06040015
abbrev abResource : Nat := 0x06050000
abbrev abBusy : Nat := 0x06050001
abbrev abRunning : Nat := 0x06060001
abbrev abNotAttempted : Nat := 0x06060002
abbrev abSignature : Nat := 0x06080020
abbrev abStructure : Nat := 0x06080021
abbrev abBudget : Nat := 0x06080022
abbrev abSelection : Nat := 0x06080023
abbrev abValue : Nat := 0x06090030
abbrev abMapDup : Nat := 0x06090040
abbrev abNoMap : Nat := 0x06090041
abbrev abVerify : Nat := 0x06090042
abbrev abClassFull : Nat := 0x06090050
abbrev abClassPos : Nat := 0x06090051
abbrev abClassDup : Nat := 0x06090052
abbrev abInternal : Nat := 0x08000000

end Sys2Proof.Machine
end

