-- ==== Sys2Proof/Machine/Fabric.lean ====
section
/-! DEFINITION. The Benes fabric: lines, cells, paths, and the set-points that a configuration set gives each element
(R45, R46, R51, R55, R56, R174). -/

namespace Sys2Proof.Machine

/-- The 9-bit number with its bit order reversed (R45). -/
def rev9 (n : Nat) : Nat := (List.range 9).foldl (fun a j => a + bn (bit n j) * 2 ^ (8 - j)) 0

/-- The bit that stage s pairs lines on (R45). -/
def stageBit (s : Nat) : Nat := if s ≤ 8 then s else 16 - s

/-- A label with one bit flipped. -/
def flipBit (v b : Nat) : Nat := if bit v b then v - 2 ^ b else v + 2 ^ b

/-- The cell that a line passes at a stage (R45, R46). -/
def cellAt (s lam : Nat) : Nat :=
  let b := stageBit s
  256 * s + (lam / 2 ^ (b + 1)) * 2 ^ b + lam % 2 ^ b

/-- The label of the line that enters a cell's upper input; the lower one has the stage's bit set (R45). -/
def upperLine (cell : Nat) : Nat :=
  let b := stageBit (cell / 256)
  let k := cell % 256
  (k / 2 ^ b) * 2 ^ (b + 1) + k % 2 ^ b

/-- Whether a setting word list crosses a cell: bit j of word w is cell 32w + j (R174). -/
def crossIn (words : Nat → Nat) (cell : Nat) : Bool := bit (words (cell / 32)) (cell % 32)

/-- The object key under which both configuration sets hold the cell settings. -/
abbrev settingsObj : Nat := OD.ACTIVE_SETTINGS

/-- The settings of a configuration set. -/
def setWords (st : Tab Nat) (w : Nat) : Nat := storeGet st (okey settingsObj w)

/-- The settings of a map slot (R181). -/
def slotWords (c : Core) (n w : Nat) : Nat := c.rd OD.SLOT_SETTINGS (136 * n + w)

/-- A map entry of a configuration set (R166). -/
def mapEntry (st : Tab Nat) (o : Nat) : Nat := storeGet st (okey OD.CONN_MAP o)

/-- A Dark entry (R166). -/
def isDark (e : Nat) : Bool := bit e 15

/-- The input an entry names (R166). -/
def entryInput (e : Nat) : Nat := bits e 8 0

/-- DARK and INPUT of an entry: what Col routes by (R168). -/
def entryRoute (v : Nat) : Option Nat := if isDark v then none else some (entryInput v)

/-- METHOD of an entry: glide (R166). -/
def entryGlides (e : Nat) : Bool := bit e 14

/-- The cells on a line from stage s on, n stages, and the label that leaves (R46). -/
def traceFrom (words : Nat → Nat) : Nat → Nat → Nat → List Nat × Nat
  | 0, _, lam => ([], lam)
  | n + 1, s, lam =>
    let cell := cellAt s lam
    let lam' := if crossIn words cell then flipBit lam (stageBit s) else lam
    let r := traceFrom words n (s + 1) lam'
    (cell :: r.1, r.2)

/-- The cells that the light of a fabric input passes, and the fabric output it reaches (R46). -/
def pathOf (words : Nat → Nat) (input : Nat) : List Nat × Nat :=
  let r := traceFrom words 17 0 (rev9 input)
  (r.1, rev9 r.2)

/-- The fabric input whose line enters stage s with a label (R46 backward). -/
def inputOfLine (words : Nat → Nat) : Nat → Nat → Nat
  | 0, lam => rev9 lam
  | s + 1, lam =>
    inputOfLine words s (if crossIn words (cellAt s lam) then flipBit lam (stageBit s) else lam)

/-- The two fabric inputs whose lines pass a cell: upper, lower. -/
def cellInputs (words : Nat → Nat) (cell : Nat) : Nat × Nat :=
  let s := cell / 256
  let up := upperLine cell
  (inputOfLine words s up, inputOfLine words s (flipBit up (stageBit s)))

/-- The monitor channel that taps a line as it enters stage s (R63). -/
def lineTap (s lam : Nat) : Nat :=
  if s = 0 then 8704 + rev9 lam else 2 * cellAt (s - 1) lam + bn (bit lam (stageBit (s - 1)))

/-! ### Elements -/

/-- Kinds of element: 0 phase, 1 balance, 2 VOA (R6). -/
def teKind (te : Nat) : Nat := if te < 8704 then te % 2 else 2

/-- The drive-and-sense die of an element, and of a monitor channel (R6). -/
abbrev teDie (te : Nat) : Nat := te / 2304
abbrev chanDie (ch : Nat) : Nat := ch / 2432

/-- The TE of the VOA of an output (R6). -/
abbrev voaTe (o : Nat) : Nat := 8704 + o

/-- pi in 2^-24 rad (log 11). -/
def pi24 : Int := if Config.piUp then 52707179 else 52707178

/-- The natural loss of the path that a set gives an assigned output, 2^-24 dB (R69). -/
def naturalLoss (words : Nat → Nat) (entry o : Nat) : Int :=
  Config.naturalLoss (entryInput entry) o (pathOf words (entryInput entry)).1

/-- The loss target of an output under a set before R56's limits, 2^-24 dB (R55); `lnat` is the natural loss. -/
def lossTarget (st : Tab Nat) (o : Nat) (lnat : Int) : Int :=
  let hundredths := fun (v : Nat) => idivFree (v * 2 ^ 24) 100
  match storeGet st (okey OD.FABRIC_MODE 0) with
  | 0 => lnat
  | 1 => hundredths (storeGet st (okey (if o < 384 then OD.EQ_LOSS else OD.LANE_EQ_LOSS) 0))
  | _ => hundredths (storeGet st (okey OD.OUTPUT_LOSS o))

/-- The set-point of an element under a configuration set, with settings and map given (R55, R56, R174). -/
def setPoint (st : Tab Nat) (words entries : Nat → Nat) (te : Nat) : Int :=
  match teKind te with
  | 0 => if crossIn words (te / 2) then pi24 else 0
  | 1 => 0
  | _ =>
    let o := te - 8704
    let lnat := naturalLoss words (entries o) o
    clampI lnat (lnat + 419430400) (lossTarget st o lnat)

/-- Whether the levelling target of an output is out of reach (R56). -/
def eqShort (st : Tab Nat) (o : Nat) : Bool :=
  let e := mapEntry st o
  if isDark e then false
  else
    let lnat := naturalLoss (setWords st) e o
    let t := lossTarget st o lnat
    decide (t < lnat) || decide (lnat + 419430400 < t)

/-- An element's set-point in the active set. -/
def Core.target (c : Core) (te : Nat) : Int := setPoint c.act (setWords c.act) (mapEntry c.act) te

/-- An input's record. -/
def LitIn.reset : LitIn := ⟨false, false, false, 0, -4000, []⟩

/-- A fabric input's lit state and power (R50). -/
def Core.input (c : Core) (i : Nat) : LitIn := Tab.get c.inputs i LitIn.reset

/-- The map and the settings that were active during the window which the present frame computes on: those before a swap at the
boundary that began it (R51). -/
def Core.windowSet (c : Core) : Tab Nat :=
  match c.trav.before with
  | some p => if p.1 = c.frames then p.2 else c.act
  | none => c.act

/-- Whether an element is lit (R51). The VOA of a Dark output is not, whatever the free route brings it (DESIGN CHOICE: R51 states
OUTPUT_STATE alone, log 62). -/
def Core.teLit (c : Core) (te : Nat) : Bool :=
  let st := c.windowSet
  if te < 8704 then
    let r := cellInputs (setWords st) (te / 2)
    (c.input r.1).lit || (c.input r.2).lit
  else
    let e := mapEntry st (te - 8704)
    !isDark e && (c.input (entryInput e)).lit

/-! ### Drive tables (R69, R142) -/

/-- Place of an argument among an element's 64 table points, as a fraction, and the change of place for one unit of
2^-24 (numerator over the same denominator). -/
def tablePlace (te : Nat) (a : Int) : Int × Int × Int :=
  match teKind te with
  | 0 => ((a * 10 + 3 * 16777216) * 63, 630, 10 * pi24 + 6 * 16777216)
  | 1 => ((a + 4194304) * 126, 126, 16777216)
  | _ => (a * 63, 63, 419430400)

/-- The drive table's code at an argument as a fraction, and the slope in codes per full-scale u (R69). -/
def driveTable (c : Core) (te : Nat) (a : Int) : Int × Int × Int :=
  let p := tablePlace te a
  let den := p.2.2
  let j := (clampI 0 62 (p.1 / den)).toNat
  let c0 : Int := c.rd OD.DRIVE_TABLE (64 * te + j)
  let c1 : Int := c.rd OD.DRIVE_TABLE (64 * te + j + 1)
  let fr := clampI 0 den (p.1 - j * den)
  let scale : Int := if te < 8704 then 2097152 else 536870912
  (c0 * (den - fr) + c1 * fr, den, idivFree ((c1 - c0) * p.2.1 * scale) den.toNat)

/-- The argument a(sp) of an element's drive table (R69). -/
def driveArg (words entries : Nat → Nat) (te : Nat) (sp : Int) : Int :=
  if te < 8704 then sp
  else clampI 0 419430400 (sp - naturalLoss words (entries (te - 8704)) (te - 8704))

/-- The code of R69 before the ceiling: D(a) + ((S(a) * u) >> 15), rounded, within 0 to 262,143. -/
def driveCode (c : Core) (te : Nat) (a u : Int) : Nat :=
  let d := driveTable c te a
  (clampI 0 262143 (roundNear (d.1 + (d.2.2 * u / 32768) * d.2.1) d.2.1.toNat)).toNat

/-- The ceiling in force of an element (R107). -/
def Core.ceiling (c : Core) (te : Nat) : Nat := c.rd OD.CEILING te

/-- The code in force of an element's channel (R119). -/
def Core.driven (c : Core) (te : Nat) : Nat := c.rd OD.DRIVE_CODE te

/-- The clear code of an element (R115). -/
def Core.clearCode (c : Core) (te : Nat) : Nat := c.rd OD.CLEAR_CODE te

end Sys2Proof.Machine
end

