-- ==== Sys2Proof/Machine/Glide.lean ====
section
/-! DEFINITION. The profile generator of the VOAs: jerk-limited trajectories of least duration (R199, R200).
Values are in 2^-64 dB, dB/s, dB/s^2 and dB/s^3, times in 2^-16 ns. The lengths of the segments are real numbers that
need no rational form, so they are computed to the units above and the set-point to 2^-24 dB (log 13). -/

namespace Sys2Proof.Machine

/-- Units of time in a second, as an integer. -/
abbrev tsI : Int := 65536000000000

/-- The integer square root by bits from 2^k down. -/
def isqrtFrom : Nat → Nat → Nat → Nat
  | 0, n, r => if (r + 1) * (r + 1) ≤ n then r + 1 else r
  | k + 1, n, r => let r' := r + 2 ^ (k + 1); isqrtFrom k n (if r' * r' ≤ n then r' else r)

/-- The integer square root, rounded down. -/
def isqrt (n : Nat) : Nat := isqrtFrom (Nat.log2 n / 2 + 1) n 0

/-- Position after time t under constant jerk. -/
def jerkX (x v a j : Int) (t : Int) : Int :=
  x + (6 * v * t * tsI * tsI + 3 * a * t * t * tsI + j * t * t * t) / (6 * tsI * tsI * tsI)

/-- Velocity after time t under constant jerk. -/
def jerkV (v a j : Int) (t : Int) : Int := v + (2 * a * t * tsI + j * t * t) / (2 * tsI * tsI)

/-- Acceleration after time t under constant jerk. -/
def jerkA (a j : Int) (t : Int) : Int := a + j * t / tsI

/-- Position, velocity and acceleration after time t along segments. -/
def segsAt : List GlideSeg → Int → Int → Int → Nat → Int × Int × Int
  | [], x, v, a, _ => (x, v, a)
  | s :: r, x, v, a, t =>
    if t < s.len then (jerkX x v a s.jerk t, jerkV v a s.jerk t, jerkA a s.jerk t)
    else segsAt r (jerkX x v a s.jerk s.len) (jerkV v a s.jerk s.len) (jerkA a s.jerk s.len) (t - s.len)

/-- Length of a list of segments. -/
def segsLen (l : List GlideSeg) : Nat := l.foldl (fun n s => n + s.len) 0

/-- A time in 2^-16 ns: num / den seconds, rounded to the nearest unit. -/
def secsOf (num den : Int) : Nat := if den ≤ 0 then 0 else ((2 * num * tsI + den) / (2 * den)).toNat

/-- The quickest segments from velocity v and acceleration a to velocity w at zero acceleration. -/
def toVel (v a w aMax jMax : Int) : List GlideSeg :=
  let up := decide (a * a.natAbs ≤ 2 * jMax * (w - v))
  let s : Int := if up then 1 else -1
  let dv := s * (w - v)
  let a := s * a
  let ap2 := jMax * dv + a * a / 2
  let ap : Int := isqrt ap2.toNat
  let segs := if ap ≤ aMax then
      [⟨s * jMax, secsOf (ap - a) jMax⟩, ⟨-s * jMax, secsOf ap jMax⟩]
    else
      -- an acceleration above the limit of a new profile first returns to it
      let first := if a ≤ aMax then (⟨s * jMax, secsOf (aMax - a) jMax⟩, 2 * jMax * dv - 2 * aMax * aMax + a * a)
        else ((⟨-s * jMax, secsOf (a - aMax) jMax⟩ : GlideSeg), 2 * jMax * dv - a * a)
      [first.1, ⟨0, secsOf first.2 (2 * jMax * aMax)⟩, ⟨-s * jMax, secsOf aMax jMax⟩]
  segs.filter (fun g => decide (0 < g.len))

/-- Distance covered from (v, a) to rest by way of velocity w. -/
def viaVel (v a w aMax jMax : Int) : Int :=
  (segsAt (toVel v a w aMax jMax ++ toVel w 0 0 aMax jMax) 0 v a (2 ^ 80)).1

/-- The peak velocity, toward s, whose distance is just within dist: bisection over the bits of the velocity. -/
def peakVel : Nat → Int → Int → Int → Int → Int → Int → Int → Int
  | 0, _, _, w, _, _, _, _ => w
  | k + 1, v, a, w, s, dist, aMax, jMax =>
    let w' := w + 2 ^ k
    peakVel k v a (if s * viaVel v a (s * w') aMax jMax ≤ dist then w' else w) s dist aMax jMax

/-- The trajectory of least duration from (x, v, a) straight to rest at a target (R199). -/
def planStraight (x v a target vMax aMax jMax : Int) : List GlideSeg :=
  let d := target - x
  let s : Int := if 0 ≤ d then 1 else -1
  let top := viaVel v a (s * vMax) aMax jMax
  if s * top ≤ s * d then
    toVel v a (s * vMax) aMax jMax ++ [⟨0, secsOf (s * d - s * top) vMax⟩].filter (fun g => decide (0 < g.len))
      ++ toVel (s * vMax) 0 0 aMax jMax
  else
    let w := peakVel (Nat.log2 vMax.toNat + 1) v a 0 s (s * d) aMax jMax
    toVel v a (s * min w vMax) aMax jMax ++ toVel (s * min w vMax) 0 0 aMax jMax

/-- Whether a new target needs the motion brought to rest first: it lies against the direction of motion, or the motion
cannot stop short of it (R200). -/
def mustReverse (x v a target aMax jMax : Int) : Bool :=
  let dir := if v ≠ 0 then v.sign else a.sign
  let stop := (segsAt (toVel v a 0 aMax jMax) x v a (2 ^ 80)).1
  decide (dir ≠ 0) && (decide (dir * (target - x) < 0) || decide (dir * (target - stop) < 0))

/-- Scales a set-point of 2^-24 dB. -/
def spScale (sp : Int) : Int := sp * 2 ^ 40

/-- A trajectory from a state of motion to a new target, and whether it is a reversal (R200). -/
def genFrom (x v a : Int) (targetSp vMax aMax jMax : Int) : Gen × Bool :=
  let target := spScale targetSp
  if mustReverse x v a target aMax jMax then
    let s1 := toVel v a 0 aMax jMax
    let x1 := (segsAt s1 x v a (2 ^ 80)).1
    (⟨x, v, a, s1 ++ planStraight x1 0 0 target vMax aMax jMax, 0, targetSp, vMax, aMax, jMax⟩, true)
  else (⟨x, v, a, planStraight x v a target vMax aMax jMax, 0, targetSp, vMax, aMax, jMax⟩, false)

/-- Present position, velocity and acceleration of a generator. -/
def Gen.now (g : Gen) : Int × Int × Int := segsAt g.segs g.x g.v g.a g.t

/-- Whether a generator has reached its target. -/
def Gen.done (g : Gen) : Bool := decide (segsLen g.segs ≤ g.t)

/-- The set-point of a generator, 2^-24 dB. -/
def Gen.sp (g : Gen) : Int := if g.done then g.target else idivFree g.now.1 (2 ^ 40)

/-- A generator after the progress of n frames (R199: four in Quiet). -/
def Gen.step (g : Gen) (n : Nat) : Gen := { g with t := g.t + n * frameUnits }

/-- The value of a positive finite binary32 word in 2^-64 units; none for zero, a negative, an infinity or a NaN
(R208, R286). -/
def f32Pos (w : Nat) : Option Int :=
  let e := bits w 30 23
  let m := bits w 22 0
  if bit w 31 ∨ e = 255 ∨ (e = 0 ∧ m = 0) then none
  else
    let m := if e = 0 then m else m + 2 ^ 23
    let e := if e = 0 then 1 else e
    -- value m × 2^(e - 150)
    some (if 86 ≤ e then m * 2 ^ (e - 86) else (m / 2 ^ (86 - e) : Nat))

/-- Duration of a ramp over a distance from rest to rest, 2^-16 ns. -/
def rampUnits (dist vMax aMax jMax : Int) : Nat :=
  segsLen (planStraight 0 0 0 (spScale dist) vMax aMax jMax)

/-- 25 dB in 2^-24 dB, the span of a VOA (R47). -/
abbrev db25 : Int := 419430400

end Sys2Proof.Machine
end

