-- ==== Sys2Proof/Machine/Elements.lean ====
section
/-! DEFINITION. Operations on loops and drive channels that more than one family uses: holding, releasing, parking and
clearing elements, and the end of a commit. -/

namespace Sys2Proof.Machine

/-! ### Loops -/

/-- A loop after reset: Parked, its states 0 (R71). -/
def Loop.reset : Loop where
  st := .parked
  rep := .parked
  cause := 0
  leaving := false
  frozen := false
  expired := false
  sat := false
  usable := false
  lit := false
  calFlag := false
  decision := .none
  acquiring := false
  holdNext := none
  clearReq := false
  gap := false
  first := false
  clock := ⟨0, 0, 0, 0, false, none, false, none, false, 0⟩
  secs := []
  u := 0
  yN := 0
  uCoast := 0
  t0 := 0
  d := 0
  kT := 0
  regr := ⟨0, 0, 0, 0, 0⟩
  uPrev := 0
  sp := 0
  meas := 0
  spShown := 0
  spFrom := 0
  code := 0
  bumpless := false
  bin := 0
  trimFrames := 0

/-- The loop of an element. -/
def Core.loop (c : Core) (te : Nat) : Loop := Tab.get c.loops te Loop.reset

/-- Parked and not leaving it by a traverse (R71, R72). -/
def Loop.isParked (l : Loop) : Bool := decide (l.st = .parked) && !l.leaving

/-- Sets the loop of an element. -/
def Core.setLoop (c : Core) (te : Nat) (l : Loop) : Core := { c with loops := Tab.put c.loops te l Loop.reset }

/-- Changes the loop of an element. -/
def Core.modLoop (c : Core) (te : Nat) (f : Loop → Loop) : Core := c.setLoop te (f (c.loop te))

/-- Changes every listed entry of a table whose key is chosen. -/
def Tab.mapIf {α : Type} [DecidableEq α] (t : Tab α) (p : Nat → Bool) (d : α) (f : Nat → α → α) : Tab α :=
  t.filterMap (fun e => let w := if p e.1 then f e.1 e.2 else e.2; if w = d then none else some (e.1, w))

/-- Changes the loops of chosen elements; an unlisted loop is Parked and stays so. -/
def Core.mapLoops (c : Core) (p : Nat → Bool) (f : Nat → Loop → Loop) : Core :=
  { c with loops := Tab.mapIf c.loops p Loop.reset f }

/-- Causes of Hold (R83). -/
abbrev causeFe : Nat := 1
abbrev causeAcq : Nat := 2
abbrev causeLink : Nat := 3
abbrev causeMajor : Nat := 4
abbrev causeSwitch : Nat := 5

/-- A loop that a cause puts in Hold at once: not one Parked, and one in Hold keeps its cause (R72). -/
def Loop.holdFor (l : Loop) (cause : Nat) : Loop :=
  if l.st = .parked ∨ (l.st = .hold ∧ l.leaving = false) then { l with holdNext := none }
  else { l with st := .hold, rep := .hold, cause := cause, leaving := false, acquiring := false, holdNext := none, bin := 0
                trimFrames := 0, decision := .none }

/-- Puts chosen loops in Hold at once: their link went down (R16, R72). -/
def Core.holdLoops (c : Core) (p : Nat → Bool) (cause : Nat) : Core := c.mapLoops p (fun _ l => l.holdFor cause)

/-- The time from the start of a frame to the slot of a loop, 2^-16 ns: 1,448 + 92 j cycles of 2 ns (R86). -/
def slotUnits (te : Nat) : Nat := (1448 + 92 * (te % 256)) * 2 * 65536

/-- The frame count of the first slot of a loop from now on (R77, R86). -/
def Core.slotFrame (c : Core) (te : Nat) : Nat :=
  if c.now - c.frameStart ≤ slotUnits te then c.frames else c.frames + 1

/-- A Hold cause from outside the loop waits for the loop's first slot (R77); the first of several is kept. -/
def Loop.holdAt (l : Loop) (cause frame : Nat) : Loop :=
  if l.st = .parked ∨ (l.st = .hold ∧ l.leaving = false) ∨ l.holdNext.isSome then l
  else { l with holdNext := some (cause, frame) }

/-- A Hold cause from outside chosen loops, for the first slot of each (R77). -/
def Core.holdSoon (c : Core) (p : Nat → Bool) (cause : Nat) : Core :=
  c.mapLoops p (fun te l => l.holdAt cause (c.slotFrame te))

/-- The slot of a loop: a Hold cause that waits for it takes effect, and is reported from then on (R77; the spec does not say
from when, log 51). -/
def Loop.takeHold (l : Loop) : Loop :=
  match l.holdNext with
  | some p => l.holdFor p.1
  | none => l

/-- A loop whose Hold cause has cleared leaves Hold at its next loop frame (R72, R338). -/
def Loop.unhold (l : Loop) : Loop := if l.st = .hold then { l with leaving := true } else l

/-- A cause of Hold clears: a loop that it holds is to leave, and one that it was still to hold stays as it is (R72). -/
def Loop.releaseFrom (l : Loop) (cause : Nat) : Loop :=
  let l := if l.holdNext.any (fun p => p.1 == cause) then { l with holdNext := none } else l
  if l.cause = cause then l.unhold else l

/-- A Parked loop: open, states 0; what calibration and drift learning keep stays, whether it is lit, the value last measured and the
set-point of its last loop frame (R71, R74, R83). The flags of its states are 0 with them (log 51). -/
def Loop.park (l : Loop) : Loop :=
  { Loop.reset with d := l.d, kT := l.kT, regr := l.regr, calFlag := l.calFlag, lit := l.lit, meas := l.meas, spShown := l.spShown
                    clock := { Loop.reset.clock with lockedNs := l.clock.lockedNs } }

/-! ### Coaches -/

/-- A coach after reset: no program runs, its registers 0 (log 6). -/
def CoachRec.reset : CoachRec :=
  ⟨false, 0, 0, 0, 0, [], 0, 0, 0, false, false, false, 0, 0, 0, 0, [], 0, 0, 0, false, false, false, false, false, 0, 0, 0⟩

/-- A coach between slots: its registers, and when it last ran, stay; what belongs to one loop frame does not. -/
def CoachRec.idle (x : CoachRec) : CoachRec :=
  { CoachRec.reset with te := x.te, v0 := x.v0, vs := x.vs, acc := x.acc, md := x.md, lat := x.lat, fz := x.fz, fn := x.fn
                        fv := x.fv, sp := x.sp, ms := x.ms, code := x.code, opr := x.opr, cabAt := x.cabAt
                        slotAt := x.slotAt, slotJ := x.slotJ }

/-- The machine of a coach. -/
def Core.coach (c : Core) (n : Nat) : CoachRec := Tab.get c.coaches n CoachRec.reset

/-- Sets the machine of a coach. -/
def Core.setCoach (c : Core) (n : Nat) (x : CoachRec) : Core := { c with coaches := Tab.put c.coaches n x CoachRec.reset }

/-- No change of power state in progress. -/
def PowerUnit.idle : PowerUnit := ⟨none, 0, false, 0, false, none⟩

/-! ### Drive channels -/

/-- A channel with an empty queue. -/
def Chan.reset : Chan := ⟨[], none⟩

/-- The channel of an element. -/
def Core.chan (c : Core) (te : Nat) : Chan := Tab.get c.chans te Chan.reset

/-- Sets the channel of an element. -/
def Core.setChan (c : Core) (te : Nat) (x : Chan) : Core := { c with chans := Tab.put c.chans te x Chan.reset }

/-- Forces every channel of a die to its clear code, or to 0 V before the clear codes are loaded, and empties its queues, as
a plain step; its loops enter Parked, and what its coaches run of them ends (R113, R114, R116, R408). -/
def Core.clearDie (c : Core) (die : Nat) : Core :=
  let inDie := fun te => decide (teDie te = die)
  let kept := c.regs.filter (fun p => !(decide (okeyObj p.1 = OD.DRIVE_CODE) && inDie (okeyElem p.1)))
  let codes := (storeListed c.regs OD.CLEAR_CODE).filter (fun p => c.drivesUp && inDie p.1)
  { c with
    regs := codes.foldl (fun t p => storePut t (okey OD.DRIVE_CODE p.1) p.2) kept
    chans := c.chans.filter (fun p => !inDie p.1)
    loops := Tab.mapIf c.loops inDie Loop.reset (fun _ l => l.park)
    coaches := Tab.mapIf c.coaches (fun n => inDie (256 * n)) CoachRec.reset (fun _ x => x.idle)
    trav := { c.trav with glides := if die = 3 then [] else c.trav.glides } }

/-- Sends a code to an element's channel at once, as a move that is staged whole (R194, R355). -/
def Core.driveTo (c : Core) (te code : Nat) : Core := c.wr OD.DRIVE_CODE te code

/-! ### The end of a commit (R192) -/

/-- GLIDE_STATE and generator of an output's VOA. -/
def Glide.reset : Glide := ⟨0, none, 0, 0, 0, 0, 0, false⟩

/-- The glide of an output. -/
def Core.glide (c : Core) (o : Nat) : Glide := Tab.get c.trav.glides o Glide.reset

/-- Sets the glide of an output. -/
def Core.setGlide (c : Core) (o : Nat) (g : Glide) : Core :=
  { c with trav := { c.trav with glides := Tab.put c.trav.glides o g Glide.reset } }

/-- The state of motion of an output's VOA after a further time: at rest where no ramp runs, or where one stands still in
Coast (R197). -/
def Core.motionAt (c : Core) (o ahead : Nat) : Int × Int × Int :=
  let g := c.glide o
  match g.gen with
  | some k =>
    let k := { k with t := k.t + ahead }
    if g.stalled then (spScale (c.loop (voaTe o)).sp, 0, 0)
    else if k.done then (spScale k.target, 0, 0) else k.now
  | none => (spScale (c.loop (voaTe o)).sp, 0, 0)

/-- The present state of motion of an output's VOA. -/
def Core.motion (c : Core) (o : Nat) : Int × Int × Int := c.motionAt o 0

/-- Turns a VOA's ramp toward a new target without breaking a limit (R200). -/
def Core.retarget (c : Core) (o : Nat) (target : Int) (phase phaseRev : Nat) : Core :=
  let g := c.glide o
  let st := c.motion o
  let r := genFrom st.1 st.2.1 st.2.2 target g.vMax g.aMax g.jMax
  let c := if r.2 then c.inc OD.GLIDE_REVERSALS else c
  c.setGlide o { g with phase := if r.2 then phaseRev else phase, gen := some r.1, stalled := false }

/-- Every ramp-down already begun reverses toward its old target (R191, R192). -/
def Core.reverseRamps (c : Core) : Core :=
  c.trav.glides.foldl (fun (c : Core) p =>
    if p.2.phase = 1 ∨ p.2.phase = 2 then c.retarget p.1 p.2.home 5 5 else c) c

/-- Bytes of a big-endian field of n bytes. -/
def be (n v : Nat) : List Byte := beBytes n v

/-- The event of a traverse outcome (R300, KIND 0001h). -/
def Core.emitOutcome (c : Core) (id result : Nat) (t : Instant) : Core :=
  c.emit 1 OD.LAST_RESULT (be 4 id ++ be 1 result ++ be 3 0 ++ be 14 (time64 t))

/-- The pending traverse, which does not execute, is no more; a guard window that was open for it ends at that instant, those
of a traverse that has executed stay (R204). -/
def Core.dropTraverse (c : Core) : Core :=
  { c with trav := { c.trav with cur := none, guards := c.trav.guards.filter (fun g => !c.trav.cur.any (fun k => k.t == g.t)) } }

/-- The active set is copied into the shadow set, which is solved by it, and into the record of MRAM (R189, R214, R366). -/
def Core.copyActive (c : Core) : Core :=
  (({ c with shd := c.act, saved := c.act }.set OD.SHADOW_SOLVED 1).set OD.SHADOW_ORIGIN 0).set OD.SHADOW_DISTURBS 0

/-- The elements of a traverse that does not execute compute again, and its staged steps are withdrawn (R16, log 17). -/
def Core.unfreeze (c : Core) (moving : List Nat) : Core :=
  { c.mapLoops (fun te => moving.contains te) (fun _ l => { l with frozen := false }) with
    chans := Tab.mapIf c.chans (fun te => moving.contains te) Chan.reset
      (fun _ x => { x with queue := x.queue.filter (fun e => !e.seq) }) }

/-- Whether the traverse that is pending is a commit of the shadow set, not a transition of the timetable. -/
def Core.hasCommit (c : Core) : Bool := c.trav.cur.any (fun k => k.slot.isNone)

/-- Ends the commit with an outcome of R192 other than executed: the shadow set is unlocked and keeps SHADOW_SOLVED.
The frozen loops compute again in frame g. A transition of the timetable is no commit and has no such outcome (R226). -/
def Core.endCommit (c : Core) (result : Nat) : Core :=
  match c.trav.cur with
  | none => c
  | some k =>
    if k.slot.isSome then c
    else
    let c := (((c.set OD.LAST_RESULT result).set OD.LAST_RESULT_ID k.id).set OD.SET_STATE 0).set OD.PENDING_T 0
    let c := (c.set OD.BEGIN_AT 0).set OD.CANCEL_BY 0
    let c := if result = 2 then c.inc OD.TRAVERSES_FAILED else c.inc OD.COMMITS_CANCELLED
    let c := if result = 2 then c.pulse 260 else if result = 3 then c.pulse 261 else c
    let c := if result = 6 then c else c.reverseRamps
    let c := (c.emitOutcome k.id result k.t).unfreeze k.moving
    let c := c.dropTraverse
    { c with trav := { c.trav with owed := c.trav.owed.filter (fun te => !k.moving.contains te) } }

/-- A full fringe calibration is abandoned: it is not complete (R162, log 56). -/
def Core.dropFringe (c : Core) : Core :=
  match c.cal.fringe with
  | none => c
  | some _ => { c.set OD.FRINGE_STATE 3 with cal := { c.cal with fringe := none } }

/-- Asserts a clear on dies: channels to clear codes, loops Parked; a pending or suspended commit is cancelled, an
executed traverse stays (R113, R114, R192). A full fringe calibration ends, for no element leaves its clear code before the next
traverse (R114; DEDUCED, log 56). -/
def Core.assertClear (c : Core) (dies : List Nat) : Core :=
  let c := (dies.foldl Core.clearDie c).dropFringe
  let c := match c.trav.cur with
    | some k => if k.slot.isNone then c.endCommit 6 else c.dropTraverse
    | none => c
  { c with trav := { c.trav with restore := true, thaw := [], owed := c.trav.owed.filter (fun te => ! dies.contains (teDie te)) } }

end Sys2Proof.Machine
end

