-- ==== Sys2Proof/Machine/Gates.lean ====
section
/-! DEFINITION. What the lanes, the gate lists and the buffer amount to at an instant: ports formed of lanes, the gates of
each port, the closures known, and the cells in use (R204, R220, R221, R229, R254, R255, R265 to R269). -/

namespace Sys2Proof.Machine

/-! ### Records of lanes and ports -/

/-- A lane's record after reset. -/
def LaneRec.reset : LaneRec := ⟨false, false, false, false, false⟩

/-- The record of a lane. -/
def Core.lane (c : Core) (k : Nat) : LaneRec := Tab.get c.lanes k LaneRec.reset

/-- Sets the record of a lane. -/
def Core.setLane (c : Core) (k : Nat) (l : LaneRec) : Core := { c with lanes := Tab.put c.lanes k l LaneRec.reset }

/-- A port's record after reset. -/
def PortRec.reset : PortRec := ⟨false, 0, none, false⟩

/-- The record of a port. -/
def Core.port (c : Core) (p : Nat) : PortRec := Tab.get c.ports p PortRec.reset

/-- Sets the record of a port. -/
def Core.setPort (c : Core) (p : Nat) (r : PortRec) : Core := { c with ports := Tab.put c.ports p r PortRec.reset }

/-- A condition of R233 has become true for a port: UP_HOLD counts from now. -/
def Core.restartHold (c : Core) (p : Nat) : Core := c.setPort p { c.port p with since := c.up }

/-! ### Ports from lanes (R229) -/

/-- ENABLE, the number of lanes, MAX_FRAME and UP_HOLD (ms) of a PORT_CONFIG word (R250). -/
def portOn (w : Nat) : Bool := bit w 31
def portWidth (w : Nat) : Nat := 2 ^ bits w 30 29
def portMax (w : Nat) : Nat := bits w 28 14
def portHold (w : Nat) : Nat := bits w 13 0

/-- PORT_CONFIG of a base lane. -/
def Core.portCfg (c : Core) (p : Nat) : Nat := c.rd OD.PORT_CONFIG p

/-- Whether a base lane is that of an enabled port. -/
def Core.portEnabled (c : Core) (p : Nat) : Bool := portOn (c.portCfg p)

/-- The enabled port a lane belongs to, by its base lane (R229). -/
def Core.portOf (c : Core) (k : Nat) : Option Nat :=
  ([1, 2, 4, 8].map (fun w => (k / w * w, w))).findSome? (fun p =>
    if c.portEnabled p.1 ∧ p.2 ≤ portWidth (c.portCfg p.1) then some p.1 else none)

/-- The lanes of a port. -/
def Core.portLanes (c : Core) (p : Nat) : List Nat := rangeFrom p (portWidth (c.portCfg p))

/-- Whether a lane, or a lane of a port, is inside a guard window (R204). -/
def Core.laneGuarded (c : Core) (k : Nat) : Bool := c.trav.guards.any (fun g => g.lane == k)
def Core.portGuarded (c : Core) (p : Nat) : Bool := (c.portLanes p).any c.laneGuarded

/-- Ports enabled now, by base lane. -/
def Core.enabledPorts (c : Core) : List Nat := (List.range 128).filter c.portEnabled

/-! ### The timetable's closures (R220) -/

/-- Whether a map gives some lane of a port no circuit from its fabric input. -/
def Core.txMissing (c : Core) (entries : Nat → Nat) (p : Nat) : Bool :=
  let ins := (List.range 512).filterMap (fun o => entryRoute (entries o))
  (c.portLanes p).any (fun k => !ins.contains (384 + k))

/-- A derived closure by the entry in force, once there is one: the timetable runs or is frozen in derived mode, and the entry's map
leaves a lane of the port without a transmit circuit (R220, R225). -/
def Core.derivedNow (c : Core) (p : Nat) : Bool :=
  decide (c.rd OD.TT_GATE_MODE = 0) && c.tt.entered.isSome && c.txMissing (mapEntry c.act) p

/-- A derived closure by the entry of the next transition, from T - DRAIN_GUARD on. -/
def Core.derivedNext (c : Core) (p : Nat) : Option Instant :=
  match c.trav.cur with
  | some k =>
    match k.slot with
    | some n =>
      if c.rd OD.TT_GATE_MODE = 0 ∧ c.txMissing (fun o => c.rd OD.SLOT_MAP (512 * n + o)) p
      then some (k.t - nsU (c.rd OD.DRAIN_GUARD)) else none
    | none => none
  | none => none

/-- The gates that the timetable leaves open to a port, a bit for each class (R220, R221). -/
def Core.ttGates (c : Core) (p : Nat) : Nat :=
  if c.rd OD.TT_STATE = 0 then 0xFF
  else if c.rd OD.TT_GATE_MODE = 1 then
    (match c.tt.entered with
      | some b => c.rd OD.TT_GATE_MASK (8192 * b + 128 * c.rd OD.TT_ENTRY + p)
      | none => 0xFF)
  else if c.derivedNow p ∨ (c.derivedNext p).any (fun t => decide (t ≤ c.now)) then 0 else 0xFF

/-! ### Gate lists (R265, R266) -/

/-- ENABLE and COUNT of a port's gate list in a set. -/
def gateOn (st : Tab Nat) (p : Nat) : Bool := bit (storeGet st (okey OD.GATE_PORT p)) 15
def gateCount (st : Tab Nat) (p : Nat) : Nat := bits (storeGet st (okey OD.GATE_PORT p)) 10 0

/-- Word of entry j of a port's gate list: GATE_STATES and INTERVAL (R265). -/
def gateWord (st : Tab Nat) (p j : Nat) : Nat := storeGet st (okey OD.GATE_LIST (1024 * p + j))
def gateStates (w : Nat) : Nat := bits w 63 56
def gateInterval (w : Nat) : Nat := bits w 31 0

/-- The cycle C of a port's list, ns. -/
def gateCycle (st : Tab Nat) (p : Nat) : Nat :=
  (List.range (gateCount st p)).foldl (fun n j => n + gateInterval (gateWord st p j)) 0

/-- The entry of a list in which a phase lies, with what is left of it: entry, states, rest (2^-16 ns). -/
def gateEntryAt (st : Tab Nat) (p : Nat) : Nat → Nat → Nat → Nat × Nat × Nat
  | 0, j, _ => (j, Config.emptyList p % 256, 1)
  | n + 1, j, ph =>
    let w := gateWord st p j
    let len := nsU (gateInterval w)
    if ph < len then (j, gateStates w, len - ph) else gateEntryAt st p n (j + 1) (ph - len)

/-- A port without a gate list in force. -/
def GateRec.reset : GateRec := ⟨0, 0xFF, true⟩

/-- The list record of a port. -/
def Core.gateRec (c : Core) (p : Nat) : GateRec := Tab.get c.pkt.gates p GateRec.reset

/-- Whether a port waits for the start of a new list at an instant (R266). -/
def Core.gatePending (c : Core) (p : Nat) (t : Instant) : Bool :=
  gateOn c.act p && !(c.gateRec p).started && decide (t < (c.gateRec p).start)

/-- Entry, list states and the time to the next edge at an instant; no edge for a list that is off (R265, R266). -/
def Core.gateAt (c : Core) (p : Nat) (t : Instant) : Nat × Nat × Option Nat :=
  if gateOn c.act p = false then (0, 0xFF, none)
  else
    let r := c.gateRec p
    if c.gatePending p t then (0, r.prev, some (r.start - t))
    else
      let cyc := nsU (gateCycle c.act p)
      if cyc = 0 then (0, Config.emptyList p % 256, none)
      else
        let ph := (((t : Int) - r.start) % cyc).toNat
        let e := gateEntryAt c.act p (gateCount c.act p) 0 ph
        (e.1, e.2.1, some e.2.2)

/-- Whether an entry of the egress stores is damaged: until it is rewritten and the fault cleared (R275). -/
def Core.damagedKey (c : Core) (k : Nat) : Bool :=
  match Tab.find? c.pkt.damaged k with
  | some rewritten => !rewritten || (Tab.find? c.faults.recs 386).any (fun r => r.sev.isSome)
  | none => false

/-- A damaged entry of a port's gate list in the active set closes every class of the port (R275). -/
def Core.gateDamaged (c : Core) (p : Nat) : Bool :=
  c.pkt.damaged.any (fun e => decide (okeyObj e.1 = OD.GATE_LIST) && decide (okeyElem e.1 / 1024 = p) &&
    decide (okeyElem e.1 % 1024 < gateCount c.act p) && c.damagedKey e.1)

/-- The sets swap: a damaged gate-list entry of the shadow set comes into force; of one that was in force the other set's word takes
the place, which rewrites it, and its damaged word is now the shadow set's (R187, R275). -/
def Core.damageSwap (c : Core) : Core :=
  let mark := 2 ^ 48
  let gate := c.pkt.damaged.filter (fun e => decide (okeyObj (e.1 % mark) = OD.GATE_LIST))
  let t := c.pkt.damaged.filter (fun e => decide (okeyObj (e.1 % mark) ≠ OD.GATE_LIST))
  let t := (gate.filter (fun e => decide (e.1 < mark))).foldl (fun t e => Tab.set (Tab.set t e.1 true) (e.1 + mark) e.2) t
  let t := (gate.filter (fun e => decide (mark ≤ e.1))).foldl (fun t e => Tab.set t (e.1 - mark) e.2) t
  { c with pkt := { c.pkt with damaged := t } }

/-- Copy-back writes every gate-list entry of the shadow set (R189, R275). -/
def Core.damageCopied (c : Core) : Core :=
  { c with pkt := { c.pkt with damaged := c.pkt.damaged.filter (fun e => decide (e.1 < 2 ^ 48)) } }

/-- The gates that a port's own list opens now. -/
def Core.listGates (c : Core) (p : Nat) : Nat := if c.gateDamaged p then 0 else (c.gateAt p c.now).2.1

/-- The gates that a port's own list opened immediately before now (R266). -/
def Core.listGatesBefore (c : Core) (p : Nat) : Nat := if c.gateDamaged p then 0 else (c.gateAt p (c.now - 1)).2.1

/-- The gates of a port after R221: what the list, the timetable and the circuit guard all leave open. -/
def Core.openGates (c : Core) (p : Nat) : Nat :=
  if c.portGuarded p then 0 else Nat.land (c.listGates p) (c.ttGates p)

/-- Whether a class gate of a port is open (R221). -/
def Core.gateOpen (c : Core) (p tc : Nat) : Bool := bit (c.openGates p) tc

/-- Counts the class gates of a port that have closed since they were last looked at (R381). -/
def Core.gateEdges (c : Core) (p : Nat) : Core :=
  let was := Tab.get c.pkt.gateSeen p 0xFF
  let now := c.openGates p
  let c := { c with pkt := { c.pkt with gateSeen := Tab.put c.pkt.gateSeen p now 0xFF } }
  (List.range 8).foldl (fun (c : Core) k => if bit was k ∧ ¬ bit now k then c.occur 0x05 (2048 * p + k) else c) c

/-- Whether a list leaves a class open from t for a further time; at most n edges are looked at (R268). -/
def Core.listStaysOpen (c : Core) (p tc : Nat) : Nat → Instant → Nat → Option Instant
  | 0, _, _ => none
  | n + 1, t, left =>
    let e := c.gateAt p t
    if ¬ bit e.2.1 tc then some t
    else match e.2.2 with
      | none => none
      | some d => if left ≤ d then none else Core.listStaysOpen c p tc n (t + d) (left - d)

/-- The earliest closure known of a class of a port within a time from now (R268): the list's own, the start of the guard
window of an accepted commit or transition, a derived closure, an explicit mask of the next entry. -/
def Core.closure (c : Core) (p tc : Nat) (span : Nat) : Option Instant :=
  let own := c.listStaysOpen p tc 64 c.now span
  let within := fun (t : Instant) => decide (t < c.now + span)
  let trav := match c.trav.cur with
    | some k =>
      if k.suspended then []
      else
        let g := if k.lanes.any (fun l => (c.portLanes p).contains l.1) then [k.t - nsU (c.rd OD.DRAIN_GUARD)] else []
        let m := if k.slot.isSome ∧ c.rd OD.TT_GATE_MODE = 1 ∧
            ¬ bit (c.rd OD.TT_GATE_MASK (8192 * c.tt.nextBank + 128 * c.tt.nextEntry + p)) tc then [k.t] else []
        g ++ m
    | none => []
  let all := (own.toList ++ trav ++ (c.derivedNext p).toList).filter within
  all.foldl (fun m t => match m with
    | some x => some (min x t)
    | none => some t) none

/-- Medium time of a frame of L bytes on a port, in 2^-16 ns: (L + 20) × 8 / (100 × w) ns (R268). -/
def Core.txTime (c : Core) (p len : Nat) : Nat :=
  let w := portWidth (c.portCfg p)
  ((len + 20) * 8 * 65536 + (100 * w - 1)) / (100 * w)

/-- The longest run of consecutive open intervals of a class, going on from a run of `cur`, over entries. -/
def longestRun : List (Bool × Nat) → Nat → Nat → Nat
  | [], cur, best => max cur best
  | (o, d) :: r, cur, best => if o then longestRun r (cur + d) best else longestRun r 0 (max cur best)

/-- W(c), ns; none when unbounded (R269). -/
def Core.gateWindow (c : Core) (p tc : Nat) : Option Nat :=
  if gateOn c.act p = false then none
  else
    let es := (List.range (gateCount c.act p)).map (fun j =>
      let w := gateWord c.act p j
      (bit (gateStates w) tc, gateInterval w))
    if es.all (·.1) then none else some (longestRun (es ++ es) 0 0)

/-- Whether a frame of L bytes never fits the windows of its class (R269). -/
def Core.gateOversize (c : Core) (p tc len : Nat) : Bool :=
  match c.gateWindow p tc with
  | some w => decide (nsU w < c.txTime p len)
  | none => false

/-! ### Queues and the shared buffer (R253 to R256) -/

/-- QUEUE_CONFIG of a queue; a damaged entry reads as disabled (R275). -/
def Core.queueCfg (c : Core) (q : Nat) : Nat :=
  let w := c.rd OD.QUEUE_CONFIG q
  if c.damagedKey (okey OD.QUEUE_CONFIG q) then setBits w 63 63 0 else w

def queueOn (w : Nat) : Bool := bit w 63
def queueTc (w : Nat) : Nat := bits w 62 60
def queueProfile (w : Nat) : Nat := bits w 59 56
def queueWeight (w : Nat) : Nat := bits w 55 48
def queueShaped (w : Nat) : Bool := bit w 47
def queueShaper (w : Nat) : Nat := bits w 46 40

/-- The port of a queue (R252). -/
def queuePort (q : Nat) : Nat := q / 2048

/-- MIN of a buffer profile word (R256). -/
def profMin (w : Nat) : Nat := bits w 63 48
def profMax (w : Nat) : Nat := bits w 47 29
/-- ALPHA of a colour: 1 green, 2 yellow, 3 red. -/
def profAlpha (w colour : Nat) : Nat :=
  match colour with
  | 2 => bits w 19 16
  | 3 => bits w 15 12
  | _ => bits w 23 20

/-- Cells of a frame (R254). -/
def cellsOf (len : Nat) : Nat := (len + 255) / 256

/-- Cells of frames in a list. -/
def frameCells (l : List QFrame) : Nat := l.foldl (fun n f => n + cellsOf f.bytes.length) 0

/-- The frames that wait in a queue. -/
def Core.queue (c : Core) (q : Nat) : List QFrame := Tab.get c.pkt.queues q []

/-- The depth of a queue in cells, with the frame of it that is being transmitted (R254). -/
def Core.depth (c : Core) (q : Nat) : Nat :=
  frameCells (c.queue q) +
    match Tab.find? c.pkt.tx (queuePort q) with
    | some x => if x.queue = q then frameCells x.frame.toList else 0
    | none => 0

/-- Queues that hold cells. -/
def Core.usedQueues (c : Core) : List Nat :=
  let ks := c.pkt.queues.map (·.1)
  ks ++ c.pkt.tx.filterMap (fun p => if p.2.frame.isSome ∧ ¬ ks.contains p.2.queue then some p.2.queue else none)

/-- Cells in use. -/
def Core.cellsUsed (c : Core) : Nat := c.usedQueues.foldl (fun n q => n + c.depth q) 0

/-- The reserve of an enabled queue by its words of configuration and profiles (R255). -/
def reserveOf (profile : Nat → Nat) (w : Nat) : Nat := if queueOn w then profMin (profile (queueProfile w)) else 0

/-- The sum of MIN over enabled queues: slots 0 to 7 of every port at reset, and what the listed entries change (R255). -/
def reserveSum (listed : List (Nat × Nat)) (profile : Nat → Nat) : Nat :=
  listed.foldl (fun n p => n + reserveOf profile p.2 - reserveOf profile (dfltOf (okey OD.QUEUE_CONFIG p.1)))
    (1024 * profMin (profile 0))

/-- The reserve in force, the shared pool, and its cells in use and not in use (R255, R257). -/
def Core.reserveNow (c : Core) : Nat :=
  let listed := storeListed c.regs OD.QUEUE_CONFIG
  let hurt := (c.pkt.damaged.map (·.1)).filter (fun k => okeyObj k == OD.QUEUE_CONFIG && !listed.any (fun p => p.1 == okeyElem k))
  reserveSum (listed.map (fun p => (p.1, c.queueCfg p.1)) ++ hurt.map (fun k => (okeyElem k, c.queueCfg (okeyElem k))))
    (fun n => c.rd OD.BUF_PROFILE n)
def Core.sharedSize (c : Core) : Nat := 393216 - c.reserveNow
def Core.queueMin (c : Core) (q : Nat) : Nat := reserveOf (fun n => c.rd OD.BUF_PROFILE n) (c.queueCfg q)
def Core.sharedUsed (c : Core) : Nat := c.usedQueues.foldl (fun n q => n + (c.depth q - c.queueMin q)) 0
def Core.sharedFree (c : Core) : Nat := c.sharedSize - c.sharedUsed

end Sys2Proof.Machine
end

