-- ==== Sys2Proof/Machine/Perf.lean ====
section
/-! DEFINITION. The performance counters in level mode, and the passing of time within a frame (R380, R381). -/

namespace Sys2Proof.Machine

/-! ### Levels (R381) -/

/-- Whether an event that is sampled every 8 ns is asserted. -/
def Core.level (c : Core) (ev q : Nat) : Bool :=
  match ev with
  | 0x04 => !(c.queue q).isEmpty
  | 0x05 => !c.gateOpen (q / 2048) (q % 8)
  | 0x06 => !(c.port q).up
  | 0x0D => decide (c.sharedFree = 0)
  | 0x0F => (Tab.find? c.survey.conv q).isSome
  | _ => false

/-- EVENT and QUALIFIER of a PERF_CONFIG word. -/
def perfEvent (w : Nat) : Nat := bits w 23 18
def perfQual (w : Nat) : Nat := bits w 17 0

/-- Counts the 8 ns samples from now until an instant, whose level is that of the present state (R380). -/
def Core.sample (c : Core) (t : Instant) : Core :=
  let n := t / nsU 8 - c.now / nsU 8
  if n = 0 then c
  else (storeListed c.regs OD.PERF_CONFIG).foldl (fun (x : Core) p =>
    if bit p.2 31 ∧ bit p.2 30 ∧ c.level (perfEvent p.2) (perfQual p.2) then x.inc64 OD.PERF_COUNT p.1 n else x) c

/-- Whether the loop that a PERF_CONFIG word names is in Acquire, or is not Locked, as its event asks: the state it reports (R381). -/
def Core.loopLevel (c : Core) (w : Nat) : Bool :=
  let st := match Tab.find? c.loops (perfQual w) with
    | some l => l.rep
    | none => .parked
  (decide (perfEvent w = 7) && decide (st = .acquire)) || (decide (perfEvent w = 8) && decide (st ≠ .locked))

/-- Counts the frame for the events sampled once a frame: loops in Acquire and loops not Locked (R381). -/
def Core.sampleFrame (c : Core) : Core :=
  (storeListed c.regs OD.PERF_CONFIG).foldl (fun (x : Core) p =>
    if bit p.2 31 ∧ bit p.2 30 ∧ c.loopLevel p.2 then x.inc64 OD.PERF_COUNT p.1 else x) c

/-- Counts the occurrences of the loop events in edge mode: the event is asserted at this boundary and was not at the last one
since the counter was set up. A loop's reported state enters Acquire and leaves Locked at most once a frame (R72, R380, R381). -/
def Core.loopEdges (c : Core) : Core :=
  (storeListed c.regs OD.PERF_CONFIG).foldl (fun (x : Core) p =>
    if bit p.2 31 ∧ ¬ bit p.2 30 ∧ (perfEvent p.2 = 7 ∨ perfEvent p.2 = 8) then
      let now := c.loopLevel p.2
      let x := if now && !Tab.get c.test.perfWas p.1 true then x.inc64 OD.PERF_COUNT p.1 else x
      { x with test := { x.test with perfWas := Tab.put x.test.perfWas p.1 now true } }
    else x) c

/-! ### Occurrences that no command stands for (R250, R378, R381, R388) -/

/-- The counters of such occurrences that run: grants and HOLDBACKS of the matrix, codewords of the ports whose lanes are on, and the
enabled performance counters of events 0Ch and 0Eh. -/
def Core.unseenKeys (c : Core) : List Nat :=
  (List.range 14).map (okey OD.MATRIX_COUNTS) ++
  (if c.lanesOn then c.enabledPorts.flatMap (fun p => [okey OD.PORT_RX_COUNTS (8 * p + 6), okey OD.PORT_RX_COUNTS (8 * p + 7)]) else []) ++
  ((storeListed c.regs OD.PERF_CONFIG).filter (fun p => bit p.2 31 && decide (perfEvent p.2 = 0x0C ∨ perfEvent p.2 = 0x0E))).map
    (fun p => okey OD.PERF_COUNT p.1)

/-- What has occurred in the frame that ends joins those counters: a free number for each (log 42). -/
def Core.countUnseen (c : Core) : Core :=
  { c with test := { c.test with unseen := c.unseenKeys.foldl (fun t k =>
      Tab.set t k (count64 (Tab.get t k 0) (Config.unseen (okeyObj k) (okeyElem k) c.up))) c.test.unseen } }

/-! ### Time within a frame -/

/-- Moves on to an instant, never back. -/
def Core.advanceTo (c : Core) (t : Instant) : Core :=
  if c.now < t then { c.sample t with up := c.up + (t - c.now), now := t } else c

/-- Moves on within the present frame to `ns` after its start, never back and never out of the frame. -/
def Core.advance (c : Core) (ns : Nat) : Core := c.advanceTo (c.frameStart + (min ns (frameNs - 1)) * unitsPerNs)

end Sys2Proof.Machine
end

