-- ==== Sys2Proof/Machine/Shutdown.lean ====
section
/-! DEFINITION. What stops when the module leaves service: the timetable, the packet engine and the lanes, the calibrations; the
entry to Halted and the thermal shut-down (R162, R214, R226, R273, R310, R327, R339, R354). -/

namespace Sys2Proof.Machine

/-! ### Timetable, grace and lines -/

/-- Stops a timetable that runs, is armed or frozen: no further transition runs, IN_USE clears, the shadow set unlocks
after a copy of the active set (R214, R222, R226). -/
def Core.ttHalt (c : Core) (cause : Nat) : Core :=
  if c.rd OD.TT_STATE = 0 then c
  else
    let c := ((c.set OD.TT_STOP_CAUSE cause).set OD.TT_STATE 0).set OD.TT_NEXT_T 0
    let c := (storeListed c.regs OD.SLOT_STATUS).foldl
      (fun (c : Core) p => c.wr OD.SLOT_STATUS p.1 (setBits p.2 28 28 0)) (c.set OD.TT_REPLACE_AT 0)
    let c := if cause = 1 then c else c.pulse 265
    let c := match c.trav.cur with
      | some k =>
        if k.slot.isSome then ((if cause = 4 then c else c.reverseRamps).unfreeze k.moving).dropTraverse else c
      | none => c
    { c.copyActive with tt := { c.tt with last := none, entered := none, stopping := false, replace := none, freezing := false } }

/-- How far a grace interval extends the life of a registration up to now (R310, R314). -/
def Core.graceFor (c : Core) (p lastBeat : Nat) : Nat :=
  match Tab.find? c.sup.grace p with
  | some g => min c.up g.2 - max lastBeat g.1
  | none => 0

/-- The grace interval of a path ends: what it extended stays (R310). -/
def Core.graceEnd (c : Core) (p : Nat) : Core :=
  match Tab.find? c.sup.grace p with
  | some g =>
    if g.2 ≤ c.up then
      let reg := match Tab.find? c.sup.reg p with
        | some r => Tab.set c.sup.reg p { r with lastBeat := r.lastBeat + c.graceFor p r.lastBeat }
        | none => c.sup.reg
      { c with sup := { c.sup with grace := Tab.erase c.sup.grace p, reg := reg } }
    else c
  | none => c

/-- The grace interval of a path from now on, joined to one that still runs (R310). -/
def Core.graceFrom (c : Core) (p : Nat) : Core :=
  let c := c.graceEnd p
  let till := c.up + nsU (c.rd OD.RATE_GRACE)
  let g := match Tab.find? c.sup.grace p with
    | some g => (g.1, max g.2 till)
    | none => (c.up, till)
  { c with sup := { c.sup with grace := Tab.set c.sup.grace p g } }

/-- Each path's grace interval from a change of power state (R310). -/
def Core.startGrace (c : Core) : Core := (c.graceFrom 0).graceFrom 1

/-- Sources of the packet engine and the lanes, those of the monitor channels, and those of the coaches with their stores (R343):
blocks that some power states power off. -/
def packetLine (n : Nat) : Bool := decide (320 ≤ n ∧ n ≤ 334) || decide (384 ≤ n ∧ n ≤ 392)
def monitorLine (n : Nat) : Bool := decide (228 ≤ n ∧ n ≤ 231) || decide (n = 243 ∨ n = 244)
def coachLine (n : Nat) : Bool :=
  decide (128 ≤ n ∧ n ≤ 137) || decide (143 ≤ n ∧ n ≤ 182) || decide (192 ≤ n ∧ n ≤ 227)
def domainLine (n : Nat) : Bool := monitorLine n || coachLine n

/-- The coaches and the monitor channels are powered down: in Dormant from the end of the change, and in Halted (R354, R358, R359). -/
def Core.domainsOff (c : Core) : Bool :=
  decide (c.power = psHalted) || (decide (c.power = psDormant) && !c.pwr.begun)

/-- The lines of a block that is powered off read as not asserted (R327). -/
def Core.dropLines (c : Core) (p : Nat → Bool) : Core :=
  { c with faults := { c.faults with lines := c.faults.lines.filter (fun n => !p n) } }

/-! ### Queues, ports and the packet engine (R234, R264, R272 to R275) -/

/-- A 48-bit counter field of a flow context after n more, with its wrap bit. -/
def flowAdd (v hi wrapBit n : Nat) : Nat :=
  let s := bits v hi (hi - 47) + n
  setBits (if 2 ^ 48 ≤ s then setBits v wrapBit wrapBit 1 else v) hi (hi - 47) s

/-- The counted pass of a packet ends in a drop (R272). -/
def Core.flowDrop (c : Core) (flow : Option Nat) : Core :=
  match flow with
  | some n => c.wr OD.FLOW_CONTEXT n (flowAdd (c.rd OD.FLOW_CONTEXT n) 287 237 1)
  | none => c

/-- Counts a drop of a queue that is not an admission drop. -/
def Core.otherDrop (c : Core) (q : Nat) : Core := c.inc64 OD.QUEUE_COUNTS (4 * q + 3)

/-- The peak of the cells in use and the source of an empty pool follow a change of the buffer (R274, R275). -/
def Core.bufferChanged (c : Core) : Core :=
  let c := c.set OD.PEAK_USED (max (c.rd OD.PEAK_USED) c.cellsUsed)
  let none := decide (c.sharedFree = 0)
  if none = c.faults.lines.contains 391 then c
  else
    let c := c.follow 391 none
    if none then c.occur 0x0D 0 else c

/-- Drops the head frame of a queue; a queue that empties loses its deficit (R264). -/
def Core.dropHead (c : Core) (q : Nat) : Core :=
  match c.queue q with
  | f :: r =>
    let c := ((c.otherDrop q).flowDrop f.flow)
    ({ c with pkt := { c.pkt with queues := Tab.put c.pkt.queues q r []
                                  deficits := if r.isEmpty then Tab.erase c.pkt.deficits q else c.pkt.deficits } } : Core).bufferChanged
  | [] => c

/-- Drops every frame of a queue, counted by an object of PKT_EGRESS_COUNTS. -/
def Core.flushQueue (c : Core) (obj q : Nat) : Core :=
  let l := c.queue q
  if l.isEmpty then c
  else
    let c := l.foldl (fun (c : Core) f => ((c.inc64 obj).otherDrop q).flowDrop f.flow) c
    ({ c with pkt := { c.pkt with queues := Tab.put c.pkt.queues q [] []
                                  deficits := Tab.erase c.pkt.deficits q } } : Core).bufferChanged

/-- The packet engine stops: packets of the pipes and of the transmitters are lost, queued ones count as flushed (R273,
R354, R359). -/
def Core.flushAll (c : Core) : Core :=
  let c := (c.pkt.queues.map (·.1)).foldl (fun c q => c.flushQueue OD.FLUSH_DROPS q) c
  ({ c with pkt := { c.pkt with ingress := [], recirc := [], tx := [] } } : Core).bufferChanged

/-- A port goes Down (R234): the count for the flush starts unless it is guarded. -/
def Core.portDown (c : Core) (p : Nat) (fires : Bool) : Core :=
  let was := (c.port p).up
  let c := c.setPort p { c.port p with up := false, downSince := if c.portGuarded p then none else some c.up }
  let c := if was then c.occur 6 p else c
  if fires then c.pulse (320 + p / 32) [] (c.portLanes p) else c

/-- The packet engine stops and the lanes are powered off: queued packets are flushed, no port-down source fires (R273,
R354, R359). -/
def Core.stopEngine (c : Core) : Core :=
  let c := c.flushAll
  let c := (c.enabledPorts.filter (fun p => (c.port p).up)).foldl (fun (c : Core) p => c.portDown p false) c
  { (c.dropLines packetLine).set OD.PIPE_CLOCK 0 with
    therm := { c.therm with stepDue := false }
    lanes := Tab.mapIf c.lanes (fun _ => true) LaneRec.reset (fun _ l => { l with lock := false })
    ports := Tab.mapIf c.ports (fun _ => true) PortRec.reset (fun _ r => { r with downSince := none }) }

/-- Entry to Halted: the packet engine stops, the lanes are off, the internal clear acts, the record is written to MRAM
(R339). The event of KIND 0009h has been sent. -/
def Core.halt (c : Core) : Core :=
  if c.power = psHalted then c
  else
    let c := (c.set OD.POWER_STATE psHalted).set OD.POWER_CHANGING 0
    let c := (c.enabledPorts.filter (fun p => (c.port p).up)).foldl (fun (c : Core) p => c.portDown p false) c
    let c := { c.set OD.PIPE_CLOCK 0 with
                 lanes := Tab.mapIf c.lanes (fun _ => true) LaneRec.reset (fun _ l => { l with lock := false })
                 ports := []
                 pwr := PowerUnit.idle
                 -- no cause but power-on acts in Halted (R364)
                 boot := { c.boot with restart := none }
                 trav := { c.trav with release := none } }
    let c := (c.assertClear [0, 1, 2, 3]).set OD.CLEAR_STATE 2
    let c := ((c.ttHalt 4).startGrace.dropLines packetLine).dropLines domainLine
    { c with trav := { c.trav with internalClear := true }
             faults := { c.faults with haltRecord := c.faults.firstEntry } }

/-! ### Calibrations in progress (R162) -/

/-- Sets a bit of a converter's calibration flags: 0 CAL_FLAG, 1 IN_CAL, 2 NO_GAIN (R163). -/
def Core.flagBit (c : Core) (obj n b : Nat) (on : Bool) : Core := c.wr obj n (setBits (c.rd obj n) b b (bn on))

/-- Every overlap is abandoned (R162). -/
def Core.dropOverlaps (c : Core) : Core :=
  let c := c.cal.overlaps.foldl (fun (c : Core) p => c.flagBit OD.MON_CAL_FLAGS p.2.ch 1 false) c
  { c with cal := { c.cal with overlaps := [], sweep := [] } }

/-- The calibration of a survey converter ends or is abandoned: the tender no longer stands in for it (R130, R159). -/
def Core.dropSurvey (c : Core) : Core :=
  match c.cal.survey with
  | none => c
  | some y =>
    let c := (c.set OD.TENDER_FOR 0xFF).flagBit OD.SURV_CAL_FLAGS y.conv 1 false
    { c with cal := { c.cal with survey := none }
             survey := { c.survey with conv := c.survey.conv.filter (fun p => decide (p.2.kind ≠ .cal)) } }

/-- Every calibration in progress is abandoned, none counted (R162). -/
def Core.dropCals (c : Core) : Core :=
  let c := c.mapLoops (fun _ => true) (fun _ l => if l.st = .trim then { l with st := .locked, bin := 0, trimFrames := 0 } else l)
  let c := { c with cal := { c.cal with trims := [], samples := [] } }
  c.dropOverlaps.dropSurvey.dropFringe

/-! ### Thermal shut-down (R349, R354, R355) -/

/-- A staged release starts; in snap form its boundary is the first at least three frames after the decision. -/
def Core.beginRelease (c : Core) (snap : Bool) (home : Nat) : Core :=
  let at_ := if snap then some (boundaryFrom (c.now + 3 * frameUnits)) else none
  { c with trav := { c.trav with release := some ⟨snap, snap, home, at_, none⟩ } }

/-- Degrees Celsius in 2^-16 C. -/
abbrev deg (n : Nat) : Int := n * 65536

/-- A level of a zone, 2^-16 C, by the position of its field in ZONE_LEVELS (R363). -/
def Core.zoneLevel (c : Core) (z hi lo : Nat) : Int := deg (bits (c.rd OD.ZONE_LEVELS z) hi lo)
def Core.zWarn (c : Core) (z : Nat) : Int := c.zoneLevel z 63 56
def Core.zThrottle (c : Core) (z : Nat) : Int := c.zoneLevel z 51 44
def Core.zShut (c : Core) (z : Nat) : Int := c.zoneLevel z 39 32

/-- Whether a zone is released (R349). -/
def Core.released (c : Core) (z : Nat) : Bool := decide (c.rd OD.ZONE_OVERRIDE z = 1)

/-- The last temperatures of a zone with their running times, newest first. -/
def Core.zoneHist (c : Core) (z : Nat) : List (Int × Nat) := Tab.get c.therm.hist z []

/-- Whether a zone triggers shut-down: its last two temperatures are at or above its level (R354). -/
def Core.zoneTriggers (c : Core) (z : Nat) : Bool :=
  match c.zoneHist z with
  | a :: b :: _ => !c.released z && decide (c.zShut z ≤ a.1) && decide (c.zShut z ≤ b.1)
  | _ => false

/-- The predicted time to ABS_LIMIT is at least 20 ms, from the least-squares slope of the zone's last 8 temperatures; a
slope at or below 0 gives an unbounded time (R354). -/
def Core.timeLeft (c : Core) (z : Nat) : Bool :=
  let h := c.zoneHist z
  let t0 := (h.getLast?.map (·.2)).getD 0
  let n : Int := h.length
  let xs := h.map (fun p => ((p.2 - t0 : Nat) : Int))
  let ys := h.map (·.1)
  let sx := xs.foldl (· + ·) 0
  let sy := ys.foldl (· + ·) 0
  let sxy := (xs.zip ys).foldl (fun a p => a + p.1 * p.2) 0
  let sxx := xs.foldl (fun a x => a + x * x) 0
  let num := n * sxy - sx * sy
  let den := n * sxx - sx * sx
  let t := (h.head?.map (·.1)).getD 0
  decide (num ≤ 0) || decide ((nsU 20000000 : Nat) * num ≤ (c.zoneLevel z 27 20 - t) * den)

/-- The zones that trigger a shut-down, and the last temperature of a zone (R354). -/
def Core.hotZones (c : Core) : List Nat := (List.range 8).filter c.zoneTriggers
def Core.lastTemp (c : Core) (z : Nat) : Int := ((c.zoneHist z).head?.map (·.1)).getD 0

/-- Whether a shut-down takes the snap form: the predicted time of the hottest zone that triggers is below 20 ms. Where source 14
fires and no zone triggers (FORCE), no time is stated, and the form is a free value (R341, R354, log 63). -/
def Core.shutSnap (c : Core) : Bool :=
  match c.hotZones with
  | [] => bit c.draw 0
  | z :: zs => !c.timeLeft (zs.foldl (fun m x => if c.lastTemp m < c.lastTemp x then x else m) z)

/-- A thermal shut-down: what source 14 does as it fires, whatever its severity (R335, R354). From Dormant and Halted only the firing
acts, and one shut-down at a time runs. -/
def Core.shutDown (c : Core) : Core :=
  if c.power = psDormant ∨ c.power = psHalted ∨ c.pwr.shut then c
  else
    let snap := c.shutSnap
    let home := c.loopPower
    let c := if c.hotZones.isEmpty then c.drawn else c
    let c := (((c.inc OD.SHUTDOWNS).set OD.LAST_SHUTDOWN (time64 c.now)).set OD.SHUTDOWN_FORM (if snap then 2 else 1)).endCommit 5
    let c := c.ttHalt 3
    let c := (if c.power = psRun then c.stopEngine else c).set OD.POWER_CHANGING 1
    let c := { c.dropCals with pwr := { PowerUnit.idle with shut := true } }
    c.beginRelease snap home

end Sys2Proof.Machine
end

