-- ==== Sys2Proof/Machine/Faults.lean ====
section
/-! DEFINITION. The fault collector: firing, escalation, the first fault, the log, the reactions of each severity,
clearing, and FAULT_N (R326 to R345); and how every command ends: the collector samples the lines and the events go to
their subscribers. -/

namespace Sys2Proof.Machine

/-- The unit of a source on Major (R343). -/
inductive SrcUnit where
  | loops | coach (n : Nat) | die (n : Nat) | allDies | pipe (n : Nat) | ingress | none
deriving DecidableEq, Repr

/-- The unit the source list names for a source (R343). -/
def sourceUnit (n : Nat) : SrcUnit :=
  if 64 ≤ n ∧ n ≤ 75 then .die ((n - 64) % 4) else if 80 ≤ n ∧ n ≤ 91 then .die ((n - 80) % 4)
  else if n = 92 then .allDies
  else if 128 ≤ n ∧ n ≤ 142 then .loops else if n = 146 then .loops
  else if 147 ≤ n ∧ n ≤ 182 then .coach (n - 147) else if 192 ≤ n ∧ n ≤ 227 then .coach (n - 192)
  else if 228 ≤ n ∧ n ≤ 231 then .die (n - 228) else if n = 259 then .loops
  else if 320 ≤ n ∧ n ≤ 327 then .pipe ((n - 320) % 4) else if n = 334 then .ingress else .none

/-- A source's record with nothing held. -/
def SrcRec.reset : SrcRec := ⟨none, false, false, [], [], []⟩

/-- The collector's record of a source. -/
def Core.src (c : Core) (n : Nat) : SrcRec := Tab.get c.faults.recs n SrcRec.reset

/-- Sets the collector's record of a source. -/
def Core.setSrc (c : Core) (n : Nat) (r : SrcRec) : Core :=
  { c with faults := { c.faults with recs := Tab.put c.faults.recs n r SrcRec.reset } }

/-- SEVERITY, ESC_COUNT, ESC_WINDOW (in 10 ms) and FORCE of a source in force (R344). -/
def Core.severity (c : Core) (n : Nat) : Nat := bits (c.rd OD.SOURCE_CONFIG n) 26 24
def Core.escCount (c : Core) (n : Nat) : Nat := bits (c.rd OD.SOURCE_CONFIG n) 23 16
def Core.escWindow (c : Core) (n : Nat) : Nat := bits (c.rd OD.SOURCE_CONFIG n) 15 0
def Core.forced (c : Core) (n : Nat) : Bool := bit (c.rd OD.SOURCE_CONFIG n) 31

/-- Firings of a source since its last clear, this one first: as many as an ESC_COUNT can ask for (R330). -/
def Core.firesAll (c : Core) (n : Nat) : List Nat := (c.up :: (c.src n).fires).take 255

/-- Firings of a source within its window, this one among them (R330). -/
def Core.firesIn (c : Core) (n : Nat) : List Nat :=
  (c.firesAll n).filter (fun t => decide (c.up ≤ t + c.escWindow n * nsU 10000000))

/-- Whether this firing of a source is escalated: it brings the count to ESC_COUNT, or an earlier one did (R330). -/
def Core.escalates (c : Core) (n : Nat) : Bool :=
  decide (c.escCount n ≠ 0) && ((c.src n).escalated || decide (c.escCount n ≤ (c.firesIn n).length))

/-- The effective severity that a firing takes: one level up on escalation, which stops at Major (R330). -/
def Core.effective (c : Core) (n : Nat) : Nat :=
  let s := c.severity n
  if c.escalates n ∧ 1 ≤ s ∧ s ≤ 2 then s + 1 else s

/-- Whether a line is asserted, by its block or by FORCE (R327, R341). -/
def Core.live (c : Core) (n : Nat) : Bool := c.faults.lines.contains n || c.forced n

/-- The log entry of a firing, most significant byte first (R334). -/
def logEntry (source eff : Nat) (escalated forced overflow : Bool) (time : Instant) (frame seq : Nat) : Nat :=
  source * 2 ^ 176 + (eff + 8 * bn escalated + 16 * bn forced + 32 * bn overflow) * 2 ^ 168
    + time64 time * 2 ^ 48 + frame * 2 ^ 32 + seq % 2 ^ 32

/-- First TE and count of the loops a Major firing puts in its safe sub-state (R336). -/
def unitLoops (n : Nat) (loops : List Nat) : List (Nat × Nat) :=
  match sourceUnit n with
  | .loops => loops.map (fun te => (te, 1))
  | .coach k => [(256 * k, 256)]
  | .die d => [(2304 * d, 2304)]
  | .allDies => [(0, 9216)]
  | _ => []

/-- Whether an element lies in one of the ranges. -/
def inRanges (l : List (Nat × Nat)) (te : Nat) : Bool := l.any (fun r => decide (r.1 ≤ te ∧ te < r.1 + r.2))

/-- Lanes of a pipe that reported a lane or SerDes fault (R336). -/
def Core.seenLanes (c : Core) (pipe : Nat) : List Nat :=
  (rangeFrom (32 * pipe) 32).filter (fun k => (c.lane k).faultSeen)

/-- The safe sub-state of a Major firing's unit (R336). -/
def Core.safeState (c : Core) (n : Nat) (loops : List Nat) : Core :=
  match sourceUnit n with
  | .pipe p =>
    let ks := c.seenLanes p
    let c := ks.foldl (fun (c : Core) k => c.setLane k { c.lane k with faultDown := true }) c
    c.setSrc n { c.src n with lanes := (c.src n).lanes ++ ks }
  | .ingress => c
  | .none => c
  | _ =>
    let rs := unitLoops n loops
    let c := c.holdSoon (inRanges rs) causeMajor
    c.setSrc n { c.src n with loops := (c.src n).loops ++ rs }

/-- A double-bit error in a cell of the packet buffer: the frame that the queue sends ends with an inverted FCS, else its head frame
is discarded; BUFFER_ECC_DROPS advances (R275). -/
def Core.bufferDamaged (c : Core) (q : Nat) : Core :=
  let c := c.inc64 OD.BUFFER_ECC_DROPS
  let flip := fun (l : List Byte) => l.take (l.length - 4) ++ (l.drop (l.length - 4)).map (fun b => ~~~ b)
  match List.find? (fun (p : Nat × TxRec) => decide (p.2.queue = q) && p.2.frame.isSome) c.pkt.tx with
  | some p =>
    { c with pkt := { c.pkt with tx := Tab.set c.pkt.tx p.1 { p.2 with frame := p.2.frame.map (fun f => { f with bytes := flip f.bytes }) } } }
  | none => c.dropHead q

/-- Distance of a shadow word's key from the active word's. -/
abbrev shadowMark : Nat := 2 ^ 48

/-- The bit that says VALID in an element of an ingress store; elements without one have no bit that is set. -/
def ingressValidBit (obj : Nat) : Nat :=
  if obj = OD.CLASS_TABLE then 191 else if obj = OD.KEY_PROFILE then 31
  else if obj = OD.PARSE_NODE ∨ obj = OD.PARSE_TRANS then 63 else 1000

/-- A damaged entry of an ingress store, named by the key of its word in one set or the other, reads as VALID 0 (R249). -/
def Core.ingressDamaged (c : Core) (k : Nat) : Core :=
  let n := k % shadowMark
  let b := ingressValidBit (okeyObj n)
  if k < shadowMark then { c with act := storePut c.act n (setBits (storeGet c.act n) b b 0) }
  else { c with shd := storePut c.shd n (setBits (storeGet c.shd n) b b 0) }

/-- A damaged slot is not valid (R186). -/
def Core.slotDamaged (c : Core) (k : Nat) : Core := c.wr OD.SLOT_STATUS k (setBits (c.rd OD.SLOT_STATUS k) 31 31 0)

/-- What another chapter has the module do when a store's source fires, whatever its severity (R101, R186, R249, R275, R335). -/
def Core.ownReaction (c : Core) (r : FaultReport) : Core :=
  let n := r.source
  if n = 144 then c.inc OD.ECC_CORRECTED
  else if 192 ≤ n ∧ n ≤ 227 then c.wr OD.COACH_STATUS (n - 192) (setBits (c.rd OD.COACH_STATUS (n - 192)) 30 30 1)
  else if n = 258 then c.set OD.SHADOW_SOLVED 0
  else if n = 257 then (r.items.filter (fun k => decide (k < 64))).foldl Core.slotDamaged c
  else if n = 334 then r.items.foldl Core.ingressDamaged c
  else if n = 385 then r.items.foldl Core.bufferDamaged c
  else if n = 386 then { c with pkt := { c.pkt with damaged := r.items.foldl (fun t k => Tab.set t k false) c.pkt.damaged } }
  else match n, r.loops with
    | 146, te :: _ =>
      let w := c.rdA OD.LOOP_SELECT te
      let e := 40 * (if c.loopPower = psQuiet then bits w 5 0 else bits w 11 6)
      { c with act := storePut c.act (okey OD.COEF_SET e) (setBits (c.rdA OD.COEF_SET e) 2 0 0) }
    | _, _ => c

/-- One firing: the status bit, the count, the first-fault record, the log, the pin and the reaction (R329 to R335). -/
def Core.firing (c : Core) (r : FaultReport) : Core :=
  let n := r.source
  let c := c.ownReaction r
  if c.severity n = 0 then c.setSrc n { c.src n with sev := some 0 }
  else
    let eff := c.effective n
    let esc := c.escalates n
    let above := c.rd OD.OVERFLOW = 1
    let seq := c.rd OD.LOG_NEXT
    let entry := logEntry n eff (esc && decide (eff ≠ c.severity n)) (c.forced n) above c.now c.frameIx seq
    let first := c.rd OD.FIRST_SOURCE = 0xFFFF
    let c := c.setSrc n { c.src n with
      sev := some eff, escalated := (c.src n).escalated || esc, major := (c.src n).major || decide (3 ≤ eff), fires := c.firesAll n }
    let c := c.wr OD.SOURCE_COUNT n (satAdd 32 (c.rd OD.SOURCE_COUNT n) 1)
    let c := if first then
        let c := ((c.set OD.FIRST_SOURCE n).set OD.FIRST_SEVERITY (entry / 2 ^ 168 % 256)).set OD.FIRST_TIME (time64 c.now)
        let c := c.set OD.FIRST_FRAME c.frameIx
        { c with faults := { c.faults with firstEntry := entry } }
      else c.set OD.OVERFLOW 1
    let c := (c.wr OD.FAULT_LOG (seq % 64) entry).set OD.LOG_NEXT (count32 seq 1)
    let c := if c.rd OD.PIN_MODE = 1 ∧ c.faults.armed ∧ ¬ c.faults.pulsing ∧ c.rd OD.PIN_THRESHOLD ≤ eff then
        { c with faults := { c.faults with pulsing := true, pulseFrom := c.up } } else c
    let c := if 2 ≤ eff then c.emit 9 OD.FAULT_TOP (be 2 n ++ be 1 eff ++ be 1 0) else c
    if eff = 3 then c.safeState n r.loops else if eff = 4 then c.halt else c

/-- A firing, and the shut-down that source 14 starts once its event is sent (R354). -/
def Core.fire (c : Core) (r : FaultReport) : Core := if r.source = 14 then (c.firing r).shutDown else c.firing r

/-- A report among those of one cycle, reports of one source joined. -/
def joinReport (l : List FaultReport) (r : FaultReport) : List FaultReport :=
  if l.any (fun x => x.source == r.source) then
    l.map (fun x => if x.source = r.source then
      { x with loops := x.loops ++ r.loops, lanes := x.lanes ++ r.lanes, items := x.items ++ r.items, pulse := x.pulse && r.pulse }
      else x)
  else l ++ [r]

/-- A report put in its place: effective severity highest first, then source number lowest first (R333). -/
def insertReport (sev : Nat → Nat) (r : FaultReport) : List FaultReport → List FaultReport
  | [] => [r]
  | x :: l =>
    if sev x.source < sev r.source ∨ (sev x.source = sev r.source ∧ r.source < x.source) then r :: x :: l
    else x :: insertReport sev r l

/-- The module records each lane that reports a lane or SerDes fault, also while the source's line is asserted (R336). -/
def Core.seeLanes (c : Core) (r : FaultReport) : Core :=
  if 324 ≤ r.source ∧ r.source ≤ 327 then
    r.lanes.foldl (fun (c : Core) k => c.setLane k { c.lane k with faultSeen := true }) c
  else c

/-- Whether a source's line belongs to a block that is powered off: the packet engine and the lanes outside Run, the coaches and the
monitor channels in Dormant and Halted. Such a line reads as not asserted (R327). -/
def Core.lineOff (c : Core) (n : Nat) : Bool :=
  (packetLine n && !c.lanesOn) || (domainLine n && c.domainsOff)

/-- One collector cycle: every line newly asserted fires, in the order of R333 (R326). A line that FORCE holds asserted fires once,
when it is first sampled (R341). -/
def Core.cycle (c : Core) : Core :=
  let known := c.faults.raised.filter (fun r => (Dict.severity r.source).isSome && !c.lineOff r.source)
  let c := known.foldl Core.seeLanes c
  let free := known.filter (fun r => !c.forced r.source) ++ c.faults.forcing.map (fun n => ⟨n, [], [], [], true⟩)
  let rs := (free.foldl joinReport []).filter (fun r => !c.faults.lines.contains r.source)
  let rs := rs.foldr (insertReport c.effective) []
  let held := (known.filter (fun r => !r.pulse && !c.faults.lines.contains r.source)).map (·.source)
  let c := { c with faults := { c.faults with raised := [], forcing := [], lines := c.faults.lines ++ held.eraseDups } }
  rs.foldl Core.fire c

/-- Collector cycles while reactions raise further lines. -/
def Core.collect : Nat → Core → Core
  | 0, c => c
  | k + 1, c => if c.faults.raised.isEmpty && c.faults.forcing.isEmpty then c else Core.collect k c.cycle

/-! ### How a command ends -/

/-- Whether a subscriber has an event's origin index among its own (R299). -/
def Subscriber.wants (u : Subscriber) (e : Event) : Bool := u.indices.contains (e.origin / 256) || u.indices.contains 0xFFFF

/-- An event joins a subscriber's queue of 256, or is dropped and counted (R300). -/
def Subscriber.offer (u : Subscriber) (e : Event) : Subscriber :=
  if u.wants e then
    if u.queue.length < 256 then { u with queue := u.queue ++ [e] } else { u with lost := u.lost + 1 }
  else u

/-- How many of the subscribers drop an event. -/
def dropsOf (subs : Tab Subscriber) (e : Event) : Nat :=
  subs.countP (fun p => p.2.wants e && decide (256 ≤ p.2.queue.length))

/-- One event goes to every subscriber of its origin index (R300). -/
def State.deliverOne (s : State) (e : Event) : State :=
  let n := dropsOf s.motin.subs e
  let c := if n = 0 then s.toCore else (s.toCore.inc OD.EVENTS_LOST 0 n).pulse 452
  { s with toCore := c, motin := { s.motin with subs := s.motin.subs.map (fun (p : Nat × Subscriber) => (p.1, p.2.offer e)) } }

/-- The events that wait go to their subscribers (R300). -/
def State.deliver (s : State) : State :=
  s.toCore.events.foldl State.deliverOne { s with toCore := { s.toCore with events := [] } }

/-- The collector samples the lines and the events go out: how every command ends. -/
def State.settle (s : State) : State :=
  let s := { s with toCore := s.toCore.collect 4 }
  let s := s.deliver
  { s with toCore := s.toCore.collect 4 }

/-- What a pin does on the module alone, in reset or out of it: everything else of the state is as it was, but for the events
sent. -/
def State.pin (s : State) (f : Core → Core) : State := State.settle { s with toCore := f s.toCore }

/-- A command whose effect is on the module alone; dies that are held in reset take no command (R364). -/
def State.lift (s : State) (f : Core → Core) : State := if s.toCore.dead then s else s.pin f

/-- The next state after a command. -/
abbrev State.does (s : State) (f : Core → Core) : Host.Outcome State Fault Refusal := .next (s.lift f)

/-! ### Roles -/

/-- Whether the supervisor of a path is the active one (R283, R313). -/
def Core.isActive (c : Core) (p : Nat) : Bool :=
  match Tab.find? c.sup.reg p with
  | some r => r.role == 2
  | none => false

/-- A command of the supervisor of a path: refused with 0604_0011h unless it is the active one, in Halted, and until the
boot has ended (R283, R339, R375). -/
def Core.byActive (c : Core) (p : Path) (f : Core → Core) : Core :=
  if c.power = psHalted ∨ c.rd OD.BOOT_STATE = 0 ∨ c.isActive p.val = false then c.ends abRole else f (c.ends 0)

/-! ### Clearing (R337, R338) -/

/-- Whether another set status bit at Major holds an element. -/
def Core.heldElsewhere (c : Core) (n te : Nat) : Bool :=
  c.faults.recs.any (fun p => p.1 != n && p.2.sev == some 3 && inRanges p.2.loops te)

/-- Clears a source whose line is not asserted: the status bit, the escalation count and the safe sub-state that no other
source holds (R337, R338). -/
def Core.clearSrc (c : Core) (n : Nat) : Core :=
  let r := c.src n
  let c := c.setSrc n SrcRec.reset
  let c := if r.loops.isEmpty then c else c.mapLoops (fun te => inRanges r.loops te)
    (fun te l => if c.heldElsewhere n te then l else l.releaseFrom causeMajor)
  let c := r.lanes.foldl (fun (c : Core) k =>
    if c.faults.recs.any (fun p => p.2.sev == some 3 && p.2.lanes.contains k) then c
    else
      let c := if (c.lane k).faultDown then (match c.portOf k with
        | some p => c.restartHold p
        | none => c) else c
      c.setLane k { c.lane k with faultDown := false }) c
  -- an egress entry that has been rewritten is good once its fault is cleared (R275)
  let c := if n = 386 then { c with pkt := { c.pkt with damaged := c.pkt.damaged.filter (fun e => !e.2) } } else c
  if 324 ≤ n ∧ n ≤ 327 then
    (rangeFrom (32 * (n - 324)) 32).foldl (fun (c : Core) k => c.setLane k { c.lane k with faultSeen := false }) c
  else c

/-- A write of CLEAR_SOURCE (R337). -/
def Core.clearSource (c : Core) (v : Nat) : Core :=
  let rearm := fun (c : Core) => { c with faults := { c.faults with armed := true } }
  if v = 0xFFFF then
    rearm ((c.faults.recs.filter (fun p => !c.live p.1)).foldl (fun c p => c.clearSrc p.1) c)
  else if 512 ≤ v then c.ends abValue
  else if c.live v then c.ends abRunning
  else rearm (c.clearSrc v)

/-- CLEAR_SOURCE (R337). -/
def execClearSource (path : Path) (value : BitVec 16) (s : State) : Host.Outcome State Fault Refusal :=
  s.does (fun c => c.byActive path (fun c => c.clearSource value.toNat))

/-- A write of FIRST_CLEAR: the record and OVERFLOW clear (R332). -/
def Core.firstClear (c : Core) (v : Nat) : Core :=
  if v ≠ 1 then c.ends abValue
  else
    let c := ((((c.set OD.FIRST_SOURCE 0xFFFF).set OD.FIRST_SEVERITY 0).set OD.FIRST_TIME 0).set OD.FIRST_FRAME 0).set OD.OVERFLOW 0
    { c with faults := { c.faults with firstEntry := 0 } }

/-- FIRST_CLEAR (R332). -/
def execFirstClear (path : Path) (value : BitVec 8) (s : State) : Host.Outcome State Fault Refusal :=
  s.does (fun c => c.byActive path (fun c => c.firstClear value.toNat))

/-- A write of PIN_REARM: FAULT_N is armed again in pulse mode (R340). -/
def Core.pinRearm (c : Core) (v : Nat) : Core :=
  if v ≠ 1 then c.ends abValue else { c with faults := { c.faults with armed := true } }

/-- PIN_REARM (R340). -/
def execPinRearm (path : Path) (value : BitVec 8) (s : State) : Host.Outcome State Fault Refusal :=
  s.does (fun c => c.byActive path (fun c => c.pinRearm value.toNat))

/-- The running time at which the pulse on FAULT_N ends: PULSE_WIDTH after its firing (R340). -/
def Core.pulseTill (c : Core) : Nat := c.faults.pulseFrom + nsU (c.rd OD.PULSE_WIDTH)

/-- The end of a pulse, PULSE_WIDTH after it began: FAULT_N is released and disarmed. A pulse that does not end within the present
frame goes on (R340). -/
def Core.pulseEnd (c : Core) : Core :=
  if c.faults.pulsing ∧ c.now + (c.pulseTill - c.up) < c.frameEnd then
    let c := c.advanceTo (c.now + (c.pulseTill - c.up))
    { c with faults := { c.faults with pulsing := false, armed := false } }
  else c

/-- FAULT_PULSE_END (R340). -/
def execFaultPulseEnd (s : State) : Host.Outcome State Fault Refusal := s.does Core.pulseEnd

/-- FAULT_SOURCE_FIRE: lines assert in one collector cycle (R326, R335). -/
def execFaultSourceFire (lines : List FaultReport) (s : State) : Host.Outcome State Fault Refusal :=
  s.does (fun c => { c with faults := { c.faults with raised := c.faults.raised ++ lines } })

/-! ### SOURCE_CONFIG (R341, R343) -/

/-- The ECC sources, which take no FORCE (R341). -/
def isEccSource (n : Nat) : Bool :=
  [144, 145, 146, 256, 257, 258, 259, 333, 334, 384, 385, 386, 460, 461].contains n || decide (192 ≤ n ∧ n ≤ 227)

/-- The abort of a write to SOURCE_CONFIG, 0 if it is accepted (R341, R343, R344). -/
def Core.sourceConfigCheck (c : Core) (n v : Nat) : Nat :=
  match Dict.severity n with
  | none => if v = 0 then 0 else abValue
  | some _ =>
    let esc := bits v 23 16
    if bits v 30 27 ≠ 0 ∨ 4 < bits v 26 24 ∨ esc = 1 ∨ (esc ≠ 0 ∧ bits v 15 0 = 0) then abValue
    else if bit v 31 then
      if isEccSource n then abValue
      else if c.power ≠ psMaint ∧ (c.severity n = 4 ∨ bits v 26 24 = 4) then abRole
      else 0
    else 0

/-- SOURCE_CONFIG_WRITE: severity, escalation and FORCE, in effect at the next boundary (R331, R341). -/
def execSourceConfigWrite (path : Path) (source : Fin 512) (value : BitVec 32) (s : State) :
    Host.Outcome State Fault Refusal :=
  s.does (fun c => c.byActive path (fun c =>
    let r := c.sourceConfigCheck source.val value.toNat
    if r = 0 then c.defer OD.SOURCE_CONFIG source.val value.toNat else c.ends r))

/-- A SOURCE_CONFIG entry comes into force: FORCE asserts the line, clearing it drops the line, also where the collector has not yet
sampled it (R331, R341). -/
def Core.sourceConfigApply (c : Core) (n v : Nat) : Core :=
  let was := c.forced n
  let held := c.faults.lines.contains n
  let c := c.wr OD.SOURCE_CONFIG n v
  if ¬ bit v 31 then { c with faults := { c.faults with forcing := c.faults.forcing.filter (· != n) } }
  else if ¬ was ∧ ¬ held then
    { c with faults := { c.faults with forcing := c.faults.forcing ++ [n] } }
  else c

/-- ECC_INJECT: a one-shot injection of inverted check bits; the MRAM test record is read back at once (R342). -/
def Core.eccInject (c : Core) (v : Nat) : Core :=
  let store := bits v 15 12
  let mode := bits v 11 10
  if store = 0 ∨ 9 < store ∨ (mode ≠ 1 ∧ mode ≠ 2) ∨ bits v 9 0 ≠ 0 then c.ends abValue
  else if store = 9 then
    -- the test record is written and read back at once; an injection that was armed is replaced
    { c.pulse (if mode = 1 then 460 else 461) with faults := { (c.pulse (if mode = 1 then 460 else 461)).faults with eccArmed := 0 } }
  else { c with faults := { c.faults with eccArmed := v } }

/-- ECC_INJECT (R342). -/
def execEccInject (path : Path) (value : BitVec 16) (s : State) : Host.Outcome State Fault Refusal :=
  s.does (fun c => c.byActive path (fun c => c.eccInject value.toNat))

/-- The mode of an armed injection into a store, 0 if none, and the machine with it used up (R342). -/
def Core.eccTake (c : Core) (store : Nat) : Nat × Core :=
  if bits c.faults.eccArmed 15 12 = store then
    (bits c.faults.eccArmed 11 10, { c with faults := { c.faults with eccArmed := 0 } })
  else (0, c)

/-- The object and the element that a key of `eccWords` names; object 0 is the control and program store of coach 0. -/
def markObj (k : Nat) : Nat := okeyObj (k % shadowMark)
def markElem (k : Nat) : Nat := okeyElem (k % shadowMark)

/-- A word is written into a store: it carries the inversion that waits for the store, or good check bits (R342). -/
def Core.eccWrite (c : Core) (store key : Nat) : Core :=
  let e := c.eccTake store
  { e.2 with faults := { e.2.faults with eccWords := Tab.put e.2.faults.eccWords key e.1 0 } }

/-- Words that a write of a whole store replaces carry good check bits. -/
def Core.eccDrop (c : Core) (which : Nat → Bool) : Core :=
  { c with faults := { c.faults with eccWords := c.faults.eccWords.filter (fun p => !which p.1) } }

/-- Loops that use a coefficient set. -/
def Core.setUsers (c : Core) (k : Nat) : List Nat :=
  (List.range 9216).filter (fun te =>
    let w := c.rdA OD.LOOP_SELECT te
    decide ((if c.loopPower = psQuiet then bits w 5 0 else bits w 11 6) = k))

/-- The cell whose damaged setting an active settings word's key names: cells stand above the 136 words. -/
abbrev markCell : Nat := 136

/-- A word with inverted check bits is read: its source fires, and under two inverted bits the damaged entry reads as R186,
R249 and R343 say (R342). -/
def Core.eccShow (c : Core) (k mode : Nat) : Core :=
  let obj := markObj k
  let e := markElem k
  let two := decide (mode = 2)
  if obj = 0 then c.pulse (if two then 192 else 144)
  else if obj = OD.COEF_SET then
    if two = false then c.pulse 145
    else
      let n := okey OD.COEF_SET (e / 40 * 40)
      if k < shadowMark then
        let c := c.pulse 146 (c.setUsers (e / 40))
        { c with act := storePut c.act n (setBits (storeGet c.act n) 2 0 0) }
      else
        let c := c.pulse 146
        { c with shd := storePut c.shd n (setBits (storeGet c.shd n) 2 0 0) }
  else if obj = OD.SLOT_MAP ∨ obj = OD.SLOT_SETTINGS then
    if two = false then c.pulse 256
    else
      (c.pulse 257).slotDamaged (if obj = OD.SLOT_MAP then e / 512 else e / 136)
  else if obj = OD.CONN_MAP ∨ obj = settingsObj then
    if two = false then c.pulse 256
    else if shadowMark ≤ k then c.pulse 258
    else c.pulse 259 [2 * (e - markCell), 2 * (e - markCell) + 1]
  else if two = false then c.pulse 333
  else (c.pulse 334).ingressDamaged k

/-- Words are read: those with inverted check bits among them show, and are corrected or replaced (R342). -/
def Core.eccRead (c : Core) (hit : Nat → Bool) : Core :=
  (c.faults.eccWords.filter (fun p => hit p.1)).foldl (fun (c : Core) p => (c.eccDrop (· == p.1)).eccShow p.1 p.2) c

/-- Words of a map slot. -/
def slotMark (n k : Nat) : Bool :=
  (decide (markObj k = OD.SLOT_MAP) && decide (markElem k / 512 = n)) ||
    (decide (markObj k = OD.SLOT_SETTINGS) && decide (markElem k / 136 = n))

/-- Words of a connection map and its settings: `sh` says the shadow set's. -/
def mapMark (sh : Bool) (k : Nat) : Bool :=
  (decide (shadowMark ≤ k) == sh) && (decide (markObj k = OD.CONN_MAP) || decide (markObj k = settingsObj))

/-- Words of the configuration sets: `sh` says the shadow set's. -/
def setMark (sh : Bool) (k : Nat) : Bool :=
  (decide (shadowMark ≤ k) == sh) && decide (markObj k ≠ 0) && decide (markObj k ≠ OD.SLOT_MAP) &&
    decide (markObj k ≠ OD.SLOT_SETTINGS)

/-- The sets swap: each word of a set keeps its check bits (R187). -/
def Core.eccSwap (c : Core) : Core :=
  let f := fun (p : Nat × Nat) =>
    (if setMark true p.1 then p.1 - shadowMark else if setMark false p.1 then p.1 + shadowMark else p.1, p.2)
  { c with faults := { c.faults with eccWords := c.faults.eccWords.foldl (fun t p => Tab.put t (f p).1 (f p).2 0) [] } }

/-! ### Summary views -/

/-- GROUP_STATUS: a bit for each source whose status bit is set (R327). -/
def Core.groupStatus (c : Core) (g : Nat) : Nat :=
  c.faults.recs.foldl (fun v p => if p.1 / 64 = g ∧ p.2.sev.isSome then v + 2 ^ (p.1 % 64) else v) 0

/-- The sources whose line is asserted. -/
def Core.liveList (c : Core) : List Nat :=
  c.faults.lines ++ ((storeListed c.regs OD.SOURCE_CONFIG).filter (fun p => bit p.2 31 && !c.faults.lines.contains p.1)).map (·.1)

/-- GROUP_LIVE (R327). -/
def Core.groupLive (c : Core) (g : Nat) : Nat :=
  c.liveList.foldl (fun v n => if n / 64 = g then v + 2 ^ (n % 64) else v) 0

/-- The highest effective severity among set status bits (R328). -/
def Core.maxSeverity (c : Core) : Nat :=
  c.faults.recs.foldl (fun v p => max v (p.2.sev.getD 0)) 0

/-- FAULT_TOP (R328). -/
def Core.faultTop (c : Core) : Nat :=
  let any := (List.range 8).foldl (fun v g =>
    if c.faults.recs.any (fun p => p.1 / 64 == g && decide (1 ≤ p.2.sev.getD 0)) then v + 2 ^ g else v) 0
  let live := (List.range 8).foldl (fun v g => if c.liveList.any (fun n => n / 64 == g) then v + 2 ^ (8 + g) else v) 0
  any + live + c.maxSeverity * 2 ^ 16 + bn (c.rd OD.FIRST_SOURCE != 0xFFFF) * 2 ^ 19 + c.rd OD.OVERFLOW * 2 ^ 20

/-- FAULT_N asserted; without VDD_AUX it reads as released (R340, R408). -/
def Core.faultN (c : Core) : Bool :=
  c.boot.powered && (c.faults.preS01 ||
  (if c.rd OD.PIN_MODE = 0 then
    decide (c.power = psHalted) || decide (c.maxSeverity ≥ c.rd OD.PIN_THRESHOLD) ||
    c.faults.recs.any (fun p => p.2.major && sourceUnit p.1 == .none)
  else c.faults.pulsing))

end Sys2Proof.Machine
end

