-- ==== Sys2Proof/Machine/Time.lean ====
section
/-! DEFINITION. Network time: the PTP instances, PPS, the servo and lock states, slews, pending steps and TIME_SET
(R25 to R38, R417, R418). -/

namespace Sys2Proof.Machine

/-! ### Lock states -/

/-- TIME_SOURCE in force. -/
def Core.timeSource (c : Core) : Nat := c.rd OD.TIME_SOURCE

/-- Whether PPS_OUT_MODE lets the pin pulse (R31). -/
def Core.ppsAllowed (c : Core) : Bool :=
  match c.rd OD.PPS_OUT_MODE with
  | 0 => false
  | 1 => decide (c.timeState ≠ tsFree)
  | _ => decide (c.timeState = tsLocked)

/-- A pulse that the mode or the state no longer lets the pin make is cut; PPS_OUT is low until its next rise (R31). -/
def Core.ppsCut (c : Core) : Core := if c.ppsAllowed then c else { c with time := { c.time with ppsOut := false } }

/-- Enters a time state: its event (R300, KIND 0002h), the time-lock source (R34), HOLDOVER_ELAPSED's start and
LOSS_COUNT. -/
def Core.setTimeState (c : Core) (st : Nat) : Core :=
  if c.timeState = st then c
  else
    let c := (c.set OD.TIME_STATE st).emit 2 OD.TIME_STATE (be 1 st)
    let c := { c with time := { c.time with good := 0, bad := 0, holdSince := if st = tsHoldover then some c.up else none } }
    (if st = tsHoldover then (c.inc OD.LOSS_COUNT).hold 2 else if st = tsLocked then c.drop 2 else c).ppsCut

/-- HOLDOVER_ELAPSED, ns (R34). -/
def Core.holdoverElapsed (c : Core) : Nat :=
  match c.time.holdSince with
  | some t => (c.up - t) / unitsPerNs
  | none => 0

/-- Drops a pending step and its source (R36). -/
def Core.clearPending (c : Core) : Core :=
  if c.rd OD.PENDING_STEP = 0 then c
  else (c.set OD.PENDING_STEP 0).drop 3

/-- Marks whether the correction outstanding comes from a TIME_SET write (R37). -/
def Core.markSet (c : Core) (b : Bool) : Core := { c with time := { c.time with pendingFromSet := b } }

/-- Begins to slew an offset out (R35). -/
def Core.slew (c : Core) (off : Int) : Core :=
  { c with time := { c.time with slew := off, slewing := decide (off ≠ 0), good := 0,
                                 pendingFromSet := c.time.pendingFromSet && decide (off ≠ 0 ∨ c.rd OD.PENDING_STEP ≠ 0),
                                 lockAtBoundary := decide (off = 0 ∧ c.timeSource = 4) } }

/-- The time stamps of the PTP instances, and their last offsets, keep their place when the label of time steps, and a whole second
that the step brings back is a second of PPS_OUT again (R31, R38). -/
def Core.shiftStamps (c : Core) (d : Int) : Core :=
  if d = 0 then c
  else { c with
    time := { c.time with ppsSecond := none }
    ptp := c.ptp.map (fun x => (x.1,
      { x.2 with syncGot := ((x.2.syncGot : Int) + d).toNat, reqSent := x.2.reqSent.map (fun t => ((t : Int) + d).toNat)
                 lastOffset := x.2.lastOffset.map (fun o => o + d) })) }

/-- Drive timing continues frame by frame across a step: what is staged keeps its place. The steps of a traverse still to come are
staged again by the caboose before it, and those of a staged release go on (R38, R40). -/
def Core.shiftStaged (c : Core) (d : Int) : Core :=
  let mv := match c.trav.cur with
    | some k => if k.frozen then k.moving else []
    | none => []
  { c with
    chans := Tab.mapIf c.chans (fun _ => true) Chan.reset (fun te x =>
      { x with queue := (x.queue.filter (fun e => !(e.seq && mv.contains te))).map (fun e => { e with at_ := ((e.at_ : Int) + d).toNat }) })
    trav := { c.trav with
      cur := c.trav.cur.map (fun k => { k with checked := false, linkFailed := false })
      guards := c.trav.guards.map (fun g =>
        if c.trav.cur.any (fun k => k.t == g.t) then g else { g with t := ((g.t : Int) + d).toNat })
      release := c.trav.release.map (fun r => { r with at_ := r.at_.map (fun t => ((t : Int) + d).toNat) }) } }

/-- Fixes the step that the end of the frame applies: the offset rounded to whole frames (R38). -/
def Core.planStep (c : Core) (off : Int) : Core :=
  let step := roundNear off frameUnits * frameUnits
  { c.clearPending with time := { c.clearPending.time with dueStep := some (-step), slew := off - step, slewing := false } }

/-- An offset above STEP_THRESHOLD (R36). Under policy 0 a slew in progress runs on (the spec does not say whether it stops, log 55). -/
def Core.bigOffset (c : Core) (off : Int) (fromSet : Bool) : Core :=
  let c := c.markSet fromSet
  if c.rd OD.STEP_POLICY = 1 then c.planStep off
  else
    let c := (c.set OD.PENDING_STEP (ofSigned 64 off)).hold 3
    if fromSet ∧ c.timeSource = 3 then c else c.setTimeState tsHoldover

/-- STEP_THRESHOLD and LOCK_THRESHOLD in 2^-16 ns. -/
def Core.stepThreshold (c : Core) : Nat := nsU (c.rd OD.STEP_THRESHOLD)
def Core.lockThreshold (c : Core) : Nat := nsU (c.rd OD.LOCK_THRESHOLD)

/-- The first measurement after Free steps module time directly to the measured value (R33). Loops run in Free (R32), so what they
have staged keeps its place by frames, B(f + 2) of the frame in progress (R19): its tick moves with that frame's start, as at a step
of R38 (DESIGN CHOICE: R33 does not name the staged codes, log 60). -/
def Core.firstStep (c : Core) (off : Int) (st : Nat) : Core :=
  let now := ((c.now : Int) - off).toNat
  let n := ({ c with now := now } : Core)
  ((n.shiftStamps ((now : Int) - c.now)).shiftStaged ((n.frameStart : Int) - c.frameStart)).setTimeState st

/-- The servo corrects an offset through the frequency correction, within the steering range of 200 ppm (R17, R33). -/
def Core.servoStep (c : Core) (off : Int) : Core :=
  c.set OD.FREQ_CORR (ofSigned 32 (clampI (-200000000) 200000000 (Config.servo (toSigned 32 (c.rd OD.FREQ_CORR)) off)))

/-- An offset measured in Holdover, or the first of a newly selected source that is not hitless (R26, R35). -/
def Core.returnOffset (c : Core) (off : Int) : Core :=
  if off.natAbs ≤ c.stepThreshold then
    let c := if c.time.pendingFromSet then c else c.clearPending
    (c.setTimeState tsAcquiring).slew off
  else c.bigOffset off false

/-- A valid offset from the selected source, module time minus source (R33, R35, R36, R417). -/
def Core.measure (c : Core) (off : Int) : Core :=
  let c := { c.set OD.OFFSET_LAST (ofSigned 64 off) with time := { c.time with lastValid := c.up } }
  let fresh := c.time.fresh
  let c := { c with time := { c.time with fresh := false } }
  let st := c.timeState
  if st = tsFree then c.firstStep off tsAcquiring
  else if c.time.dueStep.isSome then c
  else if st = tsHoldover then c.returnOffset off
  else if fresh ∧ c.lockThreshold < off.natAbs then c.returnOffset off
  else if st = tsAcquiring then
    if c.stepThreshold < off.natAbs then c.bigOffset off false
    else
      let c := c.servoStep off
      if off.natAbs ≤ c.lockThreshold ∧ ¬ c.time.slewing ∧ c.rd OD.PENDING_STEP = 0 then
        let n := c.time.good + 1
        let c := { c with time := { c.time with good := n } }
        if c.rd OD.LOCK_COUNT ≤ n then c.setTimeState tsLocked else c
      else { c with time := { c.time with good := 0 } }
  else
    let c := c.servoStep off
    if off.natAbs ≤ c.lockThreshold then { c with time := { c.time with bad := 0 } }
    else
      let n := c.time.bad + 1
      let c := { c with time := { c.time with bad := n } }
      if n < c.rd OD.LOCK_COUNT then c
      else if off.natAbs ≤ c.stepThreshold then (c.setTimeState tsAcquiring).slew off
      else c.bigOffset off false

/-- What one frame removes from a slew: at most SLEW_LIMIT, less where the sum with the frequency correction would leave
the steering range (R35). -/
def Core.slewStep (c : Core) : Core :=
  if c.time.slewing then
    let f := toSigned 32 (c.rd OD.FREQ_CORR)
    let room := if 0 < c.time.slew then 200000000 + f else 200000000 - f
    let rate := min (c.rd OD.SLEW_LIMIT * 1000000) room.toNat
    let d := divFree (rate * 32768) 10000000
    let left : Int := if 0 ≤ c.time.slew then max 0 (c.time.slew - d) else min 0 (c.time.slew + d)
    { c with time := { c.time with slew := left } }
  else c

/-! ### PTP (R26, R27) -/

/-- A PTP instance after reset. -/
def PtpPort.reset : PtpPort := ⟨none, 0, 0, none, 0, 0, none, none, 0, 0, 0, 0⟩

/-- The PTP instance of a path. -/
def Core.ptpPort (c : Core) (p : Nat) : PtpPort := Tab.get c.ptp p PtpPort.reset

/-- Sets the PTP instance of a path. -/
def Core.setPtp (c : Core) (p : Nat) (x : PtpPort) : Core := { c with ptp := Tab.put c.ptp p x PtpPort.reset }

/-- An object of OD 1302h or 1303h (R44). -/
def Core.ptpCfg (c : Core) (p obj : Nat) : Nat := c.rd (obj + 256 * p)

/-- The sources of TIME_SOURCE have been started: boot step S10 is reached (R366). -/
def Core.sourcesOn (c : Core) : Bool := decide (10 ≤ c.rd OD.BOOT_STEP)

/-- The PTP instance of a path runs: it is enabled, and S10 has started the sources (R44, R366; that the instances start with the
sources is DEDUCED, log 55). -/
def Core.ptpOn (c : Core) (p : Nat) : Bool := c.sourcesOn && decide (c.ptpCfg p OD.PTP_ENABLE_1302 ≠ 0)

/-- Values of the 1588 portState that the module reports (PRESUMED from IEEE 1588). -/
abbrev psDisabled : Nat := 3
abbrev psListening : Nat := 4
abbrev psUncalibrated : Nat := 8
abbrev psSlave : Nat := 9

/-- Sets PORT_STATE of a path. -/
def Core.setPortState (c : Core) (p v : Nat) : Core := c.set (OD.PORT_STATE_1302 + 256 * p) v

/-- The fields of a dataset in the order of the 1588 comparison (R26; the order is PRESUMED from IEEE 1588). -/
def ptpRank (d : PtpDataset) : List Nat :=
  [d.priority1, d.clockClass, d.accuracy, d.variance, d.priority2, d.identity, d.steps]

/-- The first list is lexicographically below the second. -/
def lexLt : List Nat → List Nat → Bool
  | a :: as, b :: bs => decide (a < b) || (decide (a = b) && lexLt as bs)
  | [], _ :: _ => true
  | _, [] => false

/-- Whether an instance of a path has a parent and is within its loss timeout, which runs from its last measurement, or from the
parent's first Announce (R26, log 55). -/
def Core.alive (c : Core) (p : Nat) : Bool :=
  (c.ptpPort p).parent.isSome && decide (c.up < (c.ptpPort p).lastValid + nsU (c.rd OD.LOSS_TIMEOUT))

/-- Whether an instance of a path is a healthy source: in SLAVE and within its loss timeout (R26). -/
def Core.healthy (c : Core) (p : Nat) : Bool :=
  decide (c.rd (OD.PORT_STATE_1302 + 256 * p) = psSlave) && c.alive p

/-- The path whose instance has the better parent dataset, MGT_A on a tie, among the instances within their loss timeout; FFh if
there is none (R26). -/
def Core.bestPath (c : Core) : Nat :=
  match c.alive 0, c.alive 1 with
  | true, true =>
    let rank := fun p => ((c.ptpPort p).parent.map ptpRank).getD []
    if lexLt (rank 1) (rank 0) then 1 else 0
  | true, false => 0
  | false, true => 1
  | false, false => 0xFF

/-- The source in use: automatic selection keeps a healthy instance; UTC_OFFSET follows the instance (R25, R26, R27). -/
def Core.selectSource (c : Core) : Core :=
  let was := c.rd OD.SOURCE_ACTIVE
  let s := match c.timeSource with
    | 0 => if (c.ptpPort 0).parent.isSome then 0 else 0xFF
    | 1 => if (c.ptpPort 1).parent.isSome then 1 else 0xFF
    | 2 => if was ≤ 1 ∧ c.healthy was then was else c.bestPath
    | n => n
  let c := c.set OD.SOURCE_ACTIVE s
  if s ≠ was then
    { (if s ≤ 1 then c.set OD.UTC_OFFSET (c.ptpPort s).utc else c) with time := { c.time with fresh := true } }
  else c

/-- An Announce updates the parent dataset, the selection and UTC_OFFSET (R26, R27). PORT_STATE keeps its default 1 until the first
one (DESIGN CHOICE: the spec does not say when it leaves it, log 23). The leap flags are kept with the parent:
UTC_OFFSET, which is to report them, has no field for them (log 55). -/
def Core.announce (c : Core) (p : Nat) (d : PtpDataset) (utc : Nat) : Core :=
  if ¬ c.ptpOn p then c
  else
    let x := c.ptpPort p
    let take : Bool := match x.parent with
      | none => true
      | some q => decide (q.identity = d.identity) || lexLt (ptpRank d) (ptpRank q)
    let c := if take then c.setPtp p { x with
        parent := some d, utc := utc, lastValid := if x.parent.isSome then x.lastValid else c.up } else c
    let c := if c.rd (OD.PORT_STATE_1302 + 256 * p) = psSlave then c else c.setPortState p psUncalibrated
    let c := c.selectSource
    if take ∧ (c.rd OD.SOURCE_ACTIVE = p ∨ 2 < c.timeSource) then c.set OD.UTC_OFFSET utc else c

/-- PTP_ANNOUNCE (R26). -/
def execPtpAnnounce (path : Path) (dataset : PtpDataset) (utcOffset : BitVec 16) (s : State) :
    Host.Outcome State Fault Refusal :=
  s.does (fun c => c.announce path dataset utcOffset.toNat)

/-- A Sync with its follow-up: the offset is t2 - t1 - correction - mean path delay - asymmetry, t2 taken at the medium
(R27, R28; the formula is PRESUMED from IEEE 1588). -/
def Core.sync (c : Core) (p : Nat) (origin : Nat) (correction : Int) : Core :=
  let x := c.ptpPort p
  if ¬ c.ptpOn p ∨ x.parent.isNone then c
  else
    let t2 : Int := (c.now : Int) - nsU (c.ptpCfg p OD.PHY_RX_LATENCY_1302)
    let asym := toSigned 32 (c.ptpCfg p OD.ASYMMETRY_1302) * 65536
    let off := t2 - origin - correction - x.meanDelay - asym
    let c := c.setPtp p { x with syncSent := some origin, syncGot := t2.toNat, syncCorr := correction,
                                 lastOffset := some off, lastValid := c.up }
    let c := (c.setPortState p psSlave).selectSource
    if c.rd OD.SOURCE_ACTIVE = p then c.measure off else c

/-- PTP_SYNC (R35). -/
def execPtpSync (path : Path) (at_ : Nat) (origin : Instant) (correction : Offset) (s : State) :
    Host.Outcome State Fault Refusal :=
  s.does (fun c => (c.advance at_).sync path origin correction)

/-- A Delay_Req or Pdelay_Req leaves (R27, R28). -/
def Core.delayReqSend (c : Core) (p : Nat) : Core :=
  if ¬ c.ptpOn p then c
  else
    let x := c.ptpPort p
    c.setPtp p { x with reqSent := some (c.now + nsU (c.ptpCfg p OD.PHY_TX_LATENCY_1302)), reqCount := x.reqCount + 1 }

/-- PTP_DELAY_REQ_SEND (R27). -/
def execPtpDelayReqSend (path : Path) (s : State) : Host.Outcome State Fault Refusal :=
  s.does (fun c => c.delayReqSend path)

/-- A Delay_Resp completes an end-to-end measurement (R27; the formula is PRESUMED from IEEE 1588). -/
def Core.delayResp (c : Core) (p : Nat) (received : Nat) (correction : Int) : Core :=
  let x := c.ptpPort p
  if ¬ c.ptpOn p ∨ c.ptpCfg p OD.DELAY_MECH_1302 ≠ 0 then c
  else match x.reqSent, x.syncSent with
    | some t3, some t1 =>
      let fwd := (x.syncGot : Int) - t1 - x.syncCorr
      let back := (received : Int) - t3 - correction
      c.setPtp p { x with meanDelay := idivFree (fwd + back) 2, reqSent := none }
    | _, _ => c

/-- PTP_DELAY_RESP (R27). -/
def execPtpDelayResp (path : Path) (received : Instant) (correction : Offset) (s : State) :
    Host.Outcome State Fault Refusal :=
  s.does (fun c => c.delayResp path received correction)

/-- A Pdelay_Req is answered in one step or in two, per port whose delay mechanism is peer-to-peer (R27). -/
def Core.pdelayReq (c : Core) (p : Nat) : Core :=
  let x := c.ptpPort p
  if ¬ c.ptpOn p ∨ c.ptpCfg p OD.DELAY_MECH_1302 ≠ 1 then c
  else c.setPtp p { x with respSent := x.respSent + (if c.ptpCfg p OD.PDELAY_RESP_STEP_1302 = 1 then 2 else 1) }

/-- PTP_PDELAY_REQ (R27). -/
def execPtpPdelayReq (path : Path) (at_ : Nat) (s : State) : Host.Outcome State Fault Refusal :=
  s.does (fun c => (c.advance at_).pdelayReq path)

/-- A Pdelay_Resp completes a peer-delay measurement (R27; the formula is PRESUMED from IEEE 1588). -/
def Core.pdelayResp (c : Core) (p : Nat) (received sent : Nat) (correction : Int) : Core :=
  let x := c.ptpPort p
  if ¬ c.ptpOn p ∨ c.ptpCfg p OD.DELAY_MECH_1302 ≠ 1 then c
  else match x.reqSent with
    | some t1 =>
      let t4 : Int := (c.now : Int) - nsU (c.ptpCfg p OD.PHY_RX_LATENCY_1302)
      c.setPtp p { x with meanDelay := idivFree (t4 - t1 - ((sent : Int) - received) - correction) 2, reqSent := none }
    | none => c

/-- PTP_PDELAY_RESP (R27). -/
def execPtpPdelayResp (path : Path) (at_ : Nat) (received sent : Instant) (correction : Offset) (s : State) :
    Host.Outcome State Fault Refusal :=
  s.does (fun c => (c.advance at_).pdelayResp path received sent correction)

/-- PTP_UNSUPPORTED_MESSAGE: a management or signaling message is counted and discarded (R27). -/
def execPtpUnsupportedMessage (path : Path) (s : State) : Host.Outcome State Fault Refusal :=
  s.does (fun c => c.setPtp path { c.ptpPort path with discarded := (c.ptpPort path).discarded + 1 })

/-- PTP_ENABLE comes into force: the instance stops, or starts to listen (R44). -/
def Core.ptpEnableApply (c : Core) (p v : Nat) : Core :=
  let c := c.set (OD.PTP_ENABLE_1302 + 256 * p) v
  if v = 0 then ((c.setPtp p { c.ptpPort p with parent := none, lastOffset := none }).setPortState p psDisabled).selectSource
  else if c.rd (OD.PORT_STATE_1302 + 256 * p) = psDisabled then c.setPortState p psListening else c

/-! ### Loss, slew end, steps -/

/-- An instance that has reached its loss timeout leaves SLAVE and has no parent (R26). -/
def Core.portLoss (c : Core) (p : Nat) : Core :=
  if (c.ptpPort p).parent.isSome ∧ ¬ c.alive p then
    (c.setPtp p { c.ptpPort p with parent := none }).setPortState p psListening
  else c

/-- No valid measurement for LOSS_TIMEOUT: an instance that has timed out is no source any longer, in every state; where the
source in use gives none, the other instance takes over if it is healthy, else the state is Holdover (R26, R34). -/
def Core.lossTimeout (c : Core) : Core :=
  let c := ((c.portLoss 0).portLoss 1).selectSource
  let st := c.timeState
  if c.timeSource = 4 ∨ (st ≠ tsAcquiring ∧ st ≠ tsLocked) ∨
      c.up < c.time.lastValid + nsU (c.rd OD.LOSS_TIMEOUT) then c
  else
    let now := c.rd OD.SOURCE_ACTIVE
    if c.timeSource = 2 ∧ now ≤ 1 ∧ c.healthy now then { c with time := { c.time with lastValid := (c.ptpPort now).lastValid } }
    else c.setTimeState tsHoldover

/-- LOSS_TIMEOUT (R34). -/
def execLossTimeout (s : State) : Host.Outcome State Fault Refusal := s.does Core.lossTimeout

/-- A slew has removed the last of its offset (R35, R418). -/
def Core.slewEnd (c : Core) : Core :=
  if c.time.slewing ∧ c.time.slew = 0 then
    { c with time := { c.time with slewing := false, lockAtBoundary := decide (c.timeSource = 4),
                                   pendingFromSet := c.time.pendingFromSet && decide (c.rd OD.PENDING_STEP ≠ 0) } }
  else c

/-- SLEW_END (R418). -/
def execSlewEnd (s : State) : Host.Outcome State Fault Refusal := s.does Core.slewEnd

/-- A write of 1 to STEP_ACCEPT applies the pending step, using the latest measured offset (R36). With no step pending the write is
accepted and has no effect (the spec does not say, log 55). -/
def Core.stepAccept (c : Core) (v : Nat) : Core :=
  if v ≠ 1 then c.ends abValue
  else if c.rd OD.PENDING_STEP = 0 then c
  else c.planStep (toSigned 64 (c.rd OD.PENDING_STEP))

/-- STEP_ACCEPT (R36). -/
def execStepAccept (path : Path) (value : BitVec 8) (s : State) : Host.Outcome State Fault Refusal :=
  s.does (fun c => c.byActive path (fun c => c.stepAccept value.toNat))

/-- Whether PTP on either path supplies time of day (R25, R37). -/
def Core.ptpTod (c : Core) : Bool := c.healthy 0 || c.healthy 1

/-- Drops every correction outstanding: a pending step, a step due and a slew (R37). -/
def Core.dropCorrection (c : Core) : Core :=
  let c := c.clearPending
  { c with time := { c.time with slew := 0, slewing := false, dueStep := none, lockAtBoundary := false, pendingFromSet := false } }

/-- A write of TIME_SET (R32, R33, R37, R418). -/
def Core.timeSet (c : Core) (v : Nat) : Core :=
  let src := c.timeSource
  if !time64Valid v then c.ends abValue
  else if src ≤ 2 then c.ends abValue
  else
    let off : Int := (c.now : Int) - ofTime64 v
    if c.timeState = tsFree then
      let c := c.selectSource
      ({ c.set OD.OFFSET_LAST (ofSigned 64 off) with time := { c.time with lastValid := c.up, fresh := false } }).firstStep off
        (if src = 4 then tsLocked else tsAcquiring)
    else if src = 3 ∧ c.ptpTod then c.ends abRunning
    else
      let off := if src = 3 then roundNear off secondUnits * secondUnits else off
      let c := if c.time.pendingFromSet ∨ src = 4 then c.dropCorrection else c
      let c := c.set OD.OFFSET_LAST (ofSigned 64 off)
      if off = 0 then
        if src = 4 then c.setTimeState tsLocked else c
      else if off.natAbs ≤ c.stepThreshold then ((c.markSet true).setTimeState tsAcquiring).slew off
      else c.bigOffset off true

/-- TIME_SET (R37). -/
def execTimeSet (path : Path) (value : BitVec 112) (s : State) : Host.Outcome State Fault Refusal :=
  s.does (fun c => c.byActive path (fun c => c.timeSet value.toNat))

/-- TIME_SOURCE_WRITE: in effect at the next frame boundary (R7, R44). -/
def execTimeSourceWrite (path : Path) (value : BitVec 8) (s : State) : Host.Outcome State Fault Refusal :=
  s.does (fun c => c.byActive path (fun c =>
    if 4 < value.toNat then c.ends abValue else c.defer OD.TIME_SOURCE 0 value.toNat))

/-- TIME_SOURCE comes into force: a different value moves the state to Holdover, or keeps it in Free, and drops a pending
step (R36, R44). A slew in progress and a step already due end with it (DESIGN CHOICE: R44 names the pending step alone, log 55). -/
def Core.timeSourceApply (c : Core) (v : Nat) : Core :=
  if c.timeSource = v then c
  else
    let c := (c.set OD.TIME_SOURCE v).dropCorrection
    let c := if c.timeState = tsFree then c else c.setTimeState tsHoldover
    { c.selectSource with time := { c.selectSource.time with fresh := true } }

/-! ### 1PPS (R30, R31) -/

/-- An active edge of PPS_IN: time-stamped, and used as the start of a second with source 3 (R30). Without time of day from PTP
that second is the nearest of module time, in Free too (log 55). -/
def Core.ppsIn (c : Core) (rising : Bool) : Core :=
  if rising ≠ decide (c.rd OD.PPS_IN_EDGE = 0) then c
  else
    let c := c.set OD.PPS_IN_LAST (time64 c.now)
    if c.timeSource ≠ 3 ∨ ¬ c.sourcesOn then c
    else
      let edge : Int := (c.now : Int) - nsU (c.rd OD.PPS_IN_DELAY)
      let tod : Int := if c.healthy 0 then (c.ptpPort 0).lastOffset.getD 0 else if c.healthy 1 then (c.ptpPort 1).lastOffset.getD 0 else 0
      let second := roundNear (edge - tod) secondUnits * secondUnits
      let off := edge - second
      if c.timeState = tsLocked ∧ nsU 1000 < (edge - roundNear edge secondUnits * secondUnits).natAbs then
        (c.inc OD.PPS_IN_REJECTED).pulse 4
      else c.measure off

/-- PPS_IN_EDGE (R30). -/
def execPpsInEdge (rising : Bool) (at_ : Nat) (s : State) : Host.Outcome State Fault Refusal :=
  s.does (fun c => (c.advance at_).ppsIn rising)

/-- PPS_OUT rises at a whole second less PPS_OUT_ADVANCE that lies in what is left of this frame (R31). -/
def Core.ppsRise (c : Core) : Core :=
  let adv := nsU (c.rd OD.PPS_OUT_ADVANCE)
  let second := gridFrom 0 secondUnits (c.now + adv)
  let t := second - adv
  if c.ppsAllowed ∧ t < c.frameStart + frameUnits ∧ adv ≤ second ∧ c.time.ppsSecond ≠ some second then
    let up := c.up + (t - c.now)
    let fall := up + nsU (c.rd OD.PPS_OUT_WIDTH)
    { c.advanceTo t with time := { c.time with ppsOut := true, ppsSecond := some second, ppsFallAt := fall } }
  else c

/-- PPS_OUT_RISE (R31). -/
def execPpsOutRise (s : State) : Host.Outcome State Fault Refusal := s.does Core.ppsRise

/-- PPS_OUT falls PPS_OUT_WIDTH after it rose (R31). -/
def Core.ppsFall (c : Core) : Core :=
  if c.time.ppsOut ∧ c.time.ppsFallAt < c.upFrame + frameUnits then { c with time := { c.time with ppsOut := false } } else c

/-- PPS_OUT_FALL (R31). -/
def execPpsOutFall (s : State) : Host.Outcome State Fault Refusal := s.does Core.ppsFall

/-- PPS_OUT_MODE comes into force (R31). -/
def Core.ppsModeApply (c : Core) (v : Nat) : Core := (c.set OD.PPS_OUT_MODE v).ppsCut

/-- Level of PPS_OUT: held low where the mode does not let it pulse (R31). -/
def Core.ppsOut (c : Core) : Bool := c.time.ppsOut && c.ppsAllowed

end Sys2Proof.Machine
end

