-- ==== Sys2Proof/Machine/LoopMath.lean ====
section
/-! DEFINITION. The arithmetic of one loop: its coefficients, the cascade, the measurement, the drift model and the dither, and
the staging of a code (R62 to R70, R74, R79, R81, R82, R109 to R112). -/

namespace Sys2Proof.Machine

/-! ### The coach and its loop -/

/-- Whether the present frame is a loop frame (R62). -/
def Core.loopFrame (c : Core) : Bool :=
  decide (c.loopPower = psRun ∨ c.loopPower = psMaint) || (decide (c.loopPower = psQuiet) && decide (c.frameIx % 4 = 0))

/-- PROGRAM of a loop (R83). -/
def Core.program (c : Core) (te : Nat) : Nat := bits (c.rdA OD.LOOP_SELECT te) 15 12

/-- The coefficient set a loop uses: COEF_QUIET in Quiet, else COEF_RUN (R62, R80). -/
def Core.coefSet (c : Core) (te : Nat) : Nat :=
  let w := c.rdA OD.LOOP_SELECT te
  if c.loopPower = psQuiet then bits w 5 0 else bits w 11 6

/-- Word w of the coefficient set of a loop (R83). -/
def Core.coef (c : Core) (te w : Nat) : Nat := c.rdA OD.COEF_SET (40 * c.coefSet te + w)

/-- A Q15 coefficient of section i: 0 b0, 1 b1, 2 b2, 3 a1, 4 a2. -/
def Core.coefQ (c : Core) (te i j : Nat) : Int := toSigned 16 (c.coef te (2 + 6 * i + j))

/-- NSEC, AW_SECTION, AW_GAIN (R83). -/
def Core.nsec (c : Core) (te : Nat) : Nat := bits (c.coef te 0) 2 0
def Core.awSection (c : Core) (te : Nat) : Nat := bits (c.coef te 0) 10 8
def Core.awGain (c : Core) (te : Nat) : Int := toSigned 16 (c.coef te 1)

/-- U_MIN, U_MAX, FE_LIMIT, FE_TIME of a loop (R83). -/
def Core.uMin (c : Core) (te : Nat) : Int := toSigned 16 (bits (c.rdA OD.LOOP_LIMITS te) 63 48)
def Core.uMax (c : Core) (te : Nat) : Int := toSigned 16 (bits (c.rdA OD.LOOP_LIMITS te) 47 32)
def Core.feLimit (c : Core) (te : Nat) : Nat := bits (c.rdA OD.LOOP_LIMITS te) 31 16
def Core.feTime (c : Core) (te : Nat) : Nat := bits (c.rdA OD.LOOP_LIMITS te) 15 0

/-- A section at rest. -/
def Sec.zero : Sec := ⟨0, 0, 0, 0, false⟩

/-- The states of section i. -/
def Loop.sec (l : Loop) (i : Nat) : Sec := l.secs.getD i Sec.zero

/-- A list with its i-th entry replaced, padded with `d` where it is shorter. -/
def setAt {α : Type} (l : List α) (i : Nat) (v d : α) : List α :=
  match l, i with
  | [], 0 => [v]
  | [], i + 1 => d :: setAt [] i v d
  | _ :: r, 0 => v :: r
  | a :: r, i + 1 => a :: setAt r i v d

/-- Replaces the states of section i. -/
def Loop.setSec (l : Loop) (i : Nat) (x : Sec) : Loop := { l with secs := setAt l.secs i x Sec.zero }

/-! ### The cascade (R67, R68, R82) -/

/-- The output of a section for an input: Q30 products, half-up rounding, arithmetic shift, Q15 clamp (R67). -/
def biquad (b0 b1 b2 a1 a2 : Int) (p : Nat) (s : Sec) (x : Int) : Int × Sec :=
  let acc := b0 * x + b1 * s.x1 + b2 * s.x2 - a1 * s.y1 - a2 * s.y2
  let y := (acc + 2 ^ (14 - p)) / 2 ^ (15 - p)
  let yc := satQ15 y
  (yc, ⟨x, s.x1, yc, s.y1, s.satSect || decide (y ≠ yc)⟩)

/-- One section of a loop's cascade on an input (R67). -/
def Core.runSection (c : Core) (te i : Nat) (s : Sec) (x : Int) : Int × Sec :=
  biquad (c.coefQ te i 0) (c.coefQ te i 1) (c.coefQ te i 2) (c.coefQ te i 3) (c.coefQ te i 4)
    (bits (c.coef te (7 + 6 * i)) 1 0) s x

/-- The bumpless replacement of the first cascade output under a new set (R82). -/
def Core.bumpless (c : Core) (te : Nat) (l : Loop) (yN : Int) : Int × Loop :=
  let delta := l.yN - yN
  let last := c.nsec te - 1
  let aw := c.awSection te
  let l1 := l.setSec last { l.sec last with y1 := l.yN }
  let l2 := if aw ≥ c.nsec te then l1
    else if aw = last then l1.setSec aw { l1.sec aw with y2 := satQ15 ((l1.sec aw).y2 + delta) }
    else l1.setSec aw { l1.sec aw with y1 := satQ15 ((l1.sec aw).y1 + delta), y2 := satQ15 ((l1.sec aw).y2 + delta) }
  (l.yN, l2)

/-- The clamp to the loop's range and back-calculation (R68). A set whose AW_SECTION names a section at or beyond NSEC acts as
one without (DESIGN CHOICE: the spec gives such a set no meaning, log 51). -/
def Core.saturate (c : Core) (te : Nat) (l : Loop) (yN : Int) : Int × Loop :=
  let u := clampI (c.uMin te) (c.uMax te) yN
  let delta := u - yN
  let aw := c.awSection te
  let l := if delta ≠ 0 ∧ aw < c.nsec te then
      l.setSec aw { l.sec aw with y1 := satQ15 ((l.sec aw).y1 + (c.awGain te * delta) / 32768) } else l
  (u, { l with u := u, yN := yN, sat := decide (delta ≠ 0) })

/-- A coefficient commit on a loop (R81): states kept, SAT cleared, the y states of the last and the AW section clamped,
bumpless mode armed. -/
def Core.coefCommit (c : Core) (te : Nat) (l : Loop) : Loop :=
  if l.st = .parked then l
  else
    let last := c.nsec te - 1
    let aw := c.awSection te
    let fix := fun (s : Sec) => { s with y1 := clampI (c.uMin te) (c.uMax te) s.y1, y2 := clampI (c.uMin te) (c.uMax te) s.y2 }
    let l := { l with sat := false, secs := l.secs.map (fun (s : Sec) => { s with satSect := false }) }
    let l := l.setSec last (fix (l.sec last))
    let l := if aw < c.nsec te ∧ aw ≠ last then l.setSec aw (fix (l.sec aw)) else l
    { l with bumpless := decide (c.rdA OD.COEF_BUMPLESS = 1), first := true }

/-! ### Measurement (R63 to R65) -/

/-- A monitor channel's last word, and whether it arrived in this frame with its tag (R123). -/
def Core.monWord (c : Core) (ch : Nat) : Nat := c.rd OD.MON_RESULT ch
def Core.monHere (c : Core) (ch : Nat) : Bool := decide (Tab.get c.monAt ch 0 = c.frames + 1)

/-- A tap result corrected by the channel's gain and offset and by the routing loss to a cell, in 2^-68 of a code
(R63). -/
def Core.tap (c : Core) (cell ch : Nat) : Int :=
  let x := toSigned 24 (bits (c.monWord ch) 31 8)
  (c.rd OD.MON_GAIN ch : Int) * (x * 256 - toSigned 32 (c.rd OD.MON_OFFSET ch)) * Config.tapGain ch cell

/-- `k` bits of the binary logarithm of a mantissa in [2^64, 2^65), by repeated squaring. -/
def log2Frac : Nat → Nat → Nat → Nat
  | 0, _, acc => acc
  | k + 1, m, acc =>
    let q := m * m / 2 ^ 64
    if 2 ^ 65 ≤ q then log2Frac k (q / 2) (2 * acc + 1) else log2Frac k q (2 * acc)

/-- 10 log10(a / b) in 2^-24 dB (R63); which of two neighbouring codes stands for it is open (log 11). A ratio that is not
positive has no logarithm: a free value. -/
def decibel (a b : Int) : Int :=
  if a * b ≤ 0 then Config.decibel a b
  else
    let x := a.natAbs * 2 ^ 256 / b.natAbs
    let l := Nat.log2 x
    let m := x * 2 ^ 64 / 2 ^ l
    idivFree ((((l : Int) - 256) * 2 ^ 48 + log2Frac 48 m 0) * 3470639555327098208) (2 ^ 84)

/-- The channels a loop's LDM reads (R63): a, b, p_u, p_l of a cell; output tap and input tap of a VOA. -/
def Core.ldmChannels (c : Core) (te mode : Nat) : List Nat :=
  if mode = 0 then
    let cell := te / 2
    let up := upperLine cell
    let s := cell / 256
    [2 * cell, 2 * cell + 1, lineTap s up, lineTap s (flipBit up (stageBit s))]
  else
    let o := te - 8704
    [9216 + o, 8704 + entryInput (mapEntry c.act o)]

/-- Phase on the branch between bar and cross from m in Q47 by the fringe table, from point j on with n segments left; a
value the table does not reach stays at the branch's end (R65). -/
def Core.fringeFrom (c : Core) (cell : Nat) (m : Int) : Nat → Nat → Int
  | 0, _ => pi24
  | n + 1, j =>
    let t0 := toSigned 32 (c.rd OD.FRINGE_TABLE (64 * cell + j)) * 65536
    let t1 := toSigned 32 (c.rd OD.FRINGE_TABLE (64 * cell + j + 1)) * 65536
    if m ≤ t0 ∧ t1 < m then
      let den := 10 * pi24 + 6 * 16777216
      clampI 0 pi24 (idivFree ((j * (t0 - t1) + (t0 - m)) * den - 189 * 16777216 * (t0 - t1)) ((t0 - t1) * 630).toNat)
    else Core.fringeFrom c cell m n (j + 1)

/-- phi_m of a cell from m as a fraction (R65): between the fringes, folded within 20 mrad of one by the sign of
(applied code - fringe code). -/
def Core.phase (c : Core) (te : Nat) (mNum mDen : Int) : Int × Bool :=
  let cell := te / 2
  let m := idivFree (mNum * mDen.sign * 2 ^ 47) mDen.natAbs
  let top := toSigned 32 (c.rd OD.FRINGE_TABLE (64 * cell + 5)) * 65536
  let phi := if top < m then 0 else c.fringeFrom cell m 54 5
  let side := fun (f : Int) =>
    let d := driveTable c te f
    ((c.driven te : Int) * d.2.1 - d.1).sign
  if phi.natAbs * 1000 < 20 * 16777216 then (side 0 * phi, true)
  else if (pi24 - phi).natAbs * 1000 < 20 * 16777216 then (pi24 + side pi24 * (pi24 - phi), true)
  else (phi, false)

/-- The balance offset's magnitude from a residual in Q31 × 2^16 by the null table (R65). A residual below the first point gives 0 and
one beyond the last 0.25 rad (DESIGN CHOICE: the spec gives no value there, log 51). -/
def Core.nullFrom (c : Core) (cell : Nat) (r : Int) : Nat → Nat → Int
  | 0, _ => 4194304
  | n + 1, k =>
    let t0 := toSigned 32 (c.rd OD.NULL_TABLE (16 * cell + k)) * 65536
    let t1 := toSigned 32 (c.rd OD.NULL_TABLE (16 * cell + k + 1)) * 65536
    if t0 ≤ r ∧ r < t1 then idivFree ((k * (t1 - t0) + (r - t0)) * 4194304) ((t1 - t0) * 15).toNat
    else Core.nullFrom c cell r n (k + 1)

/-- theta_m of a balance element (R65): the dark-output residual less phi^2 / 4 (R152) through the null table, with the
sign of (applied code - null code). -/
def Core.balance (c : Core) (te : Nat) (mNum mDen : Int) : Int × Bool :=
  let cell := te / 2
  let m := idivFree (mNum * mDen.sign * 2 ^ 47) mDen.natAbs
  let cross := crossIn (setWords c.act) cell
  let r := if cross then (2 ^ 47 + m) / 2 else (2 ^ 47 - m) / 2
  let ph := c.loop (2 * cell)
  let off := ph.meas - (if cross then pi24 else 0)
  let r := max 0 (r - idivFree (off * off) 8)
  let bottom := toSigned 32 (c.rd OD.NULL_TABLE (16 * cell)) * 65536
  let th := if r < bottom then 0 else c.nullFrom cell r 15 0
  let d := driveTable c te 0
  let side := ((c.driven te : Int) * d.2.1 - d.1).sign
  (side * th, decide (th * 1000 < 20 * 16777216))

/-! ### The drift model (R74) -/

/-- Temperature of the zone of an element: the fabric die's zone 0 (R74, R346). -/
def Core.zoneTemp (c : Core) (_te : Nat) : Int := toSigned 32 (c.rd OD.ZONE_TEMP 0)

/-- A loop frame joins the regression. -/
def Regr.add (r : Regr) (u t : Int) : Regr := ⟨r.n + 1, r.su + u, r.st + t, r.sut + u * t, r.stt + t * t⟩

/-- The slope of u on the temperature, 2^-16 Q15 per C; while every temperature was the same no slope is determined: a free
value (log 52). -/
def Regr.slope (r : Regr) (te : Nat) : Int :=
  let den := r.n * r.stt - r.st * r.st
  if den ≤ 0 then Config.flatSlope te else idivFree ((r.n * r.sut - r.su * r.st) * 2 ^ 32) den.toNat

/-- The exponential average of the rate of change of u after a loop frame of `dt` ns that changed u by `du`, with time constant
`tau` ns, in 2^-40 Q15 per s (R74; the weight dt / tau of a frame is DEDUCED, log 52). -/
def driftStep (d du : Int) (tau dt : Nat) : Int := d + idivFree (du * 2 ^ 40 * 1000000000 - d * dt) tau

/-- The drift model in force in Coast: learned once Locked for 10 × DRIFT_TAU, else calibration's (R74). -/
def Core.driftModel (c : Core) (te : Nat) (l : Loop) : Int × Int :=
  if 10 * c.rd OD.DRIFT_TAU ≤ l.clock.lockedNs then (l.d, l.kT)
  else (0, Config.calTempCoefficient te (c.rd OD.TE_CAL_COUNT te))

/-- u of the Coast step (R74): in the frame that enters Coast it is the last u. -/
def Core.coastU (c : Core) (te : Nat) (l : Loop) : Int :=
  let m := c.driftModel te l
  let u := if l.st = .coast then
      l.uCoast + idivFree (m.1 * ((c.upFrame - l.clock.coastAt) / unitsPerNs : Nat)) (1000000000 * 2 ^ 40)
        + idivFree (m.2 * (c.zoneTemp te - l.t0)) (2 ^ 32)
    else l.u
  clampI (c.uMin te) (c.uMax te) u

/-! ### The dither (R79, R151) -/

/-- The sine of r of 1024 parts of a turn, r at most 256, in 2^-60, by its series. -/
def sinQuarter (r : Nat) : Int :=
  let x : Int := (r * 3622009729038561421 / 512 : Nat)
  let x2 := x * x / 2 ^ 60
  let f := fun (a : Int) (n : Int) => 2 ^ 60 - x2 * a / (n * 2 ^ 60)
  x * f (f (f (f (f (f (f (f (2 ^ 60) 272) 210) 156) 110) 72) 42) 20) 6 / 2 ^ 60

/-- The sine of k of 1024 parts of a turn, in 2^-60. -/
def sinTurn (k : Nat) : Int :=
  let q := k % 1024
  if q ≤ 256 then sinQuarter q else if q ≤ 512 then sinQuarter (512 - q)
  else if q ≤ 768 then -sinQuarter (q - 512) else -sinQuarter (1024 - q)

/-- The dither sample of a loop in a frame of a run, 2^-24 rad or dB: a sinusoid of 2 mrad or 0.02 dB at k × 20,000 / 1,024 Hz,
which is k / 1,024 of a turn in a frame (R79, R151). The phase at the start of a run is free (log 52). -/
def ditherAt (te bin frame : Nat) : Int :=
  roundNear (2 * 16777216 * sinTurn (bin * frame + Config.ditherPhase te)) ((if te < 8704 then 1000 else 100) * 2 ^ 60)

/-! ### Staging (R109 to R112) -/

/-- A link after reset: not trained (R16, log 8). -/
def Link.reset : Link := ⟨false, 0, false, false, 0, 0, 0, false, 0, false⟩

/-- The link of a die. -/
def Core.link (c : Core) (d : Nat) : Link := Tab.get c.links d Link.reset

/-- Sets the link of a die. -/
def Core.setLink (c : Core) (d : Nat) (x : Link) : Core := { c with links := Tab.put c.links d x Link.reset }

/-- An entry put among a queue's entries by apply instant. -/
def queueInsert (e : StEntry) : List StEntry → List StEntry
  | [] => [e]
  | x :: r => if e.at_ < x.at_ then e :: x :: r else x :: queueInsert e r

/-- Whether an element's die has its clear asserted (R113, R114). -/
def Core.clearing (c : Core) (te : Nat) : Bool := c.trav.internalClear || c.trav.clearDies.contains (teDie te)

/-- An entry arrives at a channel: discarded under a clear or while the link is down, late below 1 us before its instant,
a collision replaces, a fourth entry discards the latest (R15, R111, R112, R114). -/
def Core.stage (c : Core) (te : Nat) (e : StEntry) : Core :=
  let die := teDie te
  if c.clearing te ∨ (c.link die).up = false then c
  else if e.at_ < c.now + nsU 1000 then (c.inc OD.LATE_ENTRIES).pulse (72 + die)
  else
    let x := c.chan te
    if x.queue.any (fun q => q.at_ == e.at_) then
      ((c.setChan te { x with queue := x.queue.map (fun q => if q.at_ = e.at_ then e else q) }).inc OD.TICK_COLLISIONS).pulse (88 + die)
    else
      let q := queueInsert e x.queue
      if 3 < q.length then ((c.setChan te { x with queue := q.take 3 }).inc OD.QUEUE_OVERFLOWS).pulse (88 + die)
      else c.setChan te { x with queue := q }

end Sys2Proof.Machine
end

