-- ==== Sys2Proof/Machine/Micro.lean ====
section
/-! DEFINITION. The microengine of a coach: the image's dispatch table and control store, the registers, flags and
micro-operations, and the routines of an owner image's own instructions (R89 to R93, R96). -/

namespace Sys2Proof.Machine

/-! ### Images (R96) -/

/-- Word i of an image. -/
def imgWord (img : List Nat) (i : Nat) : Nat := img.getD i 0

/-- The dispatch entry of an opcode. -/
def imgEntry (img : List Nat) (op : Nat) : Nat := bits (imgWord img (8 + op)) 11 0

/-- The control store of an image. -/
def imgStore (img : List Nat) : List Nat := (img.drop 328).take (imgWord img 4)

/-- Fields of a microword (R92). -/
def uwOp (w : Nat) : Nat := bits w 31 28
def uwClocks (w : Nat) : Nat := bits w 27 26 + 1
def uwSeq (w : Nat) : Nat := bits w 25 24
def uwDst (w : Nat) : Nat := bits w 23 20
def uwSrcA (w : Nat) : Nat := bits w 19 16
def uwSrcB (w : Nat) : Nat := bits w 15 12
def uwAddr (w : Nat) : Nat := bits w 11 0

/-- Whether a microword is an LST with the MPC function, whose code the spec does not give (R92, R93, log 53). -/
def uwLoadsMpc (w : Nat) : Bool := decide (uwOp w = 13) && Config.lstIsMpc (uwAddr w)

/-! ### Registers and flags (R92) -/

/-- A value within a register of w bits, two's complement. -/
def wrapTo (w : Nat) (v : Int) : Int := toSigned w (ofSigned w v)

/-- A register as a source; IMM is ADDR/IMM sign-extended. -/
def CoachRec.reg (x : CoachRec) (imm r : Nat) : Int :=
  match r with
  | 0 => 0
  | 1 => x.v0
  | 9 => x.acc
  | 10 => x.md
  | 11 => x.sp
  | 12 => x.ms
  | 13 => x.code
  | 14 => x.opr
  | 15 => toSigned 12 imm
  | _ => x.vs.getD (r - 2) 0

/-- A register as a destination, within its width; ZR discards, OPR and IMM are read-only. -/
def CoachRec.setReg (x : CoachRec) (r : Nat) (v : Int) : CoachRec :=
  match r with
  | 0 => x
  | 1 => { x with v0 := wrapTo 32 v }
  | 9 => { x with acc := wrapTo 40 v }
  | 10 => { x with md := wrapTo 32 v }
  | 11 => { x with sp := wrapTo 32 v }
  | 12 => { x with ms := wrapTo 32 v }
  | 13 => { x with code := ofSigned 18 v }
  | 14 => x
  | 15 => x
  | _ => { x with vs := setAt x.vs (r - 2) (wrapTo 32 v) 0 }

/-- A result written to DST, with the flags Z and N of it; V as given. -/
def CoachRec.result (x : CoachRec) (dst : Nat) (v : Int) (sat : Bool) : CoachRec :=
  { x.setReg dst v with fz := decide (v = 0), fn := decide (v < 0), fv := sat }

/-- A flag (R92). -/
def Core.microFlag (c : Core) (x : CoachRec) (k : Nat) : Bool :=
  let l := c.loop x.te
  match k with
  | 0 => x.fz
  | 1 => x.fn
  | 2 => x.fv
  | 3 => x.usable
  | 4 => c.teLit x.te
  | 5 => x.missing
  | 6 => x.ovld
  | 7 => decide (8704 ≤ x.te) && (c.glide (x.te - 8704)).gen.isSome
  | 8 => decide (l.st = .trim)
  | 9 => decide (c.loopPower = psQuiet)
  | 10 => x.fold
  | 11 => x.feOver
  | 12 => decide (l.st = .locked)
  | 13 => decide (c.nsec x.te ≤ x.opr)
  | 14 => l.first
  | _ => true

/-! ### Data memory (R92) -/

/-- The place of a word of data memory among the words that microcode has stored: those of the loop's record and the element
tables by loop, those of the coach's constants by coach. -/
def microKey (te addr : Nat) : Nat := (if addr / 1024 = 3 then te / 256 else te) * 4096 + addr

/-- A word of data memory: the coefficient set in use, its Q15 words signed; what microcode has stored; else a word that the spec
gives no layout for, a free value (log 53). -/
def Core.microLoad (c : Core) (te addr : Nat) : Int :=
  if addr < 40 then
    let w := c.coef te addr
    if addr = 1 ∨ (2 ≤ addr ∧ addr < 38 ∧ (addr - 2) % 6 ≠ 5) then toSigned 16 w else w
  else match Tab.find? c.micro (microKey te addr) with
    | some v => v
    | none => Config.microWord (microKey te addr)

/-- A store to data memory. -/
def Core.microStore (c : Core) (te addr : Nat) (v : Int) : Core :=
  if addr < 40 then { c with act := storePut c.act (okey OD.COEF_SET (40 * c.coefSet te + addr)) (ofSigned 16 v) }
  else { c with micro := Tab.set c.micro (microKey te addr) v }

/-! ### Micro-operations (R92) -/

/-- An operation whose function codes the spec does not give: its result and the flags it sets are free values of its operands
(log 53). -/
def microOther (x : CoachRec) (w : Nat) : CoachRec :=
  let a := x.reg (uwAddr w) (uwSrcA w)
  let b := x.reg (uwAddr w) (uwSrcB w)
  x.result (uwDst w) (Config.microResult (uwOp w * 4096 + uwAddr w) a b)
    (bit (Config.microFlags (uwOp w * 4096 + uwAddr w) a b) 2)

/-- MAC: two products of section OPR join ACC; its first word latches x. With OPR at or beyond NSEC nothing is written. The sum goes
into DST and into ACC (DESIGN CHOICE: the spec does not say what a DST other than ACC does, log 53). -/
def Core.microMac (c : Core) (x : CoachRec) (w : Nat) : CoachRec :=
  let a := x.reg (uwAddr w) (uwSrcA w)
  if c.nsec x.te ≤ x.opr then x
  else
    let q := c.coefQ x.te x.opr
    let s := (c.loop x.te).sec x.opr
    let base := if bit (uwAddr w) 11 then 0 else x.acc
    let add := fun (t : Int) => { x.result (uwDst w) (base + t) false with acc := wrapTo 40 (base + t) }
    match bits (uwAddr w) 10 8 with
    | 0 => { add (q 0 * a + q 1 * s.x1) with lat := a }
    | 1 => add (q 2 * s.x2 - q 3 * s.y1)
    | 2 => add (-(q 4 * s.y2))
    | _ => microOther x w

/-- RND, function 0: the rounding, shift and Q15 clamp of section OPR. -/
def Core.microRnd (c : Core) (x : CoachRec) (w : Nat) : Core × CoachRec :=
  if bits (uwAddr w) 11 8 ≠ 0 then (c, microOther x w)
  else if c.nsec x.te ≤ x.opr then (c, x)
  else
    let p := bits (c.coef x.te (7 + 6 * x.opr)) 1 0
    let y := (x.reg (uwAddr w) (uwSrcA w) + 2 ^ (14 - p)) / 2 ^ (15 - p)
    let l := c.loop x.te
    let s := l.sec x.opr
    (c.setLoop x.te (l.setSec x.opr { s with satSect := s.satSect || decide (satQ15 y ≠ y) }),
      x.result (uwDst w) (satQ15 y) (decide (satQ15 y ≠ y)))

/-- SEC: the states of section OPR shift. -/
def Core.microSec (c : Core) (x : CoachRec) (w : Nat) : Core :=
  if c.nsec x.te ≤ x.opr then c
  else
    let l := c.loop x.te
    let s := l.sec x.opr
    c.setLoop x.te (l.setSec x.opr { s with x2 := s.x1, x1 := x.lat, y2 := s.y1, y1 := x.reg (uwAddr w) (uwSrcA w) })

/-- One microword on a coach's registers and on its loop (R92). MUL takes the low 16 bits of its sources (DESIGN CHOICE: the spec says
only a 16 x 16 signed product, log 53). -/
def Core.microOp (c : Core) (x : CoachRec) (w : Nat) : Core × CoachRec :=
  let a := x.reg (uwAddr w) (uwSrcA w)
  match uwOp w with
  | 0 => (c, x.result (uwDst w) a false)
  | 3 => (c, x.result (uwDst w) (wrapTo 16 a * wrapTo 16 (x.reg (uwAddr w) (uwSrcB w))) false)
  | 4 => (c, c.microMac x w)
  | 5 => c.microRnd x w
  | 7 => let r := microOther x w; (c, { r with md := wrapTo 32 (Config.microResult (uwOp w * 4096 + uwAddr w) a 0) })
  | 8 => (c, { x with md := wrapTo 32 (c.microLoad x.te (uwAddr w)) })
  | 9 => (c.microStore x.te (uwAddr w) a, x)
  | 11 => (c.microSec x w, x)
  | 12 => ((c.modLoop x.te (fun l => { l with code := x.code })).stage x.te ⟨c.frameStart + 2 * frameUnits, x.code, false, false⟩, x)
  | 13 => (c, if uwLoadsMpc w then { x with pc := x.opr % 32 } else microOther x w)
  | 14 =>
    let f := Config.microFlags (uwOp w * 4096 + uwAddr w) a (x.reg (uwAddr w) (uwSrcB w))
    (c, { x with fz := bit f 0, fn := bit f 1, fv := bit f 2 })
  | _ => (c, microOther x w)

/-- A routine from a microaddress on, to the microword that dispatches; every path goes forward, so 4,096 words are enough
(R92, R95). A branch sees the flags that the words before its own have left, for a word's results are visible to the next (R92). -/
def Core.microRun (store : List Nat) : Nat → Nat → Core → CoachRec → Core × CoachRec
  | 0, _, c, x => (c, x)
  | n + 1, a, c, x =>
    match store[a]? with
    | none => (c, x)
    | some w =>
      let taken := c.microFlag x (uwSrcB w)
      let r := c.microOp x w
      let x := { r.2 with cycles := r.2.cycles + uwClocks w }
      match uwSeq w with
      | 0 => Core.microRun store n (a + 1) r.1 x
      | 1 => Core.microRun store n (if taken then uwAddr w else a + 1) r.1 x
      | 2 => (r.1, x)
      | _ => Core.microRun store n (uwAddr w) r.1 x

/-! ### An owner image's own instructions (R90, R93) -/

/-- The instruction a coach's program counter names: opcode and operand (R89). -/
def Core.instruction (c : Core) (n : Nat) : Nat × Nat :=
  let x := c.coach n
  let w := c.rd OD.PROGRAM_STORE (32 * c.program x.te + x.pc)
  (bits w 15 10, bits w 9 0)

/-- Instructions 20h to 3Fh run by their routines until one of R90's table is next, or the program has no more (R90, R93). -/
def Core.ownerLoop (img : List Nat) (n : Nat) : Nat → Core → Core
  | 0, c => c
  | k + 1, c =>
    let x := c.coach n
    let w := c.instruction n
    if x.running ∧ x.pc < 32 ∧ 0x20 ≤ w.1 ∧ imgEntry img w.1 ≠ 0xFFF then
      let r := c.microRun (imgStore img) 4096 (imgEntry img w.1) { x with pc := x.pc + 1, opr := w.2 }
      Core.ownerLoop img n k (r.1.setCoach n r.2)
    else c

/-- The owner's instructions that are next on a coach; the factory image has none. -/
def Core.ownerRun (c : Core) (n : Nat) : Core :=
  match c.ucode.active with
  | none => c
  | some img => Core.ownerLoop img n 32 c

/-- After an instruction of R90's table in an owner image: the routine that its dispatch entry names has run, on the registers `x` that
the instruction found and under the flags that it leaves. What R90 states of the instruction is as R90 states it; the registers that
only microcode sees, the words it stores in data memory, the clocks, and the next instruction where it loads the machine program
counter, are the routine's (R92, R93; DEDUCED, log 53). The factory image's words the spec does not give. -/
def Core.ownerAfter (c : Core) (n op : Nat) (x : CoachRec) : Core :=
  match c.ucode.active with
  | none => c
  | some img =>
    let y := c.coach n
    let r := c.microRun (imgStore img) 4096 (imgEntry img op)
      { x with usable := y.usable, missing := y.missing, ovld := y.ovld, fold := y.fold, feOver := y.feOver }
    let z := { y with vs := r.2.vs, acc := r.2.acc, md := r.2.md, lat := r.2.lat, fz := r.2.fz, fn := r.2.fn, fv := r.2.fv
                      pc := if op = 0 ∨ op = 2 ∨ op = 0x0D then y.pc else r.2.pc
                      cycles := if y.running then r.2.cycles else y.cycles }
    ({ c with micro := r.1.micro, act := r.1.act }.setCoach n z).ownerRun n

end Sys2Proof.Machine
end

