-- ==== Sys2Proof/Machine/Coach.lean ====
section
/-! DEFINITION. The coaches: state changes of loops, loop slots, the machine instructions of loop programs, HOLD_CLEAR and drift
learning (R71 to R77, R86 to R90, R101). -/

namespace Sys2Proof.Machine

/-! ### Loop state changes (R71 to R76) -/

/-- Entry to Acquire: the lock and acquire counts start (R72, R73). -/
def Loop.enterAcquire (l : Loop) : Loop :=
  { l with st := .acquire, leaving := false, acquiring := false, clock := { l.clock with lock := 0, acq := 0 } }

/-- Entry to Coast at a running time: T_0, u and the clock start (R74, R75). COAST_EXPIRED of an earlier Coast stays, for only
the transition to Acquire clears it. -/
def Loop.enterCoast (l : Loop) (up : Nat) (temp : Int) : Loop :=
  { l with st := .coast, leaving := false, t0 := temp, uCoast := l.u
           clock := { l.clock with coastAt := up, coastFired := false } }

/-- Commits an entry to Acquire that NRM decided (R72, R90). -/
def Core.commitAcquire (c : Core) (te : Nat) : Core :=
  let l := c.loop te
  if l.acquiring then (c.setLoop te { l with st := .acquire, leaving := false, acquiring := false }).inc OD.ACQ_COUNT else c

/-- Commits what a loop frame decided: Acquire; Locked, or Hold with its cause, count and source (R72, R73, R76, R77). -/
def Core.commitDecision (c : Core) (te : Nat) : Core :=
  let c := c.commitAcquire te
  let l := c.loop te
  match l.decision with
  | .none => c
  | .lock => c.setLoop te { l with st := .locked, decision := .none, clock := { l.clock with fe := 0 } }
  | .acqTimeout =>
    ((c.setLoop te { l with st := .hold, cause := causeAcq, decision := .none }).inc OD.ACQ_TIMEOUTS).pulse (132 + teDie te) [te]
  | .feTrip =>
    ((c.setLoop te { l with st := .hold, cause := causeFe, decision := .none, bin := 0, trimFrames := 0 }).inc
      OD.FE_TRIPS).pulse (128 + teDie te) [te]

/-- LOOP_LOCK (R72): the decision of a loop frame that END has not yet closed is committed. -/
def execLoopLock (te : Te) (s : State) : Host.Outcome State Fault Refusal :=
  s.does (fun c => if (c.loop te).decision = .lock then c.commitDecision te else c)

/-- ACQUIRE_TIMEOUT (R73): as LOOP_LOCK. -/
def execAcquireTimeout (te : Te) (s : State) : Host.Outcome State Fault Refusal :=
  s.does (fun c => if (c.loop te).decision = .acqTimeout then c.commitDecision te else c)

/-- FOLLOWING_ERROR_TRIP (R76): as LOOP_LOCK. -/
def execFollowingErrorTrip (te : Te) (s : State) : Host.Outcome State Fault Refusal :=
  s.does (fun c => if (c.loop te).decision = .feTrip then c.commitDecision te else c)

/-- Coast time has passed COAST_LIMIT, once for each Coast (R75). -/
def Core.coastExpiry (c : Core) (te : Nat) : Core :=
  let l := c.loop te
  if l.st = .coast ∧ ¬ l.clock.coastFired ∧ l.clock.coastAt + nsU (c.rd OD.COAST_LIMIT) < c.up then
    ((c.setLoop te { l with expired := true, clock := { l.clock with coastFired := true } }).inc OD.COAST_EXPIRIES).pulse 136 [te]
  else c

/-- COAST_EXPIRY (R75). -/
def execCoastExpiry (te : Te) (s : State) : Host.Outcome State Fault Refusal := s.does (fun c => c.coastExpiry te)

/-- An output saturated for more than 1 s fires its source, once for each saturation (R85). -/
def Core.satTimeout (c : Core) (te : Nat) : Core :=
  let l := c.loop te
  match l.clock.satSince with
  | some t =>
    if l.sat ∧ ¬ l.clock.satFired ∧ t + secondUnits < c.up then
      (c.setLoop te { l with clock := { l.clock with satFired := true } }).pulse 137 [te]
    else c
  | none => c

/-- LOOP_SATURATION_TIMEOUT (R85). -/
def execLoopSaturationTimeout (te : Te) (s : State) : Host.Outcome State Fault Refusal := s.does (fun c => c.satTimeout te)

/-- A lit element unobservable for more than COAST_LIMIT / 2 fires its source, once for each such time (R85). -/
def Core.unobsTimeout (c : Core) (te : Nat) : Core :=
  let l := c.loop te
  match l.clock.unobsSince with
  | some t =>
    if l.lit ∧ ¬ l.usable ∧ ¬ l.clock.unobsFired ∧ 2 * t + nsU (c.rd OD.COAST_LIMIT) < 2 * c.up then
      (c.setLoop te { l with clock := { l.clock with unobsFired := true } }).pulse 142 [te]
    else c
  | none => c

/-- UNOBSERVABLE_TIMEOUT (R85). -/
def execUnobservableTimeout (te : Te) (s : State) : Host.Outcome State Fault Refusal := s.does (fun c => c.unobsTimeout te)

/-! ### Slots -/

/-- Whether a loop runs its program in its slot (R87). -/
def Core.runsSlot (c : Core) (te : Nat) : Bool :=
  let l := c.loop te
  c.loopFrame && !l.frozen &&
    (l.leaving || (decide (l.st ≠ .parked) && decide (l.st ≠ .hold)))

/-- A program still running at the end of its slot: its code is discarded, what it decided is not committed, and the coach's
source fires (R101). -/
def Core.slotOverrun (c : Core) (n : Nat) : Core :=
  if (c.coach n).running then
    let te := (c.coach n).te
    let tick := c.frameStart + 2 * frameUnits
    let c := c.setChan te { c.chan te with queue := (c.chan te).queue.filter (fun e => e.seq || e.at_ != tick) }
    let c := c.modLoop te (fun l => { l with decision := .none, acquiring := false })
    let st := c.rd OD.COACH_STATUS n
    (((c.setCoach n (c.coach n).idle).wr OD.COACH_STATUS n (setBits st 31 31 1)).inc OD.SLOT_OVERRUNS).pulse (147 + n)
  else c

/-- Whether the slot of a loop can still open in this frame: slots come once a frame, with rising j (R86). -/
def Core.slotAhead (c : Core) (te : Nat) : Bool :=
  let x := c.coach (te / 256)
  decide (x.slotAt ≠ c.frames + 1) || decide (x.slotJ < te % 256)

/-- The slot of a loop opens: a Hold cause that waits for it takes effect, else the program starts at instruction 0 (R77, R86,
R87, R89). A program that the slot finds running has not ended within its own (R101). -/
def Core.loopSlot (c : Core) (te : Nat) : Core :=
  let n := te / 256
  if c.slotAhead te then
    let c := (c.slotOverrun n).modLoop te Loop.takeHold
    let c := c.setCoach n { c.coach n with slotAt := c.frames + 1, slotJ := te % 256 }
    if c.runsSlot te then
      -- the slot reads the loop's coefficient set, the setting of its cell, and the stores of its coach (R342)
      let c := c.eccRead (fun k => decide (k < shadowMark) &&
        ((decide (markObj k = OD.COEF_SET) && decide (markElem k / 40 = c.coefSet te)) ||
         (decide (markObj k = settingsObj) && decide (te < 8704 ∧ markElem k = markCell + te / 2)) ||
         (decide (k = 0) && decide (n = 0))))
      let c := c.modLoop te (fun l => { l with uPrev := l.u })
      (c.setCoach n { (c.coach n).idle with running := true, te := te, sp := (c.loop te).sp }).ownerRun n
    else c
  else c

/-- LOOP_SLOT (R86). -/
def execLoopSlot (te : Te) (s : State) : Host.Outcome State Fault Refusal := s.does (fun c => c.loopSlot te)

/-- The slots of a frame are over: a program that still runs is an overrun, and the Hold causes whose slot has passed take effect
(R77, R101). -/
def Core.slotsEnd (c : Core) : Core :=
  let c := c.coaches.foldl (fun (c : Core) p => c.slotOverrun p.1) c
  c.mapLoops (fun _ => true) (fun _ l => if l.holdNext.any (fun p => decide (p.2 ≤ c.frames)) then l.takeHold else l)

/-- SLOT_OVERRUN (R101). -/
def execSlotOverrun (coach : Coach) (s : State) : Host.Outcome State Fault Refusal := s.does (fun c => c.slotOverrun coach)

/-! ### The machine instructions (R89, R90) -/

/-- Dispatches an instruction on a coach where its program is at one with that opcode: OPERAND goes to OPR, the program
counter to the next; in an owner image the routine of its dispatch entry runs, and the owner's own instructions that follow run with
it (R90, R93, log 53). Where it is not, there is
nothing to execute (log 2). -/
def Core.dispatch (c : Core) (n op cycles : Nat) (f : Core → CoachRec → Core) : Core :=
  let x := c.coach n
  let w := c.instruction n
  if x.running ∧ x.pc < 32 ∧ w.1 = op then
    (f c { x with pc := x.pc + 1, opr := w.2, cycles := x.cycles + cycles }).ownerAfter n op { x with pc := x.pc + 1, opr := w.2 }
  else c

/-- What END leaves of a loop frame in its loop: its set-point, whether samples were missing, no commit before it, and no time
since saturation where the output is within range (R70, R82, R83, R85). -/
def Loop.closeFrame (l : Loop) (missing : Bool) : Loop :=
  { l with spShown := l.sp, gap := missing, first := false, bumpless := false
           clock := if l.sat then l.clock else { l.clock with satSince := none, satFired := false } }

/-- END: the loop frame closes and the state change that NRM, ERR and FEL decided is committed (R72, R90). A Coast that it enters
counts its time from the start B(f) of the frame that decides it (R75; DESIGN CHOICE: the spec says from entry, log 51). -/
def Core.endLoop (c : Core) (x : CoachRec) : Core :=
  let te := x.te
  let l := (c.loop te).closeFrame x.missing
  let c := (c.setLoop te l).setCoach (te / 256) x.idle
  if x.missing then c.inc64 OD.MISSING_SAMPLES
  else if l.acquiring ∨ l.decision ≠ .none then c.commitDecision te
  else if l.st = .hold ∧ ¬ l.leaving then c
  else if x.usable ∨ l.isParked then c
  else
    match l.st with
    | .trim => c
    | .coast => c
    | _ => c.setLoop te (l.enterCoast c.upFrame (c.zoneTemp te))

/-- END (R90). -/
def execEndLoop (coach : Coach) (s : State) : Host.Outcome State Fault Refusal :=
  s.does (fun c => c.dispatch coach 0x00 1 Core.endLoop)

/-- LDM: the monitor results of the loop, corrected; a link with a sample missing raises its source (R63, R70, R90). -/
def Core.ldm (c : Core) (x : CoachRec) : Core :=
  let mode := x.opr % 2
  let chs := c.ldmChannels x.te mode
  let lost := chs.filter (fun ch => !c.monHere ch)
  let missing := !lost.isEmpty
  let ovld := chs.any (fun ch => bit (c.monWord ch) 7)
  let c := [0, 1, 2, 3].foldl (fun (c : Core) d => if lost.any (fun ch => chanDie ch == d) then c.pulse (138 + d) [x.te] else c) c
  c.setCoach (x.te / 256) { x with
    taps := chs.map (c.tap (if mode = 0 then x.te / 2 else x.te)), missing := missing, ovld := ovld,
    cycles := if mode = 0 then x.cycles else x.cycles - 5 }

/-- LDM (R90). -/
def execLdm (coach : Coach) (s : State) : Host.Outcome State Fault Refusal :=
  s.does (fun c => c.dispatch coach 0x01 12 Core.ldm)

/-- The normalized ratio m = rho / u as a fraction, and whether |u| reaches OBS_MIN (R63, R64). -/
def ratioM (taps : List Int) (obsMin : Nat) : Int × Int × Bool :=
  let a := taps.getD 0 0
  let b := taps.getD 1 0
  let pu := taps.getD 2 0
  let pl := taps.getD 3 0
  ((a - b) * (pu + pl), (a + b) * (pu - pl), decide (obsMin * (pu + pl).natAbs ≤ (pu - pl).natAbs * 32768))

/-- A usable measurement after Coast: the cascade starts from the last Coast u (R74). -/
def Core.fromCoast (c : Core) (te : Nat) (l : Loop) : Loop :=
  let aw := c.awSection te
  if l.st = .coast ∧ aw < c.nsec te then l.setSec aw { l.sec aw with y1 := l.u, y2 := l.u } else l

/-- A lit element without a usable measurement: the time since when is kept; an unlit one has none (R85). -/
def Loop.unseen (l : Loop) (lit : Bool) (up : Nat) : Loop :=
  { l with clock := { l.clock with unobsSince := if lit then some (l.clock.unobsSince.getD up) else none
                                   unobsFired := lit && l.clock.unobsFired } }

/-- What a measurement leaves in its loop: LIT and USABLE; a loop that is to leave Parked, Hold or Coast is to enter Acquire, with
its counts at 0. A frame with missing samples is no usable one and leaves the rest (R14, R64, R70, R72, R90). -/
def Core.measured (c : Core) (te : Nat) (lit ok missing : Bool) : Loop :=
  let l := { c.loop te with lit := lit, usable := ok }
  if missing then l
  else if ok then
    let l := if l.leaving ∨ l.st = .coast then
        { c.fromCoast te l with acquiring := true, clock := { l.clock with lock := 0, acq := 0 } } else l
    { l with clock := { l.clock with unobsSince := none, unobsFired := false } }
  else l.unseen lit c.upFrame

/-- NRM: u, rho and m, or the VOA's loss; usability; the branch where it is not usable (R63, R64, R90). -/
def Core.nrm (c : Core) (x : CoachRec) : Core :=
  let te := x.te
  let loss := bits x.opr 9 8 = 1
  let r := ratioM x.taps (c.rd OD.OBS_MIN)
  let lit := c.teLit te
  let ok := lit && !x.missing && !x.ovld && (loss || r.2.2)
  let x := { x with usable := ok, mNum := r.1, mDen := r.2.1,
                    ms := if loss then -decibel (x.taps.getD 0 0) (x.taps.getD 1 0) else x.ms,
                    pc := if ok then x.pc else bits x.opr 4 0,
                    cycles := if loss then x.cycles - 1 else x.cycles }
  (c.setLoop te (c.measured te lit ok x.missing)).setCoach (te / 256) x

/-- NRM (R90). -/
def execNrm (coach : Coach) (s : State) : Host.Outcome State Fault Refusal :=
  s.does (fun c => c.dispatch coach 0x02 10 Core.nrm)

/-- PHS: the measured phase or balance offset by the fringe or null table (R65, R90). A ratio with nothing below the
line has no stated phase: a free value. -/
def Core.phs (c : Core) (x : CoachRec) : Core :=
  if x.mDen = 0 then c.drawn.setCoach (x.te / 256) { x with ms := toSigned 32 c.draw, fold := false }
  else
    let r := if x.opr % 2 = 0 then c.phase x.te x.mNum x.mDen else c.balance x.te x.mNum x.mDen
    c.setCoach (x.te / 256) { x with ms := r.1, fold := r.2 }

/-- PHS (R90). -/
def execPhs (coach : Coach) (s : State) : Host.Outcome State Fault Refusal :=
  s.does (fun c => c.dispatch coach 0x03 8 Core.phs)

/-- |e| within LOCK_BAND, in urad for cell elements and LOCK_BAND / 100 mdB for VOAs (R72, R83). -/
def inLockBand (te : Nat) (diff : Int) (band : Nat) : Bool :=
  if te < 8704 then decide (diff.natAbs * 1000000 ≤ band * 16777216) else decide (diff.natAbs * 100000 ≤ band * 16777216)

/-- |e| beyond FE_LIMIT, in urad or mdB (R76, R83). -/
def overFe (te : Nat) (diff : Int) (limit : Nat) : Bool :=
  if te < 8704 then decide (limit * 16777216 < diff.natAbs * 1000000) else decide (limit * 16777216 < diff.natAbs * 1000)

/-- The lock and acquire counts of a loop frame in Acquire, and what they decide (R72, R73). The frame whose measurement decides
Acquire is counted with them (DESIGN CHOICE: the spec does not say, log 51). -/
def Core.countAcquire (c : Core) (te : Nat) (l : Loop) (diff : Int) : Loop :=
  if l.st = .acquire ∨ l.acquiring then
    let lock := if inLockBand te diff (c.rd OD.LOCK_BAND) then l.clock.lock + 1 else 0
    let acq := l.clock.acq + 1
    { l with
      clock := { l.clock with lock := lock, acq := acq }
      decision := if c.rd OD.LOCK_FRAMES ≤ lock then .lock else if c.rd OD.ACQ_LIMIT ≤ acq then .acqTimeout else .none }
  else l

/-- What a trim run demodulates in a loop frame: the corrected dark-output residual of the element's cell, 2^-47, or the loss of a
VOA, 2^-24 dB (R152). -/
def Core.trimSample (c : Core) (x : CoachRec) : Int :=
  if x.te < 8704 then
    let m := idivFree (x.mNum * x.mDen.sign * 2 ^ 47) x.mDen.natAbs
    if crossIn (setWords c.act) (x.te / 2) then (2 ^ 47 + m) / 2 else (2 ^ 47 - m) / 2
  else x.ms

/-- The residual of a loop frame joins those of the run (R152). -/
def Core.trimRecord (c : Core) (x : CoachRec) : Core :=
  let l := c.loop x.te
  if l.st = .trim then
    let run := Tab.set (Tab.get c.cal.samples x.te []) l.trimFrames (c.trimSample x)
    { c with cal := { c.cal with samples := Tab.set c.cal.samples x.te run } }
  else c

/-- ERR: the Q15 error, scaled and saturated (R65, R66, R90). -/
def Core.err (c : Core) (x : CoachRec) : Core :=
  let diff := x.sp - x.ms
  let v0 := satQ15 (idivFree diff (if x.opr % 2 = 0 then 64 else 16384))
  let c := (c.trimRecord x).setLoop x.te (c.countAcquire x.te { c.loop x.te with meas := x.ms } diff)
  c.setCoach (x.te / 256) { x with v0 := v0, diff := diff }

/-- ERR (R90). -/
def execErr (coach : Coach) (s : State) : Host.Outcome State Fault Refusal :=
  s.does (fun c => c.dispatch coach 0x04 3 Core.err)

/-- BIQ n: section n on V0; with n at or beyond NSEC nothing changes (R67, R90). -/
def Core.biq (c : Core) (x : CoachRec) : Core :=
  let i := bits x.opr 2 0
  if i < c.nsec x.te then
    let l := c.loop x.te
    let r := c.runSection x.te i (l.sec i) x.v0
    (c.setLoop x.te (l.setSec i r.2)).setCoach (x.te / 256) { x with v0 := r.1 }
  else c.setCoach (x.te / 256) x

/-- BIQ (R67). -/
def execBiq (coach : Coach) (s : State) : Host.Outcome State Fault Refusal :=
  s.does (fun c => c.dispatch coach 0x05 5 Core.biq)

/-- A loop whose output is saturated in a loop frame: the time since when is kept (R85). -/
def Loop.saturated (l : Loop) (up : Nat) : Loop :=
  { l with sat := true, clock := { l.clock with satSince := some (l.clock.satSince.getD up) } }

/-- SAT: the loop's range and back-calculation; V0 := u (R68, R82, R90). -/
def Core.satInstr (c : Core) (x : CoachRec) : Core :=
  let l0 := c.loop x.te
  let b := if l0.bumpless then c.bumpless x.te l0 x.v0 else (x.v0, l0)
  let r := c.saturate x.te b.2 b.1
  let l := if r.2.sat then r.2.saturated c.upFrame else r.2
  (c.setLoop x.te l).setCoach (x.te / 256) { x with v0 := r.1 }

/-- SAT (R68). -/
def execSat (coach : Coach) (s : State) : Host.Outcome State Fault Refusal :=
  s.does (fun c => c.dispatch coach 0x06 5 Core.satInstr)

/-- FFW: the drive code, clamped to its range and to the ceiling (R69, R90, R108). -/
def Core.ffw (c : Core) (x : CoachRec) : Core :=
  let te := x.te
  let code := driveCode c te (driveArg (setWords c.act) (mapEntry c.act) te x.sp) x.v0
  let top := c.ceiling te
  if top < code then
    let c := c.modLoop te (fun l => l.saturated c.upFrame)
    ((c.inc OD.CEILING_CLAMPS).pulse (80 + teDie te)).setCoach (te / 256) { x with code := top }
  else c.setCoach (te / 256) { x with code := code }

/-- FFW (R69). -/
def execFfw (coach : Coach) (s : State) : Host.Outcome State Fault Refusal :=
  s.does (fun c => c.dispatch coach 0x07 7 Core.ffw)

/-- The frames of trajectory that one loop frame covers (R199). -/
def Core.glideStride (c : Core) : Nat := if c.loopPower = psQuiet then 4 else 1

/-- The set-point of a VOA under a glide in this loop frame, and the glide advanced by the frame (R197, R199). A glide that
stood still in Coast is planned afresh from rest. -/
def Core.glideStep (c : Core) (o : Nat) (spNow : Int) : Option (Int × Core) :=
  let g := c.glide o
  match g.gen with
  | none => none
  | some k =>
    let k := if g.stalled then (genFrom (spScale spNow) 0 0 k.target g.vMax g.aMax g.jMax).1 else k
    let sp := k.sp
    if k.done then
      -- the ramp has ended: a ramp-down stays at the floor, every other glide is over
      if g.phase = 1 then some (sp, (c.inc64 OD.GLIDE_RAMPS).setGlide o { g with phase := 2, gen := some k, stalled := false })
      else if g.phase = 2 then some (sp, c)
      else some (sp, (if g.phase = 3 ∨ g.phase = 4 ∨ g.phase = 5 then c.inc64 OD.GLIDE_RAMPS else c).setGlide o Glide.reset)
    else some (sp, c.setGlide o { g with gen := some (k.step c.glideStride), stalled := false })

/-- PRF: the profile set-point: a glide's, the target with the dither in Trim, or the target (R79, R90, R199). -/
def Core.prf (c : Core) (x : CoachRec) : Core :=
  let te := x.te
  let l := c.loop te
  let put := fun (c : Core) (sp seen : Int) =>
    (c.setLoop te { c.loop te with sp := seen }).setCoach (te / 256) { x with sp := sp }
  match (if 8704 ≤ te then c.glideStep (te - 8704) l.sp else none) with
  | some r => put r.2 r.1 r.1
  | none =>
    let sp := c.target te
    if l.st = .trim then put c (sp + ditherAt te l.bin l.trimFrames) sp else put c sp sp

/-- PRF (R90). -/
def execPrf (coach : Coach) (s : State) : Host.Outcome State Fault Refusal :=
  s.does (fun c => c.dispatch coach 0x08 8 Core.prf)

/-- FEL: in Locked and Trim, the following error against FE_LIMIT and its timer (R76, R90). -/
def Core.fel (c : Core) (x : CoachRec) : Core :=
  let l := c.loop x.te
  if l.st = .locked ∨ l.st = .trim then
    let above := overFe x.te x.diff (c.feLimit x.te)
    let fe := if above then l.clock.fe + 1 else 0
    let l := { l with clock := { l.clock with fe := fe }, decision := if c.feTime x.te < fe then .feTrip else .none }
    (c.setLoop x.te l).setCoach (x.te / 256) { x with feOver := above }
  else c.setCoach (x.te / 256) x

/-- FEL (R76). -/
def execFel (coach : Coach) (s : State) : Host.Outcome State Fault Refusal :=
  s.does (fun c => c.dispatch coach 0x09 4 Core.fel)

/-- DTH: in Trim, the dither sample joins V0 in units of u (R90). -/
def Core.dth (c : Core) (x : CoachRec) : Core :=
  let l := c.loop x.te
  if l.st = .trim then
    let d := idivFree (ditherAt x.te l.bin l.trimFrames) (if x.te < 8704 then 64 else 16384)
    c.setCoach (x.te / 256) { x with v0 := satQ15 (x.v0 + d) }
  else c.setCoach (x.te / 256) x

/-- DTH (R90). -/
def execDth (coach : Coach) (s : State) : Host.Outcome State Fault Refusal :=
  s.does (fun c => c.dispatch coach 0x0A 5 Core.dth)

/-- CST: the Coast step; a frame with missing samples leaves u as it is (R14, R74, R90). A VOA's ramp stands still. -/
def Core.cst (c : Core) (x : CoachRec) : Core :=
  let te := x.te
  let l := c.loop te
  if x.missing then c.setCoach (te / 256) { x with v0 := l.u }
  else
    let u := c.coastU te l
    let c := if l.lit then c.inc64 OD.UNOBSERVABLE else c
    let c := if 8704 ≤ te ∧ (c.glide (te - 8704)).gen.isSome then
        c.setGlide (te - 8704) { c.glide (te - 8704) with stalled := true } else c
    (c.setLoop te { l with u := u }).setCoach (te / 256) { x with v0 := u }

/-- CST (R74). -/
def execCst (coach : Coach) (s : State) : Host.Outcome State Fault Refusal :=
  s.does (fun c => c.dispatch coach 0x0B 7 Core.cst)

/-- DRV: stages the code for B(f + 2); the last code where samples are missing; nothing on entry to Hold (R14, R19, R77,
R90). -/
def Core.drv (c : Core) (x : CoachRec) : Core :=
  let te := x.te
  let l := c.loop te
  let c := c.setCoach (te / 256) x
  if l.decision = .acqTimeout ∨ l.decision = .feTrip ∨ (l.st = .hold ∧ ¬ l.leaving) then c
  else
    let code := if x.missing then l.code else x.code
    (c.setLoop te { l with code := code }).stage te ⟨c.frameStart + 2 * frameUnits, code, false, false⟩

/-- DRV (R90). -/
def execDrv (coach : Coach) (s : State) : Host.Outcome State Fault Refusal :=
  s.does (fun c => c.dispatch coach 0x0C 3 Core.drv)

/-- JMP: the instruction index from OPR (R90, R93). -/
def Core.jmp (c : Core) (x : CoachRec) : Core := c.setCoach (x.te / 256) { x with pc := bits x.opr 4 0 }

/-- JMP (R90). -/
def execJmp (coach : Coach) (s : State) : Host.Outcome State Fault Refusal :=
  s.does (fun c => c.dispatch coach 0x0D 2 Core.jmp)

/-! ### HOLD_CLEAR (R77) -/

/-- Whether a loop is in Hold for a cause that needs supervisor action (R72, R77). -/
def Loop.clearable (l : Loop) : Bool :=
  decide (l.st = .hold) && (decide (l.cause = causeFe) || decide (l.cause = causeAcq) || decide (l.cause = causeMajor))

/-- A request to clear a Hold waits for the next caboose (R77, R88). -/
def Loop.askClear (l : Loop) : Loop := if l.clearable then { l with clearReq := true } else l

/-- The caboose takes up a request: the loop leaves Hold; one whose link is down, or that owes steps since, stays there for the link
(R16, R77, R88). -/
def Loop.takeClear (l : Loop) (linkUp : Bool) : Loop :=
  if l.clearReq then
    let l := { l with clearReq := false }
    if l.clearable then (if linkUp then l.unhold else { l with cause := causeLink }) else l
  else l

/-- A write of HOLD_CLEAR: one TE, or FFFFh for every TE (R77). -/
def Core.holdClear (c : Core) (v : Nat) : Core :=
  if v = 0xFFFF then c.mapLoops (fun _ => true) (fun _ l => l.askClear)
  else if 9215 < v then c.ends abValue
  else c.modLoop v Loop.askClear

/-- HOLD_CLEAR (R77). -/
def execHoldClear (path : Path) (value : BitVec 16) (s : State) : Host.Outcome State Fault Refusal :=
  s.does (fun c => c.byActive path (fun c => c.holdClear value.toNat))

/-! ### Drift learning and reports (R74, R88) -/

/-- The drift model learns from a Locked loop's last loop frame, unless samples were missing in it (R14, R74, R88). -/
def Core.learn (c : Core) (te : Nat) : Core :=
  let l := c.loop te
  if l.st = .locked ∧ ¬ l.frozen ∧ ¬ l.gap then
    let dt := frameNs * c.glideStride
    let r := l.regr.add l.u (c.zoneTemp te)
    c.setLoop te { l with
      d := driftStep l.d (l.u - l.uPrev) (c.rd OD.DRIFT_TAU) dt
      kT := r.slope te
      regr := r
      clock := { l.clock with lockedNs := l.clock.lockedNs + dt } }
  else c

/-! ### Frame bookkeeping (R88) -/

/-- What the caboose keeps of a loop each frame: whether it is lit (R51), and a request to clear its Hold (R77). -/
def Loop.book (l : Loop) (lit linkUp : Bool) : Loop :=
  let l := { l with lit := lit }
  (if lit then l else l.unseen false 0).takeClear linkUp

/-- The link of an element is in service, and the element owes no steps since it was down (R16). -/
def Core.inService (c : Core) (te : Nat) : Bool := (c.link (teDie te)).up && !c.trav.owed.contains te

/-- Frame bookkeeping of the loops of a coach (R88). With no input lit no element is. -/
def Core.bookkeep (c : Core) (coach : Nat) : Core :=
  if c.inputs.any (fun p => decide (p.1 < 512) && p.2.lit) then
    (rangeFrom (256 * coach) 256).foldl (fun (c : Core) te => c.modLoop te (fun l => l.book (c.teLit te) (c.inService te))) c
  else c.mapLoops (fun te => decide (te / 256 = coach)) (fun te l => l.book false (c.inService te))

/-- LOOP_STATE of an element (R83). -/
def Core.loopState (c : Core) (te : Nat) : Nat :=
  let l := c.loop te
  let code := match l.rep with
    | .parked => 0 | .coast => 1 | .acquire => 2 | .locked => 3 | .hold => 4 | .trim => 5
  code + 16 * bn l.calFlag + 32 * bn l.lit + 64 * bn l.usable + 128 * bn l.sat + 256 * bn l.expired + 512 * bn l.frozen
    + 1024 * (if l.rep = .hold then l.cause else 0)

end Sys2Proof.Machine
end

