-- ==== Sys2Proof/Machine/Drive.lean ====
section
/-! DEFINITION. The die-to-die links and the drive channels: staging, the deglitcher, application of codes, ceilings,
clear codes and clears (R13 to R16, R103 to R119). -/

namespace Sys2Proof.Machine

/-! ### Drive channels -/

/-- The thermometer segments of a code, and the place on the ladder across one segment (R103). -/
def segment (code : Nat) : Nat := bits code 17 12
def ladder (code : Nat) : Nat := bits code 11 0

/-- V(n) = 24 V × n / 262,144, in 2^-15 V: 3 for each LSB, of which a segment has 4,096 (R103). -/
def codeVolts (code : Nat) : Nat := 3 * (4096 * segment code + ladder code)

/-- A die's supply by its last scan reading, from a code of 2^-k V to 2^-15 V; none before the first reading (R116, R126, log 54). -/
def Core.railVolts (c : Core) (src k : Nat) : Option Int :=
  if c.rd OD.SOURCE_TIME src = 0 then none else some (toSigned 32 (c.rd OD.SOURCE_VALUE src) * 2 ^ 15 / 2 ^ k)

/-- Whether a supply reads outside a range in mV. -/
def outside (v : Option Int) (lo hi : Int) : Bool := v.any (fun x => decide (x * 1000 < lo * 2 ^ 15 ∨ hi * 2 ^ 15 < x * 1000))

/-- The voltage of a channel, 2^-15 V: 0 V until the clear codes are loaded; else that of its code, but at or below 0.2 V while
VDD_HV or VDD_SENSE lies outside its operating range, and at or below VDD_HV - 0.5 V once that is below 24.5 V (R103, R116,
R398). -/
def Core.outputVolts (c : Core) (te : Nat) : Int :=
  let hv := c.railVolts (77 + teDie te) 18
  let sense := c.railVolts (72 + teDie te) 21
  let v : Int := codeVolts (c.driven te)
  if ¬ c.drivesUp then 0
  else
    let v := if outside hv 25500 26500 || outside sense 3200 3400 then min v 6553 else v
    match hv with
    | some x => if x * 1000 < 24500 * 2 ^ 15 then max 0 (min v (x - 2 ^ 14)) else v
    | none => v

/-- The apply instant of a staging entry: of the two instants with its low seconds bits that lie about module time, the
one within 16 s (R110). -/
def applyInstant (now tickSec tick : Nat) : Instant :=
  let sec := now / secondUnits
  let up := sec + (tickSec + 32 - sec % 32) % 32
  let t := up * secondUnits + nsU (10 * tick)
  if t ≤ now + 16 * secondUnits ∨ up < 32 then t else t - 32 * secondUnits

/-- A staging entry arrives at a die (R109 to R111, R114). -/
def Core.stagingEntry (c : Core) (die w : Nat) : Core :=
  let ch := bits w 63 52
  let te := 2304 * die + ch
  if c.clearing (2304 * die) ∨ (c.link die).up = false then c
  else if 2303 < ch ∨ 99999999 < bits w 28 2 then (c.inc OD.MALFORMED_ENTRIES).pulse (88 + die)
  else c.stage te ⟨applyInstant c.now (bits w 33 29) (bits w 28 2), bits w 51 34, bit w 1, bit w 0⟩

/-- STAGING_ENTRY (R111). -/
def execStagingEntry (die : Die) (entry : BitVec 64) (s : State) : Host.Outcome State Fault Refusal :=
  s.does (fun c => c.stagingEntry die entry.toNat)

/-- The code an entry applies: its own, or the ceiling where that is lower (R108); 0, for 0 V, until the clear codes are loaded
(R116). -/
def Core.applied (c : Core) (te : Nat) (e : StEntry) : Nat := if c.drivesUp then min e.code (c.ceiling te) else 0

/-- The DAC loads DEGLITCH_NS before the tick of an entry that changes the segment code, and the output is held (R105). -/
def Core.deglitch (c : Core) (te : Nat) : Core :=
  match (c.chan te).queue with
  | [] => c
  | e :: _ =>
    let t := e.at_ - nsU (c.rd OD.DEGLITCH_NS)
    if (c.chan te).loaded.isNone ∧ segment (c.applied te e) ≠ segment (c.driven te) ∧ t < c.frameEnd then
      (c.advanceTo t).setChan te { c.chan te with loaded := some (c.applied te e) }
    else c

/-- DEGLITCH_LOAD (R105). -/
def execDeglitchLoad (te : Te) (s : State) : Host.Outcome State Fault Refusal := s.does (fun c => c.deglitch te)

/-- The first queued entry whose tick lies in this frame is applied, clamped at the ceiling (R105, R108, R111). -/
def Core.codeApply (c : Core) (te : Nat) : Core :=
  match (c.chan te).queue with
  | [] => c
  | e :: r =>
    if e.at_ < c.frameEnd then
      let c := ((c.advanceTo e.at_).setChan te ⟨r, none⟩).wr OD.DRIVE_CODE te (c.applied te e)
      let c := if c.ceiling te < e.code then (c.inc OD.CEILING_VIOLATIONS).pulse (84 + teDie te) else c
      if e.last then c.inc OD.MOVE_DONE else c
    else c

/-- CODE_APPLY (R105). -/
def execCodeApply (te : Te) (s : State) : Host.Outcome State Fault Refusal := s.does (fun c => c.codeApply te)

/-- The abort of a write to CEILING, 0 if it is accepted: judged against the code in force (R107). -/
def Core.ceilingCheck (c : Core) (te v : Nat) : Nat :=
  if c.rd OD.FACTORY_CEILING te < v ∨ v < c.clearCode te ∨ (v < c.driven te ∧ (c.loop te).st ≠ .parked) then abValue else 0

/-- An RW write of one element that a check may refuse: 0 accepts it for the next boundary (R7, R287). -/
def Core.rwWrite (c : Core) (obj e v abort : Nat) : Core := if abort = 0 then c.defer obj e v else c.ends abort

/-- CEILING_WRITE (R107). -/
def execCeilingWrite (path : Path) (te : Te) (value : BitVec 32) (s : State) : Host.Outcome State Fault Refusal :=
  s.does (fun c => c.byActive path (fun c => c.rwWrite OD.CEILING te value.toNat (c.ceilingCheck te value.toNat)))

/-- The abort of a write to CLEAR_CODE (R115). -/
def Core.clearCodeCheck (c : Core) (te v : Nat) : Nat :=
  if c.ceiling te < v ∨ (8704 ≤ te ∧ v ≠ 0) then abValue else 0

/-- CLEAR_CODE_WRITE (R115). -/
def execClearCodeWrite (path : Path) (te : Te) (value : BitVec 32) (s : State) : Host.Outcome State Fault Refusal :=
  s.does (fun c => c.byActive path (fun c => c.rwWrite OD.CLEAR_CODE te value.toNat (c.clearCodeCheck te value.toNat)))

/-! ### CLEAR_N (R113, R114) -/

/-- The dies that take a CLEAR_N pulse: none below 50 ns, all from 100 ns on, between the two each on its own, a free
value (R113, log 4). -/
def clearTakers (widthNs draw : Nat) : List Nat :=
  if widthNs < 50 then [] else if 100 ≤ widthNs then [0, 1, 2, 3] else [0, 1, 2, 3].filter (bit draw)

/-- CLEAR_N is held low (R113). -/
def Core.clearN (c : Core) (widthNs : Nat) : Core :=
  let dies := clearTakers widthNs c.draw
  let c := if 50 ≤ widthNs ∧ widthNs < 100 then c.drawn else c
  let c := c.set OD.CLEAR_N_LEVEL 0
  if dies.isEmpty then c
  else
    let c := ((c.assertClear dies).ttHalt 4).inc OD.CLEAR_COUNT
    let c := { c with trav := { c.trav with clearDies := dies } }
    (if c.trav.internalClear then c else c.set OD.CLEAR_STATE 1).hold 93

/-- CLEAR_N_ASSERT (R113). -/
def execClearNAssert (widthNs : Nat) (s : State) : Host.Outcome State Fault Refusal := .next (s.pin (fun c => c.clearN widthNs))

/-- CLEAR_N returns high: the elements stay Parked, and a restore is pending (R114). -/
def Core.clearNRelease (c : Core) : Core :=
  let c := (if c.rd OD.CLEAR_STATE = 1 then c.set OD.CLEAR_STATE 3 else c).set OD.CLEAR_N_LEVEL 1
  { c.drop 93 with trav := { c.trav with clearDies := [] } }

/-- CLEAR_N_RELEASE (R114). -/
def execClearNRelease (s : State) : Host.Outcome State Fault Refusal := .next (s.pin Core.clearNRelease)

/-! ### Links (R13 to R16, R112) -/

/-- Whether a configuration of lanes is in service (R13). -/
def linkServes (lanes : Nat) (half : Bool) : Bool := decide (lanes = 4) || (decide (2 ≤ lanes) && !half)

/-- LINK_FLIT_REPLAY: a flit that fails its CRC is resent (R13). -/
def execLinkFlitReplay (link : Die) (s : State) : Host.Outcome State Fault Refusal :=
  s.does (fun c => if (c.link link).up then c.setLink link { c.link link with replays := (c.link link).replays + 1 } else c)

/-- An element that a traverse has moved loses the last of its steps with its link: its set-point is the one that its code in force
stands for, and one that was to leave Parked stays there until it has taken the steps it owes (R16, R112, R194). -/
def Loop.loseSteps (l : Loop) (left : Nat) : Loop :=
  if l.st = .parked then { l with leaving := false, frozen := false }
  else { l with sp := l.spFrom + idivFree ([4, 3, 1, 0].getD left 0 * (l.sp - l.spFrom)) 4 }

/-- The steps of a traverse that wait in a channel, and whether the traverse has executed (R20). -/
def Chan.steps (x : Chan) (now : Instant) : Nat × Bool :=
  let es := x.queue.filter (·.seq)
  (es.length, decide (es.length < 3) || es.any (fun e => decide (e.at_ ≤ now)))

/-- A link goes down: the die discards its queues and keeps its codes, and its loops enter Hold; elements whose steps of a traverse
it discards owe them (R16, R112). -/
def Core.linkDown (c : Core) (d : Nat) : Core :=
  if (c.link d).up then
    let c := c.setLink d { c.link d with up := false, missNow := false, missFrames := 0, releaseDue := false, restoreAt := 0 }
    let cut := c.chans.filter (fun p => decide (teDie p.1 = d) && p.2.queue.any (·.seq) && c.trav.release.all (·.stepped.isNone))
    let c := cut.foldl (fun (c : Core) p =>
      if (p.2.steps c.now).2 then c.modLoop p.1 (fun l => l.loseSteps (p.2.steps c.now).1) else c) c
    let lost := (cut.map (·.1)).filter (fun te => !c.trav.owed.contains te)
    let c := { c with chans := c.chans.filter (fun p => decide (teDie p.1 ≠ d)), trav := { c.trav with owed := c.trav.owed ++ lost } }
    ((c.holdLoops (fun te => decide (teDie te = d)) causeLink).drop (76 + d)).hold (64 + d)
  else c

/-- LINK_DOWN (R112). -/
def execLinkDown (link : Die) (s : State) : Host.Outcome State Fault Refusal := s.does (fun c => c.linkDown link)

/-- A link returns to service, or goes on with another configuration; a configuration out of service is a link down
(R13, R16). A link whose test points are in use stays out of service (R391). -/
def Core.linkReturn (c : Core) (d lanes : Nat) (half : Bool) : Core :=
  if c.linkTested d then c
  else if linkServes lanes half then
    let x := c.link d
    let c := c.setLink d (if x.up then { x with lanes := lanes, half := half }
      else { x with up := true, lanes := lanes, half := half, returnUp := c.up, releaseDue := true })
    (c.drop (64 + d)).follow (76 + d) (half || decide (lanes ≠ 4))
  else (c.linkDown d)

/-- LINK_RETURN (R16). -/
def execLinkReturn (link : Die) (lanes : Fin 5) (half : Bool) (s : State) : Host.Outcome State Fault Refusal :=
  s.does (fun c => c.linkReturn link lanes half)

/-- Samples from one link are missing in four consecutive frames: every loop of the die enters Hold at its next slot
(R14, R77). -/
def Core.samplesMissing (c : Core) (d : Nat) : Core :=
  let x := c.link d
  if x.up ∧ 4 ≤ x.missFrames + bn x.missNow then
    (c.holdSoon (fun te => decide (teDie te = d)) causeLink).hold (68 + d)
  else c

/-- LINK_SAMPLES_MISSING (R14). -/
def execLinkSamplesMissing (link : Die) (s : State) : Host.Outcome State Fault Refusal := s.does (fun c => c.samplesMissing link)

/-- What a frame boundary does for a link: frames with missing results are counted, and the loops that it held leave Hold
once it is back, but for the elements that owe steps (R14, R16). -/
def Core.linkBoundary (c : Core) (d : Nat) : Core :=
  let x := c.link d
  let back := x.up && !x.missNow && decide (4 ≤ x.missFrames)
  let c := if back then c.drop (68 + d) else c
  let release := x.up && (x.releaseDue || back)
  let owed := c.trav.owed
  let c := if release then c.mapLoops (fun te => decide (teDie te = d) && !owed.contains te) (fun _ l => l.releaseFrom causeLink)
    else c
  let done := decide (x.restoreAt ≠ 0 ∧ x.restoreAt ≤ c.frames)
  let dark := fun te => decide (8704 ≤ te) && isDark (mapEntry c.act (te - 8704))
  let c := if done then
      { c.mapLoops (fun te => decide (teDie te = d) && owed.contains te)
          (fun te l => if l.st = .parked then (if dark te then l else { l with leaving := true }) else l.releaseFrom causeLink) with
        trav := { c.trav with owed := owed.filter (fun te => decide (teDie te ≠ d)) } }
    else c
  if x = Link.reset then c
  else c.setLink d { x with missNow := false, missFrames := if x.missNow then x.missFrames + 1 else 0,
                            releaseDue := x.releaseDue && !release, restoreAt := if done then 0 else x.restoreAt }

end Sys2Proof.Machine
end

