-- ==== Sys2Proof/Machine/Ucode.lean ====
section
/-! DEFINITION. Microcode: the selection check, images and their verification, the load sequence, activation and keys
(R91 to R100, R102). -/

namespace Sys2Proof.Machine

/-! ### The selection check (R91) -/

/-- The sections a program slot runs: BIQ 0 up to the highest n without a gap (R91). `prog` gives the instruction words,
32 to a slot. -/
def sectionsRun (prog : Nat → Nat) (slot : Nat) : Nat :=
  let has := fun n => (List.range 32).any (fun m =>
    let w := prog (32 * slot + m)
    decide (bits w 15 10 = 5 ∧ bits w 2 0 = n))
  ((List.range 6).takeWhile has).length

/-- Whether a LOOP_SELECT word cannot run: its slot is empty, or a set of it has more sections than the program runs
(R91). -/
def selectBad (st : Tab Nat) (prog : Nat → Nat) (filled : Nat → Bool) (w : Nat) : Bool :=
  let slot := bits w 15 12
  let nsec := fun k => bits (storeGet st (okey OD.COEF_SET (40 * k))) 2 0
  !filled slot || decide (sectionsRun prog slot < nsec (bits w 11 6)) || decide (sectionsRun prog slot < nsec (bits w 5 0))

/-- The lowest TE that a configuration set refuses under R91. -/
def firstMismatch (st : Tab Nat) (prog : Nat → Nat) (filled : Nat → Bool) : Option Nat :=
  let words := [0x0001, 0x1083, 0x2105] ++ (storeListed st OD.LOOP_SELECT).map (·.2)
  if words.any (selectBad st prog filled) then
    (List.range 9216).find? (fun te => selectBad st prog filled (storeGet st (okey OD.LOOP_SELECT te)))
  else none

/-- Programs and filled slots of the active image. -/
def Core.progNow (c : Core) (i : Nat) : Nat := c.rd OD.PROGRAM_STORE i
def Core.filledNow (c : Core) (k : Nat) : Bool := c.rd OD.PROGRAM_BUDGET k != 0

/-! ### Images (R96) -/

/-- Instruction i of an image's program slots. -/
def imgProg (img : List Nat) (i : Nat) : Nat :=
  let w := imgWord img (72 + i / 2)
  if i % 2 = 0 then bits w 15 0 else bits w 31 16

/-- Whether an image fills a slot. -/
def imgFilled (img : List Nat) (k : Nat) : Bool := bit (imgWord img 7) k

/-- A path count from a microaddress on: the clocks of the longest path to a dispatching microword, whether some path loads the
machine program counter on its way, and whether some path does not (R93, R94). -/
structure PathLen where
  clocks : Nat
  loads : Bool
  plain : Bool
deriving DecidableEq, Repr

/-- Two ways on from a branch. -/
def PathLen.join (a b : PathLen) : PathLen := ⟨max a.clocks b.clocks, a.loads || b.loads, a.plain || b.plain⟩

/-- A word in front of a path. -/
def PathLen.after (w : Nat) (a : PathLen) : PathLen :=
  ⟨a.clocks + uwClocks w, a.loads || uwLoadsMpc w, a.plain && !uwLoadsMpc w⟩

/-- What the operand of an instruction tells of its routine's registers and flags as a path goes on: the values of V0 to CODE and of Z,
N and V where they follow from the operand alone, none where they do not (R94's operand-dependent counts). -/
structure Known where
  regs : Tab Int
  z : Option Bool
  n : Option Bool
  v : Option Bool
deriving DecidableEq, Repr

/-- A source register's known value. -/
def Known.src (k : Known) (opr imm r : Nat) : Option Int :=
  match r with
  | 0 => some 0
  | 14 => some (opr : Int)
  | 15 => some (toSigned 12 imm)
  | _ => Tab.find? k.regs r

/-- A result in DST, within its width, and the flags of it. -/
def Known.put (k : Known) (dst : Nat) (x : Option Int) (v : Option Bool) : Known :=
  let rest := k.regs.filter (fun p => p.1 != dst)
  let w := fun (i : Int) => if dst = 9 then wrapTo 40 i else if dst = 13 then ofSigned 18 i else wrapTo 32 i
  ⟨match x with
    | some i => if dst = 0 ∨ 14 ≤ dst then rest else Tab.set rest dst (w i)
    | none => rest,
   x.map (fun i => decide (i = 0)), x.map (fun i => decide (i < 0)), v⟩

/-- A microword on what is known: the classes that compute with their sources alone pass it on, of the others nothing is known
(R92, log 15). -/
def Known.word (k : Known) (opr w : Nat) : Known :=
  let a := k.src opr (uwAddr w) (uwSrcA w)
  let b := k.src opr (uwAddr w) (uwSrcB w)
  let both := fun {α : Type} (f : Int → Int → α) => a.bind (fun x => b.map (f x))
  let code := uwOp w * 4096 + uwAddr w
  match uwOp w with
  | 0 => k.put (uwDst w) a (some false)
  | 1 | 2 | 6 => k.put (uwDst w) (both (Config.microResult code)) (both (fun x y => bit (Config.microFlags code x y) 2))
  | 3 => k.put (uwDst w) (both (fun x y => wrapTo 16 x * wrapTo 16 y)) (some false)
  | 8 => k.put 10 none k.v
  | 9 | 11 | 12 => k
  | 13 => if uwLoadsMpc w then k else k.put (uwDst w) none none
  | 14 => { k with z := both (fun x y => bit (Config.microFlags code x y) 0)
                   n := both (fun x y => bit (Config.microFlags code x y) 1)
                   v := both (fun x y => bit (Config.microFlags code x y) 2) }
  | _ => ((k.put 10 none none).put 9 none none).put (uwDst w) none none

/-- The way a branch goes where the operand decides it: TRUE is set; none where both ways count (R94, log 15). -/
def Known.branch (k : Known) (w : Nat) : Option Bool :=
  match uwSrcB w with
  | 0 => k.z
  | 1 => k.n
  | 2 => k.v
  | 15 => some true
  | _ => none

/-- The path count of a routine from a microaddress on for an operand. None where a path leaves the store or does not go forward
(R94, R95). -/
def microPath (store : List Nat) (opr : Nat) : Nat → Nat → Known → Option PathLen
  | 0, _, _ => none
  | n + 1, a, k =>
    match store[a]? with
    | none => none
    | some w =>
      let next := fun (_ : Unit) => microPath store opr n (a + 1) (k.word opr w)
      let jump := fun (_ : Unit) => if a < uwAddr w then microPath store opr n (uwAddr w) (k.word opr w) else none
      (match uwSeq w with
        | 0 => next ()
        | 1 => match k.branch w with
          | some true => jump ()
          | some false => next ()
          | none => match next (), jump () with | some x, some y => some (x.join y) | _, _ => none
        | 2 => some ⟨0, false, true⟩
        | _ => jump ()).map (PathLen.after w)

/-- The path count of an instruction by the routine its dispatch entry names (R93, R94). -/
def instrPath (img : List Nat) (w : Nat) : Option PathLen :=
  microPath (imgStore img) (bits w 9 0) (imgStore img).length (imgEntry img (bits w 15 10)) ⟨[], none, none, none⟩

/-- Whether an instruction can branch to the target in its operand, and whether it can go on with the next: NRM and JMP do so by
R90, any other where its routine loads the program counter, and END ends the program (R90, R93). -/
def instrExits (op : Nat) (p : PathLen) : Bool × Bool :=
  match op with
  | 0 => (false, false)
  | 2 => (true, true)
  | 0x0D => (true, false)
  | _ => (p.loads, p.plain)

/-- The longest instruction paths to END from instruction i of a slot on (R94). -/
def progLens (path : Nat → Option PathLen) (i : Nat) : List Nat → List (Option Nat)
  | [] => []
  | w :: r =>
    let rest := progLens path (i + 1) r
    let next := (rest.head?).getD none
    let jump := if i < bits w 4 0 then (rest[bits w 4 0 - i - 1]?).getD none else none
    let count := match path w with
      | none => none
      | some p =>
        let more := match bits w 15 10, instrExits (bits w 15 10) p with
          | 0, _ => some 0
          | _, (true, true) => match next, jump with | some x, some y => some (max x y) | _, _ => none
          | _, (true, false) => jump
          | _, _ => next
        more.map (· + p.clocks)
    count :: rest

/-- The worst case of a slot of an image, none where it cannot be counted (R94). -/
def slotWorst (img : List Nat) (k : Nat) : Option Nat :=
  ((progLens (instrPath img) 0 ((List.range 32).map (fun m => imgProg img (32 * k + m)))).head?).getD none

/-- The class minimum of a microword's clocks (R92). -/
def minClocks (uop : Nat) : Nat := if uop = 6 ∨ uop = 7 ∨ uop = 0xA ∨ uop = 0xF then 2 else 1

/-- Defects of the header (R96). -/
def headerBad (img : List Nat) : Option Nat :=
  let n := imgWord img 4
  if imgWord img 0 ≠ 0x50585543 then some 0 else if imgWord img 1 ≠ 1 then some 1
  else if n = 0 ∨ 4096 < n then some 4 else if n ≤ imgWord img 5 then some 5
  else if 1 < imgWord img 6 then some 6 else if 0xFFFF < imgWord img 7 then some 7 else none

/-- The first opcode whose dispatch entry is neither FFFh nor within the store (R95). -/
def entryBad (img : List Nat) : Option Nat :=
  (List.range 64).find? (fun i => decide (0xFFF < imgWord img (8 + i)) ||
    (decide (imgEntry img i ≠ 0xFFF) && decide (imgWord img 4 ≤ imgEntry img i)))

/-- Whether instruction m of a slot is at fault: an opcode without a routine, a reserved operand, a branch that does not
go forward in the slot (R95). A reserved opcode 0Eh to 1Fh is at fault even where its dispatch entry is filled (DESIGN CHOICE: the
spec calls them reserved only, log 51). -/
def instrBad (img : List Nat) (m w : Nat) : Bool :=
  let op := bits w 15 10
  let opr := bits w 9 0
  decide (imgEntry img op = 0xFFF) ||
  (match op with
    | 0x00 => decide (opr ≠ 0)
    | 0x01 => decide (1 < opr)
    | 0x02 => decide (bits opr 7 5 ≠ 0 ∨ 1 < bits opr 9 8 ∨ bits opr 4 0 ≤ m)
    | 0x03 => decide (1 < opr)
    | 0x04 => decide (1 < opr)
    | 0x05 => decide (5 < opr)
    | 0x0D => decide (bits opr 9 5 ≠ 0 ∨ bits opr 4 0 ≤ m)
    | _ =>
      if 6 ≤ op ∧ op ≤ 0x0C then decide (opr ≠ 0) else decide (op < 0x20)) ||
  (decide (op ≠ 0 ∧ op ≠ 2 ∧ op ≠ 0x0D) && (instrPath img w).any (·.loads) && decide (bits opr 4 0 ≤ m))

/-- The instructions of a slot with their numbers. -/
def numbered : Nat → List Nat → List (Nat × Nat)
  | _, [] => []
  | m, w :: r => (m, w) :: numbered (m + 1) r

/-- The image word offset of the first instruction at fault in the filled slots, or of a slot without a reachable END
(R95). -/
def programBad (img : List Nat) : Option Nat :=
  ((List.range 16).filter (imgFilled img)).findSome? (fun k =>
    let ws := (List.range 32).map (fun m => imgProg img (32 * k + m))
    match (numbered 0 ws).find? (fun p => (decide (p.2 ≠ 0) || decide (imgEntry img 0 = 0xFFF)) && instrBad img p.1 p.2) with
    | some p => some (72 + 16 * k + p.1 / 2)
    | none => if (slotWorst img k).isNone then some (72 + 16 * k) else none)

/-- The image word offset of the first microword at fault (R95). -/
def microBad (img : List Nat) : Option Nat :=
  let n := imgWord img 4
  ((List.range n).find? (fun a =>
    let w := imgWord img (328 + a)
    let target := bits w 11 0
    let seq := bits w 25 24
    decide (bits w 27 26 + 1 < minClocks (bits w 31 28)) ||
      ((decide (seq = 1) || decide (seq = 3)) && (decide (target ≤ a) || decide (n ≤ target))))).map (328 + ·)

/-- The signature words of an image as a number (R96). -/
def sigPart (img : List Nat) (k : Nat) : Nat := (List.range 8).foldl (fun v i => v * 2 ^ 32 + imgWord img (k + i)) 0

/-- Whether the signature of an image verifies under the key it names (R97). -/
def Core.signed (c : Core) (img : List Nat) : Bool :=
  let n := 328 + imgWord img 4
  let msg := ((List.range n).map (imgWord img)).flatMap (beBytes 4)
  let key := if imgWord img 6 = 0 then some Config.factoryKey else c.ucode.ownerKey
  match key with
  | none => false
  | some k => ecdsaVerify k msg (sigPart img n) (sigPart img (n + 8))

/-- The shadow set of a commit that is pending, which will be active at its T (R91). -/
def Core.pendingSet (c : Core) : Option (Tab Nat) :=
  match c.trav.cur with
  | some k => if k.slot.isNone ∧ ¬ k.suspended then some c.shd else none
  | none => none

/-- The lowest TE that an image refuses under R91: in the active set, or in the set of a pending commit, which the image will run
from T on. The active set counts even where the pending commit replaces it before the image's instant (DESIGN CHOICE, log 53). -/
def Core.mismatchUnder (c : Core) (img : List Nat) : Option Nat :=
  let m := fun st => firstMismatch st (imgProg img) (imgFilled img)
  match m c.act, c.pendingSet.bind m with
  | some a, some b => some (min a b)
  | some a, none => some a
  | none, r => r

/-- Abort and LOAD_DETAIL of a verification, 0 and 0 on a pass: the budget, the structure, the signature, the selection,
in that order (R94, R95, R97, R98). -/
def Core.verify (c : Core) (img : List Nat) : Nat × Nat :=
  let detail := fun kind whr => kind * 2 ^ 24 + whr
  let head := headerBad img
  let above := ((List.range 16).filter (imgFilled img)).findSome? (fun k =>
    match slotWorst img k with
    | some n => if 92 < n then some (k * 2 ^ 20 + n % 256) else none
    | none => none)
  let cab := Config.cabooseCycles (imgStore img) (imgWord img 5)
  match head with
  | some w => (abStructure, detail 2 w)
  | none =>
    match above with
    | some w => (abBudget, detail 6 w)
    | none =>
      if 1448 < cab then (abBudget, detail 7 (cab % 8192))
      else match entryBad img with
        | some i => (abStructure, detail 3 (8 + i))
        | none => match programBad img with
          | some w => (abStructure, detail 4 w)
          | none => match microBad img with
            | some w => (abStructure, detail 5 w)
            | none =>
              if c.signed img = false then (abSignature, detail 1 0)
              else match c.mismatchUnder img with
                | some te => (abSelection, detail 8 te)
                | none => (0, 0)

/-! ### The load sequence (R98) -/

/-- LOAD_STATE. -/
def Core.loadState (c : Core) : Nat := c.rd OD.LOAD_STATE

/-- Words written into the receive buffer (R98). The first write of a load empties it, so that a word of an image that is never
written reads 0 (DESIGN CHOICE: the spec says neither, log 51). -/
def Core.imageWrite (c : Core) (e w : Nat) : Core :=
  if 4439 < e then c.ends abOffset
  else if c.loadState = 2 ∨ c.loadState = 3 then c.ends abRunning
  else
    let c := if c.loadState = 1 then c else { c.set OD.LOAD_STATE 1 with ucode := { c.ucode with buffer := [] } }
    { c with ucode := { c.ucode with buffer := Tab.set c.ucode.buffer e w } }

/-- UCODE_IMAGE_WRITE (R98). -/
def execUcodeImageWrite (path : Path) (element : Nat) (word : BitVec 32) (s : State) : Host.Outcome State Fault Refusal :=
  s.does (fun c => c.byActive path (fun c => c.imageWrite element word.toNat))

/-- LOAD_CMD 1 and 2: verification of what has been received starts (R98). -/
def Core.loadVerify (c : Core) (arm : Bool) : Core :=
  if c.loadState = 1 then { c.set OD.LOAD_STATE 2 with ucode := { c.ucode with arming := arm } } else c.ends abRunning

/-- LOAD_VERIFY (R98). -/
def execLoadVerify (path : Path) (s : State) : Host.Outcome State Fault Refusal :=
  s.does (fun c => c.byActive path (fun c => c.loadVerify false))

/-- LOAD_VERIFY_ARM (R98). -/
def execLoadVerifyArm (path : Path) (s : State) : Host.Outcome State Fault Refusal :=
  s.does (fun c => c.byActive path (fun c => c.loadVerify true))

/-- LOAD_CMD 3 (R98, R100). -/
def Core.loadAbandon (c : Core) : Core :=
  if c.loadState = 1 ∨ c.loadState = 3 ∨ c.loadState = 4 then
    { c.set OD.LOAD_STATE 0 with ucode := { c.ucode with armed := none, activateAt := none, suspended := false } }
  else c.ends abRunning

/-- LOAD_ABANDON (R98). -/
def execLoadAbandon (path : Path) (s : State) : Host.Outcome State Fault Refusal :=
  s.does (fun c => c.byActive path Core.loadAbandon)

/-- The event of a verification or a failed activation (R300, KIND 0005h). -/
def Core.emitLoad (c : Core) : Core :=
  c.emit 5 OD.LOAD_STATE (be 1 c.loadState ++ be 3 0 ++ be 4 (c.rd OD.LOAD_RESULT))

/-- The first boundary at or after now + 2 frames (R41, R99). -/
def Core.leadBoundary (c : Core) : Instant := boundaryFrom (c.now + 2 * frameUnits)

/-- The received words as an image of the length its header states (R96). -/
def Core.received (c : Core) : List Nat :=
  let n := min (Tab.get c.ucode.buffer 4 0) 4096
  (List.range (344 + n)).map (fun i => Tab.get c.ucode.buffer i 0)

/-- The activation instant that an ACTIVATE_AT value names when it is read at arming; one inside the lead is taken as 0
(R99, log 16). -/
def Core.activationOf (c : Core) (v : Nat) : Instant :=
  if v ≠ 0 ∧ c.now + 2 * frameUnits ≤ ofTime64 v then ofTime64 v else c.leadBoundary

/-- Verification ends (R98). Arming writes the standby bank, and its first word takes an inversion that waits for it (R342). -/
def Core.verifyEnd (c : Core) : Core :=
  if c.loadState ≠ 2 then c
  else
    let img := c.received
    let r := c.verify img
    let c := (c.set OD.LOAD_RESULT r.1).set OD.LOAD_DETAIL r.2
    let c := if r.1 = abSelection then c.set OD.FIRST_MISMATCH (bits r.2 13 0) else c
    if r.1 ≠ 0 then ((c.set OD.LOAD_STATE 4).inc OD.REJECTS).emitLoad
    else if c.ucode.arming then
      let c := (c.eccWrite 8 shadowMark).set OD.LOAD_STATE 3
      { c with ucode := { c.ucode with armed := some img, suspended := false
                                       activateAt := some (c.activationOf (c.rdNext OD.ACTIVATE_AT)) } }.emitLoad
    else (c.set OD.LOAD_STATE 0).emitLoad

/-- UCODE_VERIFY_END (R98). -/
def execUcodeVerifyEnd (s : State) : Host.Outcome State Fault Refusal := s.does Core.verifyEnd

/-- A write of ACTIVATE_AT (R99, R100, R322). -/
def Core.activateAtWrite (c : Core) (v : Nat) : Core :=
  let t := ofTime64 v
  if c.ucode.suspended ∧ c.rd OD.UNSYNCHRONIZED = 1 then c.ends abExport
  else if v ≠ 0 ∧ (time64Valid v = false ∨ isBoundary t = false) then c.ends abValue
  else if v ≠ 0 ∧ c.timeState = tsFree then c.ends abFree
  else if v ≠ 0 ∧ c.now + 86400 * secondUnits < t then c.ends abValue
  else if v ≠ 0 ∧ t < c.now + 2 * frameUnits then c.ends abLead
  else
    let c := c.defer OD.ACTIVATE_AT 0 v
    if c.loadState = 3 then
      { c with ucode := { c.ucode with suspended := false, activateAt := some (if v = 0 then c.leadBoundary else t) } }
    else c

/-- ACTIVATE_AT_WRITE (R99). -/
def execActivateAtWrite (path : Path) (value : BitVec 112) (s : State) : Host.Outcome State Fault Refusal :=
  s.does (fun c => c.byActive path (fun c => c.activateAtWrite value.toNat))

/-- An armed image becomes the active one: programs, budgets and identity (R99, R102). -/
def Core.install (c : Core) (img : List Nat) : Core :=
  let c := (List.range 512).foldl (fun (c : Core) i =>
    c.wr OD.PROGRAM_STORE i (if imgFilled img (i / 32) then imgProg img i else 0)) c
  let c := (List.range 16).foldl (fun (c : Core) k =>
    c.wr OD.PROGRAM_BUDGET k (if imgFilled img k then (slotWorst img k).getD 0 else 0)) c
  ((c.set OD.ACTIVE_IMAGE_ID (imgWord img 2)).set OD.ACTIVE_VERSION (imgWord img 3)).set OD.ACTIVE_KEY_ID (imgWord img 6)

/-- The lowest TE that an activation refuses: in the set that will be active there, or in that of a commit pending for later
(R91, R99). -/
def Core.mismatchAt (c : Core) (st : Tab Nat) (img : List Nat) : Option Nat :=
  let m := fun st => firstMismatch st (imgProg img) (imgFilled img)
  (m st).or (if c.trav.cur.any (fun k => decide (c.now < k.t)) then c.pendingSet.bind m else none)

/-- Activation at a boundary, under the configuration set that will be active there; suspended where no supervisor is in
charge (R99, R100). The image stays the boot image until another is activated (R98). A check that fails leaves LOAD_DETAIL and
REJECTS as they are (DESIGN CHOICE: R99 names the state, LOAD_RESULT and the event alone, log 53). -/
def Core.activate (c : Core) (st : Tab Nat) : Core :=
  match c.ucode.armed, c.ucode.activateAt with
  | some img, some t =>
    if c.now < t then c
    else if c.inCharge = false then { c with ucode := { c.ucode with suspended := true, activateAt := none } }
    else match c.mismatchAt st img with
      | some te =>
        let c := ((c.set OD.LOAD_STATE 4).set OD.LOAD_RESULT abSelection).set OD.FIRST_MISMATCH te
        { c with ucode := { c.ucode with armed := none, activateAt := none } }.emitLoad
      | none =>
        let c := ((c.install img).inc OD.LOADS).set OD.LOAD_STATE 0
        -- the banks swap, and with them the check bits of coach 0's store (R99, R342)
        let m := Tab.get c.faults.eccWords shadowMark 0
        let c := { c with faults := { c.faults with eccWords := Tab.put (Tab.put c.faults.eccWords shadowMark 0 0) 0 m 0 } }
        { c with ucode := { c.ucode with active := some img, boot := some img, armed := none, activateAt := none } }
  | _, _ => c

/-! ### Keys (R97) -/

/-- A write of OWNER_KEY (R97). -/
def Core.ownerKeyWrite (c : Core) (v : Nat) : Core :=
  if c.rd OD.OWNER_KEY_SET = 1 then c.ends abRunning
  else { c.set OD.OWNER_KEY_SET 1 with ucode := { c.ucode with ownerKey := some v } }

/-- OWNER_KEY_WRITE (R97). -/
def execOwnerKeyWrite (path : Path) (value : BitVec 512) (s : State) : Host.Outcome State Fault Refusal :=
  s.does (fun c => c.byActive path (fun c => c.ownerKeyWrite value.toNat))

/-- A write of OWNER_KEY_CLEAR (R97). -/
def Core.ownerKeyClear (c : Core) (v : Nat) : Core :=
  if v ≠ 1 then c.ends abValue
  else if c.power ≠ psMaint then c.ends abRole
  else { c.set OD.OWNER_KEY_SET 0 with ucode := { c.ucode with ownerKey := none } }

/-- OWNER_KEY_CLEAR (R97). -/
def execOwnerKeyClear (path : Path) (value : BitVec 8) (s : State) : Host.Outcome State Fault Refusal :=
  s.does (fun c => c.byActive path (fun c => c.ownerKeyClear value.toNat))

end Sys2Proof.Machine
end

