-- ==== Sys2Proof/Machine/Traverse.lean ====
section
/-! DEFINITION. Traverses: what moves, the staged steps, glides, commits and their outcomes, the swap of the configuration
sets and copy-back, and the caboose (R20, R88, R187 to R206). -/

namespace Sys2Proof.Machine

/-! ### The set that becomes active -/

/-- A configuration set with the map and the settings of a slot in place of its own (R214). -/
def Core.withSlot (c : Core) (st : Tab Nat) (n : Nat) : Tab Nat :=
  let base := st.filter (fun p => decide (okeyObj p.1 ≠ OD.CONN_MAP) && decide (okeyObj p.1 ≠ settingsObj))
  let m := ((storeListed c.regs OD.SLOT_MAP).filter (fun p => decide (p.1 / 512 = n))).foldl
    (fun t p => storePut t (okey OD.CONN_MAP (p.1 % 512)) p.2) base
  ((storeListed c.regs OD.SLOT_SETTINGS).filter (fun p => decide (p.1 / 136 = n))).foldl
    (fun t p => storePut t (okey settingsObj (p.1 % 136)) p.2) m

/-- The configuration set that a traverse makes active. -/
def Core.newSet (c : Core) (k : Commit) : Tab Nat :=
  match k.slot with
  | none => c.shd
  | some n => c.withSlot c.act n

/-! ### What changes (R193) -/

/-- Cells whose setting differs between two sets. -/
def changedCells (a n : Tab Nat) : List Nat :=
  (List.range 136).flatMap (fun w =>
    let x := setWords a w
    let y := setWords n w
    if x = y then [] else (List.range 32).filterMap (fun j => if bit x j = bit y j then none else some (32 * w + j)))

/-- Outputs listed in either map, rising; every other output is Dark in both. -/
def listedOutputs (a n : Tab Nat) : List Nat :=
  (List.range 512).filter (fun o => !isDark (mapEntry a o) || !isDark (mapEntry n o))

/-- Whether a circuit's path, under the old settings, passes a cell that changes (R215). -/
def pathHit (a : Tab Nat) (cells : List Nat) (input : Nat) : Bool :=
  !cells.isEmpty && (pathOf (setWords a) input).1.any (fun c => cells.contains c)

/-- A circuit of both maps that is disturbed (R179, R215). -/
def disturbed (a n : Tab Nat) (cells : List Nat) (o : Nat) : Bool :=
  let x := mapEntry a o
  let y := mapEntry n o
  !isDark x && !isDark y && decide (entryInput x = entryInput y) && pathHit a cells (entryInput x)

/-- An output whose circuit is added, removed, given another input, or disturbed. -/
def altered (a n : Tab Nat) (cells : List Nat) (o : Nat) : Bool :=
  let x := mapEntry a o
  let y := mapEntry n o
  (isDark x != isDark y) || (!isDark x && !isDark y && decide (entryInput x ≠ entryInput y)) || disturbed a n cells o

/-- The map entry whose METHOD moves an output's circuit: the new one, or the old one of a darkened output. -/
def methodEntry (a n : Tab Nat) (o : Nat) : Nat := if isDark (mapEntry n o) then mapEntry a o else mapEntry n o

/-- A circuit with an end at a lane (R203). -/
def laneCircuit (entry o : Nat) : Bool := decide (384 ≤ o) || decide (384 ≤ entryInput entry)

/-- Whether an output's circuit moves by glide (R193, R203). -/
def glides (a n : Tab Nat) (o : Nat) : Bool :=
  let e := methodEntry a n o
  entryGlides e && !laneCircuit e o

/-- How the VOA of an output takes part in a traverse. -/
inductive VoaMove where
  | none
  /-- Snap to the new target. -/
  | snap
  /-- To the clear code: a darkened output. -/
  | dark
  /-- To, or held at, the floor of the new path, with a ramp-up to follow. -/
  | floor
  /-- A level glide: no freeze. -/
  | level
deriving DecidableEq, Repr

/-- The part an output's VOA takes (R193, R197, R202); after a clear or Dormant every VOA with a setting leaves Parked by
snap (R114, R360). A level change of a VOA in Hold, whose loop runs no glide, is three steps (R78, log 51). -/
def Core.voaMove (c : Core) (a n : Tab Nat) (cells : List Nat) (o : Nat) : VoaMove :=
  let y := mapEntry n o
  let parked := (c.loop (voaTe o)).isParked
  if parked ∧ ¬ isDark y ∧ c.trav.restore then .snap
  else if altered a n cells o then
    if isDark y then .dark else if glides a n o then .floor else .snap
  else if ¬ isDark y ∧ parked then .snap
  else if ¬ isDark y ∧ setPoint a (setWords a) (mapEntry a) (voaTe o) ≠ setPoint n (setWords n) (mapEntry n) (voaTe o) then
    (if glides a n o ∧ (c.loop (voaTe o)).st ≠ .hold then .level else .snap)
  else .none

/-- The moving elements of a traverse, rising (R193): cell elements whose cell changes or that leave Parked, and the VOAs
that take staged steps. -/
def Core.movers (c : Core) (n : Tab Nat) : List Nat :=
  let a := c.act
  let cells := changedCells a n
  let cellTes := (List.range 4352).flatMap (fun k =>
    if cells.contains k then [2 * k, 2 * k + 1]
    else [2 * k, 2 * k + 1].filter (fun te => (c.loop te).isParked))
  let voas := (listedOutputs a n).filterMap (fun o =>
    match c.voaMove a n cells o with
    | .none => none
    | .level => none
    | _ => some (voaTe o))
  cellTes ++ voas

/-! ### Staged steps (R194) -/

/-- The nearest integer to the square root of x / 4. -/
def sqrtQuarter (x : Nat) : Nat := (isqrt x + 1) / 2

/-- The floor of an output's path, 2^-24 dB: minimum attenuation + 25 dB (R47, R197). -/
def floorSp (st : Tab Nat) (o : Nat) : Int := naturalLoss (setWords st) (mapEntry st o) o + db25

/-- Three codes from c0 to c1 by force, proportional to the square of the voltage (R194). -/
def forceSteps (c0 c1 : Nat) : List Nat :=
  [1, 3, 4].map (fun f => sqrtQuarter ((4 - f) * c0 * c0 + f * c1 * c1))

/-- Where an element's set-point ends in a traverse. -/
def Core.endSp (c : Core) (n : Tab Nat) (te : Nat) : Int :=
  if te < 8704 then setPoint n (setWords n) (mapEntry n) te
  else match c.voaMove c.act n (changedCells c.act n) (te - 8704) with
    | .floor => floorSp n (te - 8704)
    | _ => setPoint n (setWords n) (mapEntry n) te

/-- The three step codes of a moving element (R193, R194). -/
def Core.stepCodes (c : Core) (n : Tab Nat) (te : Nat) : List Nat :=
  let l := c.loop te
  let c0 := c.driven te
  let top := c.ceiling te
  let parked := l.isParked
  let arg := driveArg (setWords n) (mapEntry n) te
  let move := if te < 8704 then VoaMove.snap else c.voaMove c.act n (changedCells c.act n) (te - 8704)
  let atFloor := decide (8704 ≤ te) && decide ((c.glide (te - 8704)).phase = 2)
  let codes :=
    if move = .dark then forceSteps c0 (c.clearCode te)
    else if ¬ parked ∧ ((te < 8704 ∧ te % 2 = 1) ∨ (move = .floor ∧ atFloor)) then [c0, c0, c0]
    else
      let sp1 := c.endSp n te
      if parked ∨ c0 = c.clearCode te then forceSteps c0 (driveCode c te (arg sp1) l.u)
      else [1, 3, 4].map (fun (f : Int) => driveCode c te (arg (l.sp + idivFree (f * (sp1 - l.sp)) 4)) l.u)
  codes.map (min top)

/-- The instants of the steps of a traverse at T (R20). -/
def stepInstants (t : Instant) : List Instant := [t, t + nsU 1250, t + nsU 2500]

/-- Stages the three steps of an element at T (R20, R194). -/
def Core.stageSteps (c : Core) (te : Nat) (codes : List Nat) (t : Instant) : Core :=
  let es := (codes.zip (stepInstants t)).zipIdx.map (fun p => StEntry.mk p.1.2 p.1.1 true (p.2 == 2))
  let c := es.foldl (fun (c : Core) e => c.stage te e) c
  c.modLoop te (fun l => { l with code := codes.getD 2 l.code })

/-! ### Glides (R197 to R202) -/

/-- Word j of a glide profile among a list of words, as a positive number (R208). -/
def profileVal (ws : List Nat) (p j : Nat) : Int := (f32Pos (ws.getD (4 * p + j) 0)).getD 0

/-- The words of GLIDE_PROFILE in force. -/
def Core.profiles (c : Core) : List Nat := (List.range 64).map (fun i => c.rd OD.GLIDE_PROFILE i)

/-- GLIDE_PROFILE of an entry (R166). -/
def entryProfile (e : Nat) : Nat := bits e 13 10

/-- The time from one loop frame to the next (R62). -/
def Core.loopUnits (c : Core) : Nat := c.glideStride * frameUnits

/-- The instant from which an output's VOA is at rest (R197). -/
def Core.restFrom (c : Core) (o : Nat) : Instant :=
  let g := c.glide o
  match g.gen with
  | some k => if g.stalled then 0 else c.frameEnd + (segsLen k.segs - k.t)
  | none => 0

/-- The time that a ramp of an output to the floor takes from a boundary on, in whole loop frames (R199, R200). -/
def Core.rampTime (c : Core) (ws : List Nat) (o p : Nat) (floor : Int) (s : Instant) : Nat :=
  let m := c.motionAt o (s - c.frameEnd)
  let g := (genFrom m.1 m.2.1 m.2.2 floor (profileVal ws p 0) (profileVal ws p 1) (profileVal ws p 2)).1
  (segsLen g.segs + (c.loopUnits - 1)) / c.loopUnits * c.loopUnits

/-- The latest boundary of a loop frame, of n candidates down from s, from which a ramp reaches the floor by `by_` (R197). -/
def Core.rampFrom (c : Core) (ws : List Nat) (o p : Nat) (floor : Int) (by_ : Instant) : Nat → Instant → Option Instant
  | 0, _ => none
  | n + 1, s =>
    let need := c.rampTime ws o p floor s
    if s + need ≤ by_ then some s
    else
      -- from rest the length does not depend on the start: go straight to the boundary that it gives, or to the last one at which
      -- the VOA still moves
      let u := c.loopUnits
      let rest := c.restFrom o
      if s < u ∨ (rest ≤ s ∧ by_ < need) then none
      else if rest ≤ s ∧ rest ≤ by_ - need then some (by_ - need)
      else Core.rampFrom c ws o p floor by_ n (if rest ≤ s then min (s - u) (rest / u * u) else s - u)

/-- The start of an output's ramp-down for a traverse at T, none where no boundary is in time (R197). -/
def Core.planRamp (c : Core) (ws : List Nat) (a n : Tab Nat) (o : Nat) (t : Instant) : Option Instant :=
  let by_ := (t - 2 * frameUnits) / c.loopUnits * c.loopUnits
  c.rampFrom ws o (entryProfile (methodEntry a n o)) (floorSp a o) by_ ((by_ - c.now) / c.loopUnits + 1) by_

/-- The outputs that ramp down before a traverse: altered, gliding, lit in the old map (R197). -/
def Core.rampOutputs (c : Core) (n : Tab Nat) : List Nat :=
  let cells := changedCells c.act n
  (listedOutputs c.act n).filter (fun o =>
    !isDark (mapEntry c.act o) && !(c.trav.restore && decide ((c.loop (voaTe o)).st = .parked)) &&
    altered c.act n cells o && glides c.act n o)

/-- The planned ramp-downs of a traverse at T (R197). -/
def Core.planRamps (c : Core) (ws : List Nat) (n : Tab Nat) (t : Instant) : List (Nat × Option Instant) :=
  (c.rampOutputs n).map (fun o => (o, c.planRamp ws c.act n o t))

/-! ### Commits (R188 to R192, R205, R206) -/

/-- Whether the shadow set is locked: a commit that is not ended, copy-back, a timetable (R188, R214). -/
def Core.shadowLocked (c : Core) : Bool :=
  c.trav.cur.isSome || c.trav.copyBack || decide (c.rd OD.TT_STATE ≠ 0)

/-- Whether a full fringe calibration runs (R147). -/
def Core.fringeRunning (c : Core) : Bool := decide (c.rd OD.FRINGE_STATE = 1)

/-- Whether a change of power state out of Dormant is in progress (R358). -/
def Core.leavingDormant (c : Core) : Bool := decide (c.rd OD.POWER_CHANGING = 1) && decide (c.pwr.home = psDormant) && c.pwr.target.isSome

/-- The programs and filled slots that will be active at T: those of an armed image that activates by then (R91). -/
def Core.progAt (c : Core) (t : Instant) : (Nat → Nat) × (Nat → Bool) :=
  match c.ucode.armed, c.ucode.activateAt with
  | some img, some a => if a ≤ t then (imgProg img, imgFilled img) else (c.progNow, c.filledNow)
  | _, _ => (c.progNow, c.filledNow)

/-- The lead of R190: 2 ms. -/
abbrev leadUnits : Nat := 131072000000

/-- The abort of a COMMIT(T) from a path, 0 if it is accepted: the checks of R190 in their order (R206). -/
def Core.commitCheck (c : Core) (path : Nat) (t : Instant) : Nat :=
  if ¬ c.isActive path then abRole
  else if c.rd OD.UNSYNCHRONIZED = 1 then abExport
  else if c.timeState = tsFree then abFree
  else if c.power ≠ psRun ∧ c.power ≠ psQuiet then abRole
  else if ¬ isBoundary t ∨ c.now + 86400 * secondUnits < t then abValue
  else if t < c.now + leadUnits then abLead
  else if (c.planRamps c.profiles c.shd t).any (fun p => match p.2 with
      | some s => decide (s < c.now + leadUnits)
      | none => true) then abLead
  else if (c.trav.cur.any (fun k => !k.suspended)) ∨ c.trav.copyBack ∨ c.rd OD.TT_STATE ≠ 0 ∨ c.fringeRunning ∨
      c.leavingDormant ∨ c.rd OD.CLEAR_STATE = 1 ∨ c.rd OD.CLEAR_STATE = 2 then abRunning
  else if c.rd OD.SHADOW_SOLVED = 0 then abUnsolved
  else
    let p := c.progAt t
    if (firstMismatch c.shd p.1 p.2).isSome then abValue else 0

/-- Lanes whose circuit a traverse adds, removes, changes at its other end or disturbs; true where the receive circuit is
altered (R204). -/
def alteredLanes (a n : Tab Nat) : List (Nat × Bool) :=
  let cells := changedCells a n
  let outs := (listedOutputs a n).filter (altered a n cells)
  let rx := outs.filterMap (fun o => if 384 ≤ o then some (o - 384) else none)
  let ins := outs.flatMap (fun o => [mapEntry a o, mapEntry n o].filterMap (fun e =>
    if isDark e = false ∧ 384 ≤ entryInput e then some (entryInput e - 384) else none))
  (List.range 128).filterMap (fun k =>
    if rx.contains k then some (k, true) else if ins.contains k then some (k, false) else none)

/-- The earliest of the planned starts and B(g - 3): the instant a traverse begins (R197). -/
def beginAt (t : Instant) (ramps : List (Nat × Instant)) : Instant :=
  ramps.foldl (fun m p => min m p.2) (t - 3 * frameUnits)

/-- A COMMIT(T): checked, then accepted with its ramp-downs planned (R190, R197, R206). -/
def Core.commit (c : Core) (path : Nat) (t : Instant) : Core :=
  let r := c.commitCheck path t
  if r ≠ 0 then
    let p := c.progAt t
    let c := if r = abValue then
        match firstMismatch c.shd p.1 p.2 with
        | some te => if isBoundary t ∧ t ≤ c.now + 86400 * secondUnits then c.set OD.FIRST_MISMATCH te else c
        | none => c
      else c
    c.ends r
  else
    let c := c.eccRead (mapMark true)
    let ws := c.profiles
    let ramps := (c.planRamps ws c.shd t).filterMap (fun p => p.2.map (fun s => (p.1, s)))
    let c := (c.inc OD.COMMIT_ID).set OD.SET_STATE 1
    let k : Commit := ⟨c.rd OD.COMMIT_ID, t, false, false, none, ws, ramps, alteredLanes c.act c.shd, [], false, false, false⟩
    let c := ((c.set OD.PENDING_T (time64 t)).set OD.BEGIN_AT (time64 (beginAt t ramps))).set OD.CANCEL_BY
      (time64 (t - 3 * frameUnits))
    { c.ends 0 with trav := { c.trav with cur := some k } }

/-- A write of COMMIT_CANCEL (R191, R206). -/
def Core.commitCancel (c : Core) (v : Nat) : Core :=
  if v ≠ 1 then c.ends abValue
  else match c.trav.cur with
    | none => c
    | some k =>
      if k.slot.isSome then c
      else if ¬ k.suspended ∧ k.t - 3 * frameUnits ≤ c.now then c.ends abRunning
      else c.endCommit 4

/-- COMMIT_CANCEL (R191). -/
def execCommitCancel (path : Path) (value : BitVec 8) (s : State) : Host.Outcome State Fault Refusal :=
  s.does (fun c => c.byActive path (fun c => c.commitCancel value.toNat))

/-- A commit that would begin while no supervisor is in charge is suspended (R192, R205). -/
def Core.suspend (c : Core) (k : Commit) : Core :=
  let c := ((c.set OD.SET_STATE 3).inc OD.COMMITS_SUSPENDED).pulse 262
  { c with trav := { c.trav with cur := some { k with suspended := true, ramps := [] } } }

/-- Begins a traverse, or suspends it (R197, R205). -/
def Core.begin_ (c : Core) (k : Commit) : Core :=
  if k.begun ∨ k.suspended then c
  else if c.inCharge = false ∧ k.slot.isNone then c.suspend k
  else
    let c := if k.slot.isNone then c.set OD.SET_STATE 2 else c
    { c with trav := { c.trav with cur := some { k with begun := true } } }

/-- A gliding VOA starts its planned ramp to the floor; the traverse has begun (R197). -/
def Core.rampStart (c : Core) (o : Nat) : Core :=
  match c.trav.cur with
  | none => c
  | some k =>
    match k.ramps.find? (fun p => p.1 == o) with
    | none => c
    | some p =>
      if c.now < p.2 ∨ k.suspended then c
      else
        let c := c.begin_ k
        match c.trav.cur with
        | some k =>
          if k.begun then
            let pr := entryProfile (methodEntry c.act (c.newSet k) o)
            let g := { c.glide o with vMax := profileVal k.profiles pr 0, aMax := profileVal k.profiles pr 1,
                                      jMax := profileVal k.profiles pr 2, home := c.target (voaTe o) }
            let c := (c.setGlide o g).retarget o (floorSp c.act o) 1 1
            { c with trav := { c.trav with cur := some { k with ramps := k.ramps.filter (fun q => q.1 != o) } } }
          else c
        | none => c

/-- GLIDE_RAMP_DOWN_START (R197). -/
def execGlideRampDownStart (output : Fin 512) (s : State) : Host.Outcome State Fault Refusal :=
  s.does (fun c => c.rampStart output.val)

/-- The coefficient set that a configuration set selects for a loop in a power state (R80). -/
def selectedSet (st : Tab Nat) (power te : Nat) : Nat :=
  let w := storeGet st (okey OD.LOOP_SELECT te)
  if power = psQuiet then bits w 5 0 else bits w 11 6

/-- Whether a configuration set in one power state and another in another give a loop the same coefficient set. -/
def sameSet (a n : Tab Nat) (pa pn : Nat) (te : Nat) : Bool :=
  let x := selectedSet a pa te
  decide (x = selectedSet n pn te) &&
  (List.range 40).all (fun w => decide (storeGet a (okey OD.COEF_SET (40 * x + w)) = storeGet n (okey OD.COEF_SET (40 * x + w))))

/-- Whether they give it the same coefficients and limits (R80, R81). -/
def sameCoefs (a n : Tab Nat) (pa pn : Nat) (te : Nat) : Bool :=
  sameSet a n pa pn te && decide (storeGet a (okey OD.LOOP_LIMITS te) = storeGet n (okey OD.LOOP_LIMITS te))

/-- Trims of elements that the traverse moves or whose set-point or set it changes end at B(g - 3) (R154). -/
def Core.preemptTrims (c : Core) (k : Commit) : Core :=
  let n := c.newSet k
  let trims := c.loops.filter (fun p => decide (p.2.st = .trim))
  if trims.isEmpty then c
  else
    let mv := c.movers n
    let touched := fun te =>
      mv.contains te || decide (c.target te ≠ setPoint n (setWords n) (mapEntry n) te) ||
      !sameSet c.act n c.loopPower c.loopPower te
    trims.foldl (fun (c : Core) p =>
      if touched p.1 then
        (c.setLoop p.1 { p.2 with st := .locked, bin := 0, trimFrames := 0 }).inc OD.TRIM_PREEMPTED
      else c) c

/-- B(g - 3) of the pending traverse: it begins or is suspended, and trims are preempted (R154, R197, R205). -/
def Core.traverseBegin (c : Core) : Core :=
  match c.trav.cur with
  | none => c
  | some k =>
    if c.now < k.t - 3 * frameUnits ∨ k.frozen ∨ k.suspended then c
    else
      let c := c.begin_ k
      match c.trav.cur with
      | some k => if k.begun then c.preemptTrims k else c
      | none => c

/-- TRAVERSE_BEGIN (R197). -/
def execTraverseBegin (s : State) : Host.Outcome State Fault Refusal := s.does Core.traverseBegin

/-! ### Freeze, release and swap (R16, R20, R187 to R195) -/

/-- A ramp-down whose trajectory has ended is at the floor (R197). -/
def Core.atFloor (c : Core) (o : Nat) : Core :=
  let g := c.glide o
  if g.phase = 1 ∧ g.gen.any (·.done) then (c.inc64 OD.GLIDE_RAMPS).setGlide o { g with phase := 2, stalled := false } else c

/-- The freeze at B(g - 2): the moving elements stop computing, those too that left Parked in the last transition (R217); a ramp-down whose VOA is in Hold or Coast, or has
not reached the floor, is short (R20, R195, R197, R201). -/
def Core.freeze (c : Core) : Core :=
  match c.trav.cur with
  | none => c
  | some k =>
    if ¬ k.begun ∨ k.frozen ∨ c.now < k.t - 2 * frameUnits then c
    else
      let n := c.newSet k
      let mv := c.movers n
      let c := (c.rampOutputs n).foldl Core.atFloor c
      let short := (c.rampOutputs n).filter (fun o =>
        decide ((c.loop (voaTe o)).st = .hold ∨ (c.loop (voaTe o)).st = .coast) || decide ((c.glide o).phase ≠ 2))
      let c := if short.isEmpty then c else (c.inc OD.GLIDE_SHORT 0 short.length).pulse 264
      let c := c.mapLoops (fun te => mv.contains te) (fun _ l => if l.isParked then l else { l with frozen := true })
      { c with trav := { c.trav with cur := some { k with moving := mv, frozen := true }
                                     thaw := c.trav.thaw.filter (fun te => !mv.contains te) } }

/-- The caboose of frame g - 1 on a coach: a link down stops the traverse, else the coach's steps are released
(R16, R20, R88). -/
def Core.releaseSteps (c : Core) (coach : Nat) : Core :=
  match c.trav.cur with
  | none => c
  | some k =>
    if ¬ k.frozen ∨ c.frameEnd ≠ k.t then c
    else
      let down := !k.checked && [0, 1, 2, 3].any (fun d => !(c.link d).up)
      let k := { k with checked := true, linkFailed := k.linkFailed || down }
      let c := { c with trav := { c.trav with cur := some k } }
      if k.linkFailed then c
      else
        let n := c.newSet k
        (k.moving.filter (fun te => decide (te / 256 = coach))).foldl
          (fun (c : Core) te => c.stageSteps te (c.stepCodes n te) k.t) c

/-- A loop after its move (R195, R72): a darkened VOA is Parked, a Parked element leaves Parked at its next loop frame. One
already in Acquire starts its counts afresh and is no new entry to Acquire (the spec does not say, log 51). One that has missed
its steps, its link being down, keeps its set-point and its state until it takes them (R16). -/
def movedLoop (dark missed : Bool) (sp : Int) (l : Loop) : Loop :=
  if dark then { l.park with frozen := l.frozen }
  else if missed then (if l.st = .parked then { l with leaving := false } else l)
  else
    let l := { l with sp := sp, spFrom := l.sp }
    match l.st with
    | .parked => { l with leaving := true, frozen := true }
    | .locked => { l.enterAcquire with rep := .acquire, expired := false }
    | .acquire => { l with clock := { l.clock with lock := 0, acq := 0 } }
    | .trim => { l.enterAcquire with rep := .acquire, expired := false, bin := 0, trimFrames := 0 }
    | .coast => l
    | .hold => l

/-- Whether a moving element takes no step in the traverse: its link is down, or has discarded its steps since the caboose
(R16, R112). -/
def Core.missesSteps (c : Core) (te : Nat) : Bool :=
  !(c.link (teDie te)).up || (c.trav.owed.contains te && !(c.chan te).queue.any (·.seq))

/-- The objects of the loops that the sets hold. -/
def loopObjs (st : Tab Nat) : Tab Nat :=
  st.filter (fun p => decide (okeyObj p.1 = OD.LOOP_SELECT ∨ okeyObj p.1 = OD.LOOP_LIMITS ∨ okeyObj p.1 = OD.COEF_SET))

/-- The coefficient commits of a traverse, after the swap, and of a change of power state: at one boundary they are one
commit (R80, R81, R358). -/
def Core.coefCommits (c : Core) (old : Tab Nat) : Core :=
  let was := c.pwr.coefFrom.getD c.loopPower
  let c := { c with pwr := { c.pwr with coefFrom := none } }
  if loopObjs old = loopObjs c.act ∧ (decide (was = psQuiet) == decide (c.loopPower = psQuiet)) then c
  else c.mapLoops (fun _ => true)
    (fun te l => if sameCoefs old c.act was c.loopPower te then l else c.coefCommit te l)

/-- The glides that a traverse starts or supersedes (R195, R197, R202). -/
def Core.startGlides (c : Core) (k : Commit) (moves : List (Nat × VoaMove)) : Core :=
  moves.foldl (fun (c : Core) p =>
    let o := p.1
    let pr := entryProfile (mapEntry c.act o)
    let dest := c.target (voaTe o)
    let v := profileVal k.profiles pr 0
    let a := profileVal k.profiles pr 1
    let j := profileVal k.profiles pr 2
    let g : Glide := { Glide.reset with vMax := v, aMax := a, jMax := j, home := dest }
    match p.2 with
    | .floor => c.setGlide o { g with phase := 3, gen := some (genFrom (spScale (floorSp c.act o)) 0 0 dest v a j).1 }
    | .level => (c.setGlide o { g with gen := (c.glide o).gen, stalled := (c.glide o).stalled }).retarget o dest 4 5
    | .none => c
    | _ => c.setGlide o Glide.reset) c

/-- Lane circuits that the traverse moves and whose method is glide (R203). -/
def laneGlides (a n : Tab Nat) (outs : List Nat) : Nat :=
  outs.countP (fun o => entryGlides (methodEntry a n o) && laneCircuit (methodEntry a n o) o)

/-- A traverse at the boundary that begins the frame falls in the window which begins there (R158). -/
def Overlap.hit (x : Overlap) (frames : Nat) : Overlap :=
  match x.base with
  | some b => if b ≤ frames + 1 then { x with hits := x.hits ++ [frames + 1 - b] } else x
  | none => x

/-- The swap at T and what follows from it at once (R187, R192, R195). -/
def Core.swap (c : Core) (k : Commit) : Core :=
  let old := c.act
  let n := c.newSet k
  let cells := changedCells old n
  let outs := listedOutputs old n
  -- a level glide whose VOA has entered Hold since the freeze is no move by steps
  let moves := outs.map (fun o =>
    let m := c.voaMove old n cells o
    (o, if m = .snap ∧ ¬ k.moving.contains (voaTe o) then .level else m))
  let lanes := laneGlides old n (outs.filter (fun o =>
    altered old n cells o || decide (c.voaMove old n cells o ≠ .none)))
  let ends := k.moving.map (fun te => (te, c.endSp n te))
  let missed := k.moving.filter (c.missesSteps)
  let acq := k.moving.countP (fun te => decide ((c.loop te).st = .locked ∨ (c.loop te).st = .trim))
  -- the sets swap in one act
  let c := { c with act := n, shd := if k.slot.isNone then old else c.shd }
  let c := ends.foldl (fun (c : Core) p =>
    c.modLoop p.1 (movedLoop (decide (8704 ≤ p.1) && isDark (mapEntry n (p.1 - 8704))) (missed.contains p.1) p.2)) c
  let c := (c.coefCommits old).startGlides k moves
  let c := ((c.inc OD.ACQ_COUNT 0 acq).inc OD.TRAVERSES).set OD.LAST_T (time64 k.t)
  let c := ((c.inc64 OD.SNAP_MOVES 0 (k.moving.length - missed.length)).inc OD.LANE_GLIDE_IGNORED 0 lanes).occur 0x0A 0
  let c := if c.col.any (fun x => x.preserve && x.refActive) then c.set OD.COL_FLAGS (setBits (c.rd OD.COL_FLAGS) 0 0 1) else c
  -- check bits follow their sets, and the active map store is rewritten: an inversion that waits for it goes into the setting
  -- of a cell that the spec does not name (R342, log 4)
  let c := (if k.slot.isNone then c.eccSwap.damageSwap else c).eccDrop (mapMark false)
  let cell := c.draw % 4352
  let c := (if bits c.faults.eccArmed 15 12 = 7 then c.drawn else c).eccWrite 7 (okey settingsObj (markCell + cell))
  let c := if c.rd OD.CLEAR_STATE = 3 then c.set OD.CLEAR_STATE 0 else c
  let c := c.set OD.RESTORE_PENDING 0
  { c with cal := { c.cal with overlaps := c.cal.overlaps.map (fun p => (p.1, p.2.hit c.frames)) }
           sup := { c.sup with digested := some n }
           trav := { c.trav with cur := none, restore := false, thaw := c.trav.thaw ++ k.moving
                                 owed := c.trav.owed ++ missed.filter (fun te => !c.trav.owed.contains te)
                                 thawAt := c.frames + 1, before := some (c.frames, old) } }

/-- A commit's traverse executes: the swap, its outcome, copy-back (R189, R192). -/
def Core.executeCommit (c : Core) (k : Commit) : Core :=
  let c := c.swap k
  let c := ((c.set OD.LAST_RESULT 1).set OD.LAST_RESULT_ID k.id).set OD.SET_STATE 4
  let c := ((c.set OD.PENDING_T 0).set OD.BEGIN_AT 0).set OD.CANCEL_BY 0
  let c := c.emitOutcome k.id 1 k.t
  { c with trav := { c.trav with copyBack := true, copyClass := true }, pkt := { c.pkt with gen := c.pkt.gen + 1 } }

/-- T of a commit: it executes, or it ends as R192 says; a traverse of the timetable is not this operation's. -/
def Core.commitAt (c : Core) : Core :=
  match c.trav.cur with
  | none => c
  | some k =>
    if k.slot.isSome ∨ k.suspended ∨ c.now < k.t then c
    else if ¬ k.begun ∧ ¬ c.inCharge then c.suspend k
    else if k.linkFailed ∨ (¬ k.checked ∧ [0, 1, 2, 3].any (fun d => !(c.link d).up)) then c.endCommit 2
    else c.executeCommit k

/-- Copy-back ends: the shadow set equals the active set and is unlocked (R189). It has read every word of the active set and
written every word of the shadow set (R342). -/
def Core.copyBackDone (c : Core) : Core :=
  if c.trav.copyBack ∧ ¬ c.trav.copyClass then
    let c := ((c.eccRead (setMark false)).eccDrop (setMark true)).damageCopied
    { c.copyActive.set OD.SET_STATE 0 with trav := { c.trav with copyBack := false } }
  else c

/-- COPY_BACK_DONE (R189). -/
def execCopyBackDone (s : State) : Host.Outcome State Fault Refusal := s.does Core.copyBackDone

/-- The frozen elements of the last traverse compute again from frame g + 1 on, but those that the next one has frozen
(R20, R217). -/
def Core.thawBoundary (c : Core) : Core :=
  if c.trav.thaw.isEmpty ∨ c.frames < c.trav.thawAt then c
  else
    let ts := c.trav.thaw
    let next := match c.trav.cur with | some k => k.moving | none => []
    { c.mapLoops (fun te => ts.contains te && !next.contains te) (fun _ l => { l with frozen := false }) with
      trav := { c.trav with thaw := [] } }

/-! ### After a link's return (R16) -/

/-- The elements of a die that owe steps take them, to their targets in the active set, at the next boundary, the first
at least three frames after the return (R16). -/
def Core.restoreSnap (c : Core) (d : Nat) : Core :=
  let x := c.link d
  let tes := c.trav.owed.filter (fun te => decide (teDie te = d))
  if x.up ∧ x.restoreAt = 0 ∧ ¬ tes.isEmpty ∧ x.returnUp + 3 * frameUnits ≤ c.upFrame + frameUnits then
    let c := tes.foldl (fun (c : Core) te =>
      let l := c.loop te
      let dark := decide (8704 ≤ te) && isDark (mapEntry c.act (te - 8704))
      let c0 := c.driven te
      let sp := c.target te
      let arg := driveArg (setWords c.act) (mapEntry c.act) te
      let codes := if dark then forceSteps c0 (c.clearCode te)
        else if l.st = .parked ∨ c0 = c.clearCode te then forceSteps c0 (driveCode c te (arg sp) l.u)
        else [1, 3, 4].map (fun (f : Int) => driveCode c te (arg (l.sp + idivFree (f * (sp - l.sp)) 4)) l.u)
      (c.stageSteps te (codes.map (min (c.ceiling te))) c.frameEnd).modLoop te
        (fun l => if dark ∨ l.st = .parked then l else { l with sp := sp })) c
    (c.inc64 OD.SNAP_MOVES 0 tes.length).setLink d { c.link d with restoreAt := c.frames + 2 }
  else c

/-- LINK_RESTORE_SNAP (R16). -/
def execLinkRestoreSnap (link : Die) (s : State) : Host.Outcome State Fault Refusal := s.does (fun c => c.restoreSnap link)

/-! ### The caboose (R88) -/

/-- Drift learning of the first n loops of a coach. -/
def Core.learnLoops (c : Core) (coach n : Nat) : Core := (rangeFrom (256 * coach) n).foldl Core.learn c

/-- Whether drift learning runs in this frame: in Quiet only in the frame after a loop frame (R88). -/
def Core.learns (c : Core) : Bool :=
  decide (c.loopPower = psRun ∨ c.loopPower = psMaint) || (decide (c.loopPower = psQuiet) && decide (c.frameIx % 4 = 1))

/-- The largest caboose length observed (R102). -/
def Core.peak (c : Core) (coach cycles : Nat) : Core :=
  let w := c.rd OD.COACH_STATUS coach
  c.wr OD.COACH_STATUS coach (setBits w 10 0 (max (bits w 10 0) (min cycles 2047)))

/-- The caboose of a coach, its three tasks in order: snap release, frame bookkeeping, and the drift learning of the first
`learned` loops. A coach runs it once a frame and before the slots; later in the frame there is nothing to execute (R86, R88,
log 2). -/
def Core.caboose (c : Core) (coach cycles learned : Nat) : Core :=
  let c := ((c.releaseSteps coach).bookkeep coach).peak coach cycles
  let c := c.setCoach coach { c.coach coach with cabAt := c.frames + 1 }
  if c.learns then c.learnLoops coach learned else c

/-- Whether the caboose of a coach is still to come in this frame (R86). -/
def Core.cabooseAhead (c : Core) (coach : Nat) : Bool :=
  decide ((c.coach coach).cabAt ≠ c.frames + 1) && decide ((c.coach coach).slotAt ≠ c.frames + 1)

/-- CABOOSE: snap release, bookkeeping, drift learning (R88). -/
def execCaboose (coach : Sys2Proof.Coach) (cycles : Nat) (s : State) : Host.Outcome State Fault Refusal :=
  s.does (fun c => if c.cabooseAhead coach.val then c.caboose coach.val cycles 256 else c)

/-- CABOOSE_OVERRUN: stopped at cycle 1,448 after the drift learning of `learned` loops (R88). -/
def execCabooseOverrun (coach : Sys2Proof.Coach) (learned : Fin 257) (s : State) : Host.Outcome State Fault Refusal :=
  s.does (fun c =>
    if c.cabooseAhead coach.val then ((c.caboose coach.val 1448 learned.val).inc OD.CABOOSE_OVERRUNS).pulse 143 else c)

end Sys2Proof.Machine
end

