-- ==== Sys2Proof/Machine/Col.lean ====
section
/-! DEFINITION. Connection maps, the Col solver and the map slots (R166 to R186). -/

namespace Sys2Proof.Machine

/-! ### Map entries (R166 to R168) -/

/-- Whether an entry's own fields are as R166 and R4 ask. -/
def entryValid (v : Nat) : Bool :=
  if isDark v then decide (v = 0x8000)
  else decide (v < 0x8000) && !bit v 9 && (entryGlides v || decide (entryProfile v = 0))

/-- A write of a shadow map entry (R167, R168, R188). The lock is checked before the entry's fields, as for every RWS object
(DESIGN CHOICE: R287 gives no order of the two, log 36). -/
def Core.mapWrite (c : Core) (o v : Nat) : Core :=
  if c.shadowLocked then c.ends abRunning
  else if 0xFFFF < v ∨ entryValid v = false then c.ends abValue
  else
    let c := if entryRoute (mapEntry c.shd o) = entryRoute v then c else c.set OD.SHADOW_SOLVED 0
    (c.wrS OD.CONN_MAP o v).eccWrite 5 (shadowMark + okey OD.CONN_MAP o)

/-- MAP_ENTRY_WRITE (R167). -/
def execMapEntryWrite (path : Path) (output : Fin 512) (value : BitVec 16) (s : State) : Host.Outcome State Fault Refusal :=
  s.does (fun c => c.byActive path (fun c => c.mapWrite output.val value.toNat))

/-! ### Completion (R169) -/

/-- The entry of an output in a sparse map. -/
def mapOf (m : Tab Nat) (o : Nat) : Nat := Tab.get m o 0x8000

/-- The circuits of a map: input and output, by rising output. -/
def circuits (m : Tab Nat) : List (Nat × Nat) :=
  m.filterMap (fun p => if isDark p.2 then none else some (entryInput p.2, p.1))

/-- Outputs not Dark. -/
def circuitCount (m : Tab Nat) : Nat := (circuits m).length

/-- The lowest output whose entry names an input that an entry of a lower output names (R176). -/
def firstConflict : List Nat → List (Nat × Nat) → Option Nat
  | _, [] => none
  | seen, (i, o) :: r => if seen.contains i then some o else firstConflict (i :: seen) r

/-- Pass 1: free inputs that keep the output they reached in the reference; and those that remain (R169). -/
def passOne (reach : Nat → Nat) (dark : List Nat) : List Nat → List (Nat × Nat) × List Nat
  | [] => ([], [])
  | n :: r =>
    let t := passOne reach dark r
    if dark.contains (reach n) then ((n, reach n) :: t.1, t.2) else (t.1, n :: t.2)

/-- Pass 2: input n to FOn where that is Dark and free. -/
def passTwo (free : List Nat) : List Nat → List (Nat × Nat) × List Nat
  | [] => ([], [])
  | n :: r =>
    let t := passTwo free r
    if free.contains n then ((n, n) :: t.1, t.2) else (t.1, n :: t.2)

/-- The free routes that complete a map: input, output, and whether pass 1 kept it (R169). -/
def completion (preserve : Bool) (reach : Nat → Nat) (cs : List (Nat × Nat)) : List (Nat × Nat × Bool) :=
  let ins := (List.range 512).filter (fun n => !(cs.any (fun p => p.1 == n)))
  let dark := (List.range 512).filter (fun o => !(cs.any (fun p => p.2 == o)))
  let one := if preserve then passOne reach dark ins else ([], ins)
  let free1 := dark.filter (fun o => !(one.1.any (fun p => p.2 == o)))
  let two := passTwo free1 one.2
  let free2 := free1.filter (fun o => !(two.1.any (fun p => p.2 == o)))
  one.1.map (fun p => (p.1, p.2, true)) ++ two.1.map (fun p => (p.1, p.2, false)) ++
    (two.2.zip free2).map (fun p => (p.1, p.2, false))

/-! ### Routing (R170 to R172) -/

/-- A route: its label on each side of the sub-network, its output, and its reference sides while they still bind. -/
structure Route where
  x : Nat
  y : Nat
  out : Nat
  /-- A circuit that the reference holds too (R171). -/
  kept : Bool
  ref : Option Nat
  /-- The level at which a preserved circuit is disturbed (R172). -/
  dist : Option Nat
deriving DecidableEq, Repr

/-- Routes by rising output. -/
def insertRoute (r : Route) : List Route → List Route
  | [] => [r]
  | q :: t => if r.out < q.out then r :: q :: t else q :: insertRoute r t

/-- The loop through an output line: each route with its side for start side 0 (R170). -/
def loopFrom (b : Nat) (net : List Route) (y0 : Nat) : Nat → Nat → List (Route × Nat)
  | 0, _ => []
  | n + 1, y =>
    match net.find? (fun r => r.y == y) with
    | none => []
    | some r =>
      match net.find? (fun q => q.x == flipBit r.x b) with
      | none => [(r, 0)]
      | some q =>
        let y' := flipBit q.y b
        (r, 0) :: (q, 1) :: (if y' = y0 then [] else loopFrom b net y0 n y')

/-- The side a route takes at a level in its reference. -/
def refSide (r : Route) (b : Nat) : Option Nat := r.ref.map (fun l => bn (bit l b))

/-- The lowest by output among routes with a reference side that satisfy p: its start side that keeps the reference. -/
def keepLowest (b : Nat) (p : Route → Bool) (l : List (Route × Nat)) : Option Nat :=
  let c := l.filter (fun e => p e.1 && e.1.ref.isSome)
  match c with
  | [] => none
  | e :: r =>
    let m := r.foldl (fun (m : Route × Nat) q => if q.1.out < m.1.out then q else m) e
    (refSide m.1 b).map (fun s => if s = m.2 then 0 else 1)

/-- The start side of a loop (R171); without reference sides it is 0, as in a Fresh solve. -/
def startSide (b : Nat) (l : List (Route × Nat)) : Nat :=
  let agree := l.countP (fun e => e.1.kept && decide (refSide e.1 b = some e.2))
  let differ := l.countP (fun e => e.1.kept && e.1.ref.isSome && decide (refSide e.1 b ≠ some e.2))
  if differ < agree then 0 else if agree < differ then 1
  else match keepLowest b (·.kept) l with
    | some s => s
    | none => (keepLowest b (fun r => !r.kept) l).getD 0

/-- A route after it takes a side at a level (R171, R172). -/
def Route.takeSide (r : Route) (b side : Nat) : Route :=
  let put := fun v => if bn (bit v b) = side then v else flipBit v b
  let lost := decide (refSide r b ≠ some side) && r.ref.isSome
  { r with x := put r.x, y := put r.y, ref := if lost then none else r.ref,
           dist := if lost ∧ r.kept then some b else r.dist }

/-- The cells that the loops of a net cross at stages b and 16 - b, and the routes with their sides taken. -/
def sideNet (b : Nat) : Nat → List Route → List Nat × List Route
  | 0, _ => ([], [])
  | n + 1, net =>
    match net with
    | [] => ([], [])
    | r :: _ =>
      let l := loopFrom b net r.y net.length r.y
      let s := startSide b l
      let sided := l.map (fun e => (e.1, if s = 0 then e.2 else 1 - e.2))
      let cross := sided.flatMap (fun e =>
        (if bn (bit e.1.x b) = e.2 then [] else [cellAt b e.1.x]) ++
        (if bn (bit e.1.y b) = e.2 then [] else [cellAt (16 - b) e.1.y]))
      let rest := sideNet b n (net.filter (fun q => !(l.any (fun e => e.1.out == q.out))))
      (cross ++ rest.1, sided.map (fun e => e.1.takeSide b e.2) ++ rest.2)

/-- Routes a net from level b on, n levels with sides and the last stage: crossed cells and finished routes (R170). -/
def routeNet : Nat → Nat → List Route → List Nat × List Route
  | 0, b, net => (net.filterMap (fun r => if bit r.x b = bit r.y b then none else some (cellAt b r.x)), net)
  | n + 1, b, net =>
    let r := sideNet b net.length net
    let sorted := r.2.foldr insertRoute []
    let lo := routeNet n (b + 1) (sorted.filter (fun q => !bit q.x b))
    let hi := routeNet n (b + 1) (sorted.filter (fun q => bit q.x b))
    (r.1 ++ lo.1 ++ hi.1, lo.2 ++ hi.2)

/-- Setting words with the given cells crossed; a cell may be named twice. -/
def crossWords (cells : List Nat) : Tab Nat :=
  cells.foldl (fun t c => Tab.modify t (c / 32) 0 (fun w => if bit w (c % 32) then w else w + 2 ^ (c % 32))) []

/-- The words of a sparse setting table. -/
def wordOf (t : Tab Nat) (w : Nat) : Nat := Tab.get t w 0

/-- The label of an input between the stages of its sides: bit b is its side at level b (R171). -/
def refLabel (words : Nat → Nat) (input : Nat) : Nat := (traceFrom words 8 0 (rev9 input)).2

/-- The routes of a solve: circuits and free routes, by rising output. -/
def solveRoutes (v : Solve) : List Route :=
  let cs := circuits v.map
  let words := wordOf v.refWords
  let circ := cs.map (fun p =>
    let kept := v.preserve && decide (entryRoute (mapOf v.refMap p.2) = some p.1)
    Route.mk (rev9 p.1) (rev9 p.2) p.2 kept (if kept then some (refLabel words p.1) else none) none)
  let free := (completion v.preserve (fun n => (pathOf words n).2) cs).map (fun p =>
    Route.mk (rev9 p.1) (rev9 p.2.1) p.2.1 false (if p.2.2 then some (refLabel words p.1) else none) none)
  (circ ++ free).foldr insertRoute []

/-- What a solve gives: settings, and disturbed circuits with their levels by rising output (R170, R172, R174). -/
def solveResult (v : Solve) : Tab Nat × List (Nat × Nat) :=
  let r := routeNet 8 0 (solveRoutes v)
  (crossWords r.1, (r.2.foldr insertRoute []).filterMap (fun q => q.dist.map (fun b => (q.out, b))))

/-! ### Running a solve (R175 to R180) -/

/-- The map of a slot, sparse by output. -/
def Core.slotMap (c : Core) (n : Nat) : Tab Nat :=
  ((storeListed c.regs OD.SLOT_MAP).filter (fun p => decide (p.1 / 512 = n))).map (fun p => (p.1 % 512, p.2))

/-- The settings of a slot, sparse by word. -/
def Core.slotSettings (c : Core) (n : Nat) : Tab Nat :=
  ((storeListed c.regs OD.SLOT_SETTINGS).filter (fun p => decide (p.1 / 136 = n))).map (fun p => (p.1 % 136, p.2))

/-- The status word of a slot (R181). -/
def Core.slotStatus (c : Core) (n : Nat) : Nat := c.rd OD.SLOT_STATUS n
def Core.slotValid (c : Core) (n : Nat) : Bool := bit (c.slotStatus n) 31
def Core.slotHasMap (c : Core) (n : Nat) : Bool := bit (c.slotStatus n) 30
def Core.slotInUse (c : Core) (n : Nat) : Bool := bit (c.slotStatus n) 28

/-- The elements of a register table removed. -/
def Core.wipe (c : Core) (obj lo n : Nat) : Core :=
  { c with regs := c.regs.filter (fun p => !(decide (okeyObj p.1 = obj) && decide (lo ≤ okeyElem p.1 ∧ okeyElem p.1 < lo + n))) }

/-- The abort of a SOLVE_CMD, 0 if it starts (R175). -/
def Core.solveCheck (c : Core) (v : Nat) : Nat :=
  let mode := bits v 31 30
  let src := bits v 23 16
  let dst := bits v 15 8
  let ref := bits v 7 0
  if 1 < mode ∨ bits v 28 24 ≠ 0 ∨ (bit v 29 ∧ mode = 0) ∨ (63 < src ∧ src ≠ 255) ∨ (63 < dst ∧ dst ≠ 255) ∨
      (mode = 1 ∧ 63 < ref ∧ ref ≠ 254) then abValue
  else if (src < 64 ∧ c.slotHasMap src = false) ∨ (mode = 1 ∧ ref < 64 ∧ c.slotHasMap ref = false) then abNoMap
  else if c.fringeRunning ∨ c.col.isSome then abRunning
  else if dst = 255 ∧ c.shadowLocked then abRunning
  else if dst < 64 ∧ c.slotInUse dst then abRunning
  else 0

/-- A write of SOLVE_CMD: the solve starts on copies of its source and its reference (R176). -/
def Core.solveStart (c : Core) (v : Nat) : Core :=
  let r := c.solveCheck v
  if r ≠ 0 then c.ends r
  else
    let src := bits v 23 16
    let ref := bits v 7 0
    let lit := c.inputs.filterMap (fun p => if p.2.lit then some p.1 else none)
    let x : Solve :=
      { preserve := decide (bits v 31 30 = 1), strict := bit v 29, dst := bits v 15 8, refActive := decide (ref = 254)
        map := if src = 255 then storeListed c.shd OD.CONN_MAP else c.slotMap src
        refMap := if ref < 64 then c.slotMap ref else storeListed c.act OD.CONN_MAP
        refWords := if ref < 64 then c.slotSettings ref else storeListed c.act settingsObj
        lit := lit }
    -- the map and the reference are read whole (R342)
    let c := c.eccRead (fun k => if src = 255 then mapMark true k else slotMark src k)
    let c := c.eccRead (fun k => decide (bits v 31 30 = 1) && (if ref < 64 then slotMark ref k else mapMark false k))
    { ((c.wipe OD.DISTURB_LIST 0 512).set OD.DISTURB_COUNT 0).set OD.COL_STATE 1 |>.set OD.COL_FLAGS 0 with col := some x }

/-- SOLVE_CMD (R175). -/
def execSolveCmd (path : Path) (value : BitVec 32) (s : State) : Host.Outcome State Fault Refusal :=
  s.does (fun c => c.byActive path (fun c => c.solveStart value.toNat))

/-- Map and settings written into a slot whole, first entry first, with its status word. -/
def Core.putSlot (c : Core) (n : Nat) (m words : Tab Nat) (status : Nat) : Core :=
  let c := (c.wipe OD.SLOT_MAP (512 * n) 512).wipe OD.SLOT_SETTINGS (136 * n) 136
  let c := m.foldl (fun (c : Core) p => c.wr OD.SLOT_MAP (512 * n + p.1) p.2) c
  let c := words.foldl (fun (c : Core) p => c.wr OD.SLOT_SETTINGS (136 * n + p.1) p.2) c
  ((c.wr OD.SLOT_STATUS n status).eccDrop (slotMark n)).eccWrite 6 (okey OD.SLOT_MAP (512 * n))

/-- Map and settings written into the shadow set, first entry first. -/
def Core.putShadow (c : Core) (m words : Tab Nat) : Core :=
  let base := c.shd.filter (fun p => decide (okeyObj p.1 ≠ OD.CONN_MAP) && decide (okeyObj p.1 ≠ settingsObj))
  let t := m.foldl (fun t p => storePut t (okey OD.CONN_MAP p.1) p.2) base
  (({ c with shd := words.foldl (fun t p => storePut t (okey settingsObj p.1) p.2) t } : Core).eccDrop
    (mapMark true)).eccWrite 5 (shadowMark + okey OD.CONN_MAP 0)

/-- An entry of DISTURB_LIST (R180). -/
def disturbEntry (v : Solve) (o level : Nat) : Nat :=
  let e := mapOf v.map o
  o * 2 ^ 23 + entryInput e * 2 ^ 14 + level * 2 ^ 10 + bn (v.lit.contains (entryInput e)) * 2 ^ 9 + bn (entryGlides e) * 2 ^ 8

/-- The event of a solve's end (R300, KIND 0004h). -/
def Core.emitSolve (c : Core) : Core :=
  c.emit 4 OD.COL_STATE (be 1 (c.rd OD.COL_STATE) ++ be 3 0 ++ be 4 (c.rd OD.COL_RESULT) ++ be 2 (c.rd OD.DISTURB_COUNT))

/-- A running solve ends, Done or Failed (R176, R177). SOLVE_TIME is a free value within t_fresh or t_pres (R184). -/
def Core.solveEnd (c : Core) : Core :=
  match c.col with
  | none => c
  | some v =>
    let time := c.draw % (if v.preserve then 120001 else 12001)
    let c := { (c.drawn.inc OD.SOLVES).set OD.SOLVE_TIME time with col := none }
    let c := c.set OD.FIRST_CONFLICT 0xFFFF
    match firstConflict [] (circuits v.map) with
    | some o => (((c.set OD.COL_STATE 3).set OD.COL_RESULT abMapDup).set OD.FIRST_CONFLICT o).emitSolve
    | none =>
      let r := solveResult v
      let n := r.2.length
      let c := (r.2.foldl (fun (p : Nat × Core) e => (p.1 + 1, p.2.wr OD.DISTURB_LIST p.1 (disturbEntry v e.1 e.2))) (0, c)).2
      let c := (c.set OD.COL_STATE 2).set OD.DISTURB_COUNT n
      if v.strict ∧ n ≠ 0 then
        ((c.set OD.COL_RESULT abStrict).set OD.COL_FLAGS (setBits (c.rd OD.COL_FLAGS) 1 1 1)).emitSolve
      else
        let origin := if v.preserve then 2 else 1
        let c := c.set OD.COL_RESULT 0
        (if v.dst = 255 then
          (((c.set OD.SHADOW_SOLVED 1).set OD.SHADOW_ORIGIN origin).set OD.SHADOW_DISTURBS n).putShadow v.map r.1
        else
          c.putSlot v.dst v.map r.1 (2 ^ 31 + 2 ^ 30 + bn (n != 0) * 2 ^ 29 + origin * 2 ^ 26 + circuitCount v.map * 2 ^ 16 + n)).emitSolve

/-- COL_SOLVE_END (R176). -/
def execColSolveEnd (s : State) : Host.Outcome State Fault Refusal := s.does Core.solveEnd

/-! ### Slots (R181 to R183) -/

/-- A write to SLOT_MAP or SLOT_SETTINGS, in effect at once (R182). -/
def Core.slotWrite (c : Core) (settings : Bool) (e v : Nat) : Core :=
  let n := if settings then e / 136 else e / 512
  if 63 < n then c.ends abOffset
  else if ¬ settings ∧ (0xFFFF < v ∨ entryValid v = false) then c.ends abValue
  else if c.slotInUse n then c.ends abRunning
  else
    let c := c.wr (if settings then OD.SLOT_SETTINGS else OD.SLOT_MAP) e v
    let st := setBits (setBits (c.slotStatus n) 31 31 0) 30 30 1
    (c.wr OD.SLOT_STATUS n (setBits st 25 16 (circuitCount (c.slotMap n)))).eccWrite 6
      (okey (if settings then OD.SLOT_SETTINGS else OD.SLOT_MAP) e)

/-- SLOT_WRITE (R182). -/
def execSlotWrite (path : Path) (settings : Bool) (element : Nat) (value : BitVec 32) (s : State) :
    Host.Outcome State Fault Refusal :=
  s.does (fun c => c.byActive path (fun c => c.slotWrite settings element value.toNat))

/-- Verify: traces the slot's settings (R183). -/
def Core.slotVerify (c : Core) (n : Nat) : Core :=
  if c.slotHasMap n = false then c.ends abNoMap
  else
    -- a slot whose words are read with a double-bit error is not valid (R186)
    let hurt := c.faults.eccWords.any (fun p => slotMark n p.1 && decide (p.2 = 2))
    let c := c.eccRead (slotMark n)
    let m := c.slotMap n
    let words := slotWords c n
    let st := c.slotStatus n
    let bad := fun (c : Core) code o =>
      ((c.wr OD.SLOT_STATUS n (setBits st 31 31 0)).set OD.SLOT_RESULT code).set OD.FIRST_CONFLICT o
    match firstConflict [] (circuits m) with
    | some o => bad c abMapDup o
    | none =>
      match (circuits m).find? (fun p => decide ((pathOf words p.1).2 ≠ p.2)) with
      | some p => bad c abVerify p.2
      | none => ((c.wr OD.SLOT_STATUS n (setBits (setBits st 31 31 (bn !hurt)) 27 26 0)).set OD.SLOT_RESULT 0).set OD.FIRST_CONFLICT 0xFFFF

/-- SLOT_VERIFY (R183). -/
def execSlotVerify (path : Path) (slot : Fin 64) (s : State) : Host.Outcome State Fault Refusal :=
  s.does (fun c => c.byActive path (fun c => c.slotVerify slot.val))

/-- Load: map and settings into the shadow set (R183). -/
def Core.slotLoad (c : Core) (n : Nat) : Core :=
  if c.slotValid n = false then c.ends abNoMap
  else if c.shadowLocked then c.ends abRunning
  else
    let c := (c.eccRead (slotMark n)).putShadow (c.slotMap n) (c.slotSettings n)
    (((c.set OD.SHADOW_SOLVED 1).set OD.SHADOW_ORIGIN 3).set OD.SHADOW_DISTURBS (bits (c.slotStatus n) 9 0)).set OD.SLOT_RESULT 0

/-- SLOT_LOAD (R183). -/
def execSlotLoad (path : Path) (slot : Fin 64) (s : State) : Host.Outcome State Fault Refusal :=
  s.does (fun c => c.byActive path (fun c => c.slotLoad slot.val))

/-- Save: the solved shadow map and settings into the slot (R183). -/
def Core.slotSave (c : Core) (n : Nat) : Core :=
  if c.rd OD.SHADOW_SOLVED = 0 then c.ends abNoMap
  else if c.slotInUse n then c.ends abRunning
  else
    let c := c.eccRead (mapMark true)
    let m := storeListed c.shd OD.CONN_MAP
    let d := c.rd OD.SHADOW_DISTURBS
    (c.putSlot n m (storeListed c.shd settingsObj)
      (2 ^ 31 + 2 ^ 30 + bn (d != 0) * 2 ^ 29 + 3 * 2 ^ 26 + circuitCount m * 2 ^ 16 + d)).set OD.SLOT_RESULT 0

/-- SLOT_SAVE (R183). -/
def execSlotSave (path : Path) (slot : Fin 64) (s : State) : Host.Outcome State Fault Refusal :=
  s.does (fun c => c.byActive path (fun c => c.slotSave slot.val))

/-- Erase: every entry Dark, every word 0, the status word clear (R183). -/
def Core.slotErase (c : Core) (n : Nat) : Core :=
  if c.slotInUse n then c.ends abRunning else (c.putSlot n [] [] 0).set OD.SLOT_RESULT 0

/-- SLOT_ERASE (R183). -/
def execSlotErase (path : Path) (slot : Fin 64) (s : State) : Host.Outcome State Fault Refusal :=
  s.does (fun c => c.byActive path (fun c => c.slotErase slot.val))

end Sys2Proof.Machine
end

