-- ==== Sys2Proof/Machine/Ports.lean ====
section
/-! DEFINITION. Lanes and packet ports: which lanes form a port, Up and Down, the circuit guard, ELS light and the
timetable's closures (R11, R22, R204, R220, R229, R230, R233, R234, R413). -/

namespace Sys2Proof.Machine

/-- The conditions of R233 but for UP_HOLD; deskew comes with the locks of the lanes (DEDUCED, log 18). -/
def Core.portReady (c : Core) (p : Nat) : Bool :=
  c.portEnabled p && c.lanesOn &&
    (c.portLanes p).all (fun k => (c.lane k).lock && (c.lane k).elsOk && !(c.lane k).faultDown)

/-- A port comes Up (R233). -/
def Core.portUp (c : Core) (p : Nat) : Core := c.setPort p { c.port p with up := true, downSince := none, flushed := false }

/-- A port that is Down comes Up once every condition of R233 holds and UP_HOLD has elapsed since the last became true. -/
def Core.tryUp (c : Core) (p : Nat) : Core :=
  if ¬ (c.port p).up ∧ c.portReady p ∧ (c.port p).since + nsU (1000000 * portHold (c.portCfg p)) ≤ c.up then c.portUp p else c

/-- UP_HOLD_EXPIRE (R233). -/
def execUpHoldExpire (port : Lane) (s : State) : Host.Outcome State Fault Refusal := s.does (fun c => c.tryUp port.val)

/-- Whether the loss of a port raises its port-down source: not in a power state without lanes nor for a lane fault, and not where
locks lost inside a guard window are all that fails (R234). -/
def Core.downFires (c : Core) (p : Nat) : Bool :=
  c.lanesOn && !(c.portLanes p).any (fun k => (c.lane k).faultDown) &&
    (c.portLanes p).any (fun k => !(c.lane k).elsOk || (!(c.lane k).lock && !(c.lane k).lostIn))

/-- A frame boundary for a port: Up with a condition of R233 failed, it goes Down (R234). A port that is Down without GUARDED counts
toward its flush (R273). -/
def Core.portBoundary (c : Core) (p : Nat) : Core :=
  if (c.port p).up ∧ ¬ c.portReady p then c.portDown p (c.downFires p)
  else if ¬ (c.port p).up ∧ c.lanesOn ∧ ¬ c.portGuarded p ∧ ¬ (c.port p).flushed ∧ (c.port p).downSince = none then
    c.setPort p { c.port p with downSince := some c.up }
  else c

/-! ### Lanes (R233, R234) -/

/-- Windows of a lane end at receive lock, but not before T + 3 us (R204). -/
def Core.lockEndsGuard (c : Core) (k : Nat) : Core :=
  { c with trav := { c.trav with guards := c.trav.guards.filter (fun g => !(g.lane == k && decide (g.t + nsU 3000 ≤ c.now))) } }

/-- Ports whose guard has just ended: the count toward a flush starts for those that are Down (R204, R273). -/
def Core.guardEnded (c : Core) (lanes : List Nat) : Core :=
  (c.enabledPorts.filter (fun p => (c.portLanes p).any (fun l => lanes.contains l))).foldl (fun (c : Core) p =>
    if c.portGuarded p then c
    else
      let c := c.gateEdges p
      if (c.port p).up ∨ (c.port p).downSince.isSome then c
      else c.setPort p { c.port p with downSince := some c.up }) c

/-- Whether a lane's port is inside a guard window. -/
def Core.insideGuard (c : Core) (k : Nat) : Bool := (c.portOf k).any c.portGuarded

/-- A lane gains receive lock: it may end a guard window, and UP_HOLD does not apply to it inside one (R204, R233). -/
def Core.laneLock (c : Core) (k : Nat) : Core :=
  if ¬ c.lanesOn ∨ (c.lane k).lock then c
  else
    let inside := c.insideGuard k
    let c := (c.setLane k { c.lane k with lock := true, lostIn := false }).lockEndsGuard k
    match c.portOf k with
    | none => c
    | some p =>
      let c := (if inside then c else c.restartHold p).tryUp p
      if inside && !c.portGuarded p then c.guardEnded [k] else c

/-- LANE_LOCK (R233). -/
def execLaneLock (lane : Lane) (at_ : Nat) (s : State) : Host.Outcome State Fault Refusal :=
  s.does (fun c => (c.advance at_).laneLock lane.val)

/-- A lane loses lock; its port goes Down at the next boundary (R234). -/
def Core.laneLoss (c : Core) (k : Nat) : Core :=
  if (c.lane k).lock then c.setLane k { c.lane k with lock := false, lostIn := c.insideGuard k } else c

/-- LANE_LOCK_LOSS (R234). -/
def execLaneLockLoss (lane : Lane) (s : State) : Host.Outcome State Fault Refusal := s.does (fun c => c.laneLoss lane.val)

/-- The light of an ELS fiber fails, or returns, also while the dies are held in reset (R11, R413): ELS_OK follows the scan reading. -/
def execElsLightLoss (fiber : Fin 8) (s : State) : Host.Outcome State Fault Refusal :=
  .next (s.pin (fun c => if c.elsDark.contains fiber.val then c else { c with elsDark := c.elsDark ++ [fiber.val] }))

/-- ELS_LIGHT_RETURN (R413). -/
def execElsLightReturn (fiber : Fin 8) (s : State) : Host.Outcome State Fault Refusal :=
  .next (s.pin (fun c => { c with elsDark := c.elsDark.filter (· != fiber.val) }))

/-- A lane sends light: its fiber has light, and the lanes are powered or pass it for a full fringe calibration (R11, R147, R234). -/
def Core.laneSends (c : Core) (k : Nat) : Bool := (c.lanesOn || c.fringeRunning) && !c.elsDark.contains (k / 16)

/-- A scan reading of an ELS fiber, 2^-15 mW: +16.0 dBm is 39.8107 mW, +16.5 dBm 44.6684 mW (R126, R413). -/
def Core.elsReading (c : Core) (e : Nat) (code : Int) : Core :=
  let put := fun (c : Core) (ok : Bool) => (rangeFrom (16 * e) 16).foldl (fun (c : Core) k =>
    c.setLane k { c.lane k with elsOk := ok }) c
  let was := (c.lane (16 * e)).elsOk
  if code ≤ 1304517 then (put c false).hold (24 + e)
  else if 1463693 ≤ code then
    let c := (put c true).drop (24 + e)
    if was then c
    else
      let ports := c.enabledPorts.filter (fun p => (c.portLanes p).any (fun k => k / 16 == e))
      ports.foldl (fun (c : Core) p => (c.restartHold p).tryUp p) c
  else c

/-! ### PORT_CONFIG (R229, R230) -/

/-- PORT_CONFIG of a base lane once every accepted write is in effect. -/
def Core.portNext (c : Core) (p : Nat) : Nat := c.rdNext OD.PORT_CONFIG p

/-- The abort of a write to PORT_CONFIG (R229, R230, R391). -/
def Core.portCheck (c : Core) (k v : Nat) : Nat :=
  let w := portWidth v
  if portMax v < 64 ∨ 10240 < portMax v ∨ 10000 < portHold v then abValue
  else if c.portEnabled k ∧ bits (c.portCfg k) 30 29 ≠ bits v 30 29 then abRunning
  else if portOn v ∧ k % w ≠ 0 then abValue
  else if portOn v ∧ (List.range 128).any (fun q =>
      let x := c.portNext q
      decide (q ≠ k) && portOn x && decide (q < k + w ∧ k < q + portWidth x)) then abValue
  else if portOn v ∧ ¬ c.portEnabled k ∧ (rangeFrom k w).any c.pointUsed then abRunning
  else 0

/-- PORT_CONFIG_WRITE (R229). -/
def execPortConfigWrite (path : Path) (port : Lane) (value : BitVec 32) (s : State) : Host.Outcome State Fault Refusal :=
  s.does (fun c => c.byActive path (fun c => c.rwWrite OD.PORT_CONFIG port.val value.toNat (c.portCheck port.val value.toNat)))

/-! ### The circuit guard (R22, R204) -/

/-- GUARD_OPEN: DRAIN_GUARD before T every lane with an altered circuit is guarded; guarded ports are counted (R204). -/
def Core.guardOpen (c : Core) : Core :=
  match c.trav.cur with
  | none => c
  | some k =>
    if ¬ k.begun ∨ k.suspended ∨ k.linkFailed ∨ c.frameEnd ≠ k.t ∨ k.lanes.isEmpty ∨ c.trav.guards.any (fun g => g.t == k.t) then c
    else
      let c := c.advanceTo (k.t - nsU (c.rd OD.DRAIN_GUARD))
      let ws := (k.lanes.filter (fun p => (c.portOf p.1).isSome)).map (fun p => GuardWin.mk p.1 p.2 k.t)
      let c := { c with trav := { c.trav with guards := c.trav.guards ++ ws } }
      let ports := c.enabledPorts.filter (fun p => (c.portLanes p).any (fun l => k.lanes.any (fun w => w.1 == l)))
      let c := ports.foldl (fun (c : Core) p => (c.setPort p { c.port p with downSince := none }).gateEdges p) c
      c.inc OD.GUARDS 0 ports.length

/-- GUARD_OPEN (R204). -/
def execGuardOpen (s : State) : Host.Outcome State Fault Refusal := s.does Core.guardOpen

/-- T + 3 us: windows without an altered receive circuit end, and those of lanes that have lock or whose port a closure of
the timetable holds (R204, R220). -/
def Core.guardMin (c : Core) : Core :=
  let due := c.trav.guards.filter (fun g => decide (g.t + nsU 3000 < c.frameEnd))
  match due with
  | [] => c
  | g :: _ =>
    let c := c.advanceTo (g.t + nsU 3000)
    let ends := due.filter (fun g => !g.rx || (c.lane g.lane).lock || (c.portOf g.lane).any c.derivedNow)
    let c := { c with trav := { c.trav with guards := c.trav.guards.filter (fun g => !ends.contains g) } }
    c.guardEnded (ends.map (·.lane))

/-- GUARD_MIN_END (R204). -/
def execGuardMinEnd (s : State) : Host.Outcome State Fault Refusal := s.does Core.guardMin

/-- T + 43 us without lock: the guard ends there, the port is Down and its source fires (R204, R234). -/
def Core.guardRelock (c : Core) : Core :=
  let due := c.trav.guards.filter (fun g => g.rx && decide (g.t + nsU 43000 < c.frameEnd) && !(c.lane g.lane).lock)
  match due with
  | [] => c
  | g :: _ =>
    let c := c.advanceTo (g.t + nsU 43000)
    let c := { c with trav := { c.trav with guards := c.trav.guards.filter (fun g => !due.contains g) } }
    let late := due.filter (fun g => !(c.portOf g.lane).any c.derivedNow)
    let c := c.inc OD.GUARD_RELOCK_TIMEOUTS 0 late.length
    let c := if late.isEmpty then c else c.pulse 263
    let ports := c.enabledPorts.filter (fun p => (c.portLanes p).any (fun l => late.any (fun g => g.lane == l)))
    let c := ports.foldl (fun (c : Core) p => if c.portGuarded p then c else c.portDown p true) c
    c.guardEnded (due.map (·.lane))

/-- GUARD_RELOCK_TIMEOUT (R204). -/
def execGuardRelockTimeout (s : State) : Host.Outcome State Fault Refusal := s.does Core.guardRelock

/-- LANE_STATE of a lane (R250). -/
def Core.laneState (c : Core) (k : Nat) : Nat :=
  let l := c.lane k
  let st := match c.portOf k with
    | none => 0
    | some p => if ¬ c.lanesOn then 0 else if (c.port p).up then 2 else 1
  st + 4 * bn l.faultDown + 8 * bn l.lock + 16 * bn l.elsOk + 32 * bn (c.laneGuarded k) + 64 * bn l.faultSeen

end Sys2Proof.Machine
end

