-- ==== Sys2Proof/Machine/Timetable.lean ====
section
/-! DEFINITION. Timetables: entry lists, the grid, arming, transitions, replacement, freezing and resuming (R210 to R228). -/

namespace Sys2Proof.Machine

/-! ### Entry lists and the grid (R210, R211) -/

/-- Word of entry j of a bank. -/
def Core.ttWord (c : Core) (b j : Nat) : Nat := c.rd OD.TT_LIST (64 * b + j)

/-- SLOT and DWELL of an entry (R210). -/
def Core.ttSlot (c : Core) (b j : Nat) : Nat := bits (c.ttWord b j) 31 26
def Core.ttDwell (c : Core) (b j : Nat) : Nat := bits (c.ttWord b j) 23 0

/-- Entries that a bank runs. -/
def Core.ttCount (c : Core) (b : Nat) : Nat := if b = 0 then c.rd OD.TT_COUNT_0 else c.rd OD.TT_COUNT_1

/-- Slots that a bank names. -/
def Core.ttSlots (c : Core) (b : Nat) : List Nat := (List.range (c.ttCount b)).map (c.ttSlot b)

/-- Frames from the start of a cycle to entry j. -/
def Core.ttOffset (c : Core) (b j : Nat) : Nat := (List.range j).foldl (fun n i => n + c.ttDwell b i) 0

/-- The cycle C of a bank in units of an instant. -/
def Core.ttCycle (c : Core) (b : Nat) : Nat := c.ttOffset b (c.ttCount b) * frameUnits

/-- Transition instants of a grid before t. -/
def Core.ttIndex (c : Core) (b start t : Nat) : Nat :=
  let cyc := c.ttCycle b
  if t ≤ start ∨ cyc = 0 then 0
  else (t - start) / cyc * c.ttCount b +
    (List.range (c.ttCount b)).countP (fun j => decide (c.ttOffset b j * frameUnits < (t - start) % cyc))

/-- The n-th transition instant of a grid and its entry. -/
def Core.ttNth (c : Core) (b start n : Nat) : Instant × Nat :=
  let m := c.ttCount b
  if m = 0 then (start, 0) else (start + n / m * c.ttCycle b + c.ttOffset b (n % m) * frameUnits, n % m)

/-- The first transition instant of a grid at or after t, and its entry. -/
def Core.ttFrom (c : Core) (b start t : Nat) : Instant × Nat := c.ttNth b start (c.ttIndex b start t)

/-! ### Tracing (R215, R216) -/

/-- The start of the ramp-down of an output from its steady target under one set, for a transition at t: whole loop frames
that end by B(g - 2) (R197, R199). -/
def Core.restStart (c : Core) (a n : Tab Nat) (t : Instant) (o : Nat) : Int :=
  let ws := c.profiles
  let p := entryProfile (methodEntry a n o)
  let g := (genFrom (spScale (setPoint a (setWords a) (mapEntry a) (voaTe o))) 0 0 (floorSp a o)
    (profileVal ws p 0) (profileVal ws p 1) (profileVal ws p 2)).1
  let u := c.loopUnits
  ((t - 2 * frameUnits) / u * u : Nat) - ((segsLen g.segs + (u - 1)) / u * u : Nat)

/-- Outputs lit in the old map that glide with an altered circuit (R197, R218). -/
def rampingOutputs (a n : Tab Nat) : List Nat :=
  let cells := changedCells a n
  (listedOutputs a n).filter (fun o => !isDark (mapEntry a o) && altered a n cells o && glides a n o)

/-- Whether some VOA glides in a traverse from one set to another. -/
def anyGlide (a n : Tab Nat) : Bool :=
  let cells := changedCells a n
  (listedOutputs a n).any (fun o => glides a n o && (altered a n cells o ||
    (!isDark (mapEntry n o) &&
      decide (setPoint a (setWords a) (mapEntry a) (voaTe o) ≠ setPoint n (setWords n) (mapEntry n) (voaTe o)))))

/-- The TT_ENTRY_INFO word of a transition from one set to another (R227). -/
def Core.traceWord (c : Core) (a n : Tab Nat) : Nat :=
  let cells := changedCells a n
  let ks := (alteredLanes a n).map (·.1)
  (listedOutputs a n).countP (disturbed a n cells) * 2 ^ 22 + cells.length * 2 ^ 9 + bn (anyGlide a n) * 2 ^ 8
    + c.enabledPorts.countP (fun p => (c.portLanes p).any (fun k => ks.contains k))

/-- The sets before and after the transition into entry j from the entry before it, counted cyclically. -/
def Core.ttSets (c : Core) (b j : Nat) : Tab Nat × Tab Nat :=
  let m := c.ttCount b
  (c.withSlot c.act (c.ttSlot b ((j + m - 1) % m)), c.withSlot c.act (c.ttSlot b j))

/-- Traces every transition of a bank (R214, R216). -/
def Core.ttTraceBank (c : Core) (b : Nat) : Core :=
  (List.range (c.ttCount b)).foldl (fun (c : Core) j =>
    let w := c.ttSets b j
    c.wr OD.TT_ENTRY_INFO (64 * b + j) (c.traceWord w.1 w.2)) c

/-- Whether a ramp-down of the transition into entry j would begin before the transition into the entry before it, at some
phase that the cycles of the grid give the boundaries of the loop frames (R218). -/
def Core.ttRampLate (c : Core) (base : Instant) (b j : Nat) : Bool :=
  let m := c.ttCount b
  let w := c.ttSets b j
  let dwell := c.ttDwell b ((j + m - 1) % m) * frameUnits
  let at_ := fun k => base + (k + 1) * c.ttCycle b + c.ttOffset b j * frameUnits
  (rampingOutputs w.1 w.2).any (fun o =>
    [0, 1, 2, 3].any (fun k => decide (c.restStart w.1 w.2 (at_ k) o < ((at_ k - dwell : Nat) : Int))))

/-- Checks 6 to 8 of R212 for a bank: the abort, 0 if all pass, and the entry that caused it (FFh none). -/
def Core.ttCheck (c : Core) (b : Nat) : Nat × Nat :=
  let base := ofTime64 (c.rd OD.TT_BASE)
  let js := List.range (c.ttCount b)
  if ¬ isBoundary base ∨ c.now + 86400 * secondUnits < base then (abValue, 0xFF)
  else match js.find? (fun j => decide (c.ttDwell b j < 2) || decide (bits (c.ttWord b j) 25 24 ≠ 0)) with
    | some j => (abValue, j)
    | none =>
      match js.find? (fun j => !c.slotValid (c.ttSlot b j)) with
      | some j => (abNoMap, j)
      | none =>
        match js.find? (c.ttRampLate base b) with
        | some j => (abValue, j)
        | none => (0, 0xFF)

/-! ### Scheduling transitions (R213, R214, R217, R218) -/

/-- Plans the transition at t into a slot that has been loaded into the shadow set, from the set then active (R214, R218). A ramp
that no boundary is left for starts at once, and a transition past its B(g - 3) has begun (R222). -/
def Core.ttPlan (c : Core) (b j : Nat) (t : Instant) : Core :=
  let n := c.ttSlot b j
  let c := c.putShadow (c.slotMap n) (c.slotSettings n)
  let c := ((c.set OD.SHADOW_SOLVED 1).set OD.SHADOW_ORIGIN 3).set OD.SHADOW_DISTURBS (bits (c.slotStatus n) 9 0)
  let dest := c.withSlot c.act n
  let ws := c.profiles
  let ramps := (c.planRamps ws dest t).map (fun p => (p.1, p.2.getD c.now))
  let k : Commit := ⟨0, t, decide (t ≤ c.now + 3 * frameUnits), false, some n, ws, ramps, alteredLanes c.act dest, [], false, false, false⟩
  { c.set OD.TT_NEXT_T (time64 t) with
    trav := { c.trav with cur := some k }
    tt := { c.tt with nextEntry := j, nextBank := b } }

/-- Loads the slot of a transition at t: one that has lost VALID, be it by an error which this read finds, stops the timetable (R186,
R214, R219). -/
def Core.ttLoad (c : Core) (b j : Nat) (t : Instant) : Core :=
  let c := c.eccRead (slotMark (c.ttSlot b j))
  if c.slotValid (c.ttSlot b j) then c.ttPlan b j t else c.ttHalt 2

/-- IN_USE set on the slots of a bank, or cleared on those it names and another does not (R181, R213, R223). -/
def Core.ttUse (c : Core) (slots : List Nat) (on : Bool) : Core :=
  slots.foldl (fun (c : Core) n => c.wr OD.SLOT_STATUS n (setBits (c.slotStatus n) 28 28 (bn on))) c

/-- A pending replacement whose instant has passed comes into force, without a transition of its own. -/
def Core.ttAdopt (c : Core) (b : Nat) (r : Instant) : Core :=
  let old := c.rd OD.TT_RUN_BANK
  let c := c.ttUse ((c.ttSlots old).filter (fun n => !(c.ttSlots b).contains n)) false
  let c := ((c.set OD.TT_RUN_BANK b).set OD.TT_START (time64 r)).set OD.TT_CYCLE (c.ttCycle b / unitsPerNs)
  { c.set OD.TT_REPLACE_AT 0 with tt := { c.tt with start := r, replace := none } }

/-- The next transition: the first of the grid at or after t, or that of a replacement before it. From the instant of a replacement
on the grid is that of its bank, though it comes into force only when that instant has passed (R214, R219, R223). -/
def Core.ttNext (c : Core) (t : Instant) : Core :=
  let c := match c.tt.replace with
    | some (r, b) => if r < t ∧ r ≤ c.now then c.ttAdopt b r else c
    | none => c
  let x := c.ttFrom (c.rd OD.TT_RUN_BANK) c.tt.start t
  let y := match c.tt.replace with
    | some (r, b) => if r < t then ((c.ttFrom b r t).1, b, (c.ttFrom b r t).2) else if r ≤ x.1 then (r, b, 0)
                     else (x.1, c.rd OD.TT_RUN_BANK, x.2)
    | none => (x.1, c.rd OD.TT_RUN_BANK, x.2)
  c.ttLoad y.2.1 y.2.2 y.1

/-- The next transition after an interruption, with the entries passed over counted (R39, R219, R225). -/
def Core.ttRejoin (c : Core) (t : Instant) : Core :=
  let b := c.rd OD.TT_RUN_BANK
  let from_ := match c.tt.last with
    | some l => if l < c.tt.start then 0 else c.ttIndex b c.tt.start l + 1
    | none => 0
  let n := match c.tt.replace with
    | some (r, b') => if r < t then c.ttIndex b c.tt.start r - from_ + c.ttIndex b' r t else c.ttIndex b c.tt.start t - from_
    | none => c.ttIndex b c.tt.start t - from_
  let c := if n = 0 then c else (c.inc OD.TT_SKIPPED 0 n).pulse 267
  c.ttNext t

/-- A transition that is pending is withdrawn: its elements compute again and its ramps turn back (R192). -/
def Core.ttDrop (c : Core) : Core :=
  match c.trav.cur with
  | some k =>
    if k.slot.isSome then (c.reverseRamps.unfreeze k.moving).dropTraverse else c
  | none => c

/-- The first of the instants start + k × cycle from which every ramp-down of a transition can begin two frames from now
(R213, R223). -/
def Core.ttStart (c : Core) (ok : Instant → Bool) (cyc : Nat) : Nat → Instant → Instant
  | 0, t => t
  | n + 1, t => if ok t then t else Core.ttStart c ok cyc n (t + cyc)

/-- Two frames: the lead of a timetable start (R41). -/
abbrev ttLead : Nat := 2 * frameUnits

/-- Whether every ramp-down of the first transition at t can begin at or after now + 2 frames. -/
def Core.ttRampsIn (c : Core) (n : Tab Nat) (t : Instant) : Bool :=
  (c.planRamps c.profiles n t).all (fun p => p.2.any (fun s => decide (c.now + ttLead ≤ s)))

/-! ### Commands (R212 to R225) -/

/-- TT_CMD 1 (R212, R213). -/
def Core.ttArm (c : Core) : Core :=
  let b := c.rd OD.TT_BANK
  if c.rd OD.UNSYNCHRONIZED = 1 then c.ends abExport
  else if c.timeState = tsFree then c.ends abFree
  else if c.power ≠ psRun ∧ c.power ≠ psQuiet then c.ends abRole
  else if c.rd OD.TT_STATE ≠ 0 ∨ c.trav.cur.isSome ∨ c.trav.copyBack ∨ c.fringeRunning ∨ c.leavingDormant then c.ends abRunning
  else
    let r := c.ttCheck b
    let c := c.set OD.TT_FIRST_BAD r.2
    if r.1 ≠ 0 then c.ends r.1
    else
      let c := (c.ttTraceBank b).ttUse (c.ttSlots b) true
      let cyc := c.ttCycle b
      let first := gridFrom (ofTime64 (c.rd OD.TT_BASE)) cyc (c.now + ttLead)
      let dest := c.withSlot c.act (c.ttSlot b 0)
      let s := c.ttStart (c.ttRampsIn dest) cyc 300000 first
      let c := (((c.set OD.TT_STATE 1).set OD.TT_RUN_BANK b).set OD.TT_START (time64 s)).set OD.TT_CYCLE (cyc / unitsPerNs)
      -- on a boundary the first transition can be two frames away: its elements freeze at once (R20, R195)
      ({ c with tt := ⟨s, 0, b, none, none, false, none, false⟩ }.ttLoad b 0 s).traverseBegin.freeze

/-- TT_ARM (R212). -/
def execTtArm (path : Path) (s : State) : Host.Outcome State Fault Refusal := s.does (fun c => c.byActive path Core.ttArm)

/-- TT_CMD 2: no transition runs but one that has begun (R222). -/
def Core.ttStop (c : Core) : Core :=
  if c.rd OD.TT_STATE = 0 then c.ends abRunning
  else if c.trav.cur.any (fun k => k.begun) then { c with tt := { c.tt with stopping := true } }
  else c.ttHalt 1

/-- TT_STOP (R222). -/
def execTtStop (path : Path) (s : State) : Host.Outcome State Fault Refusal := s.does (fun c => c.byActive path Core.ttStop)

/-- TT_CMD 3 (R223, R322). -/
def Core.ttReplace (c : Core) : Core :=
  let b := c.rd OD.TT_BANK
  let run := c.rd OD.TT_RUN_BANK
  if c.rd OD.UNSYNCHRONIZED = 1 then c.ends abExport
  else if c.rd OD.TT_STATE ≠ 2 ∨ c.tt.replace.isSome ∨ b = run ∨ c.tt.stopping then c.ends abRunning
  else
    let r := c.ttCheck b
    let c := c.set OD.TT_FIRST_BAD r.2
    if r.1 ≠ 0 then c.ends r.1
    else
      let c := c.ttUse (c.ttSlots b) true
      let before := c.withSlot c.act (c.ttSlot run (c.ttCount run - 1))
      let dest := c.withSlot c.act (c.ttSlot b 0)
      let cyc := c.ttCycle run
      let inTime := fun t => (rampingOutputs before dest).all (fun o =>
        decide (((c.now + ttLead : Nat) : Int) ≤ c.restStart before dest t o))
      let at_ := c.ttStart inTime cyc 300000 (gridFrom c.tt.start cyc (c.now + ttLead))
      let c := { c.set OD.TT_REPLACE_AT (time64 at_) with tt := { c.tt with replace := some (at_, b) } }
      match c.trav.cur with
      | some k => if at_ ≤ k.t then (c.ttDrop.ttNext at_).traverseBegin.freeze else c
      | none => c

/-- TT_REPLACE (R223). -/
def execTtReplace (path : Path) (s : State) : Host.Outcome State Fault Refusal :=
  s.does (fun c => c.byActive path Core.ttReplace)

/-- TT_CMD 4: the first instant of the grid at least 2 ms ahead, into the entry the grid assigns (R225, R322). -/
def Core.ttResume (c : Core) : Core :=
  if c.rd OD.UNSYNCHRONIZED = 1 then c.ends abExport
  else if c.rd OD.TT_STATE ≠ 3 then c.ends abRunning
  else (c.set OD.TT_STATE (if c.tt.entered.isSome then 2 else 1)).ttRejoin (c.now + leadUnits)

/-- TT_RESUME (R225). -/
def execTtResume (path : Path) (s : State) : Host.Outcome State Fault Refusal :=
  s.does (fun c => c.byActive path Core.ttResume)

/-- TT_CMD 5 (R216). -/
def Core.ttTrace (c : Core) : Core :=
  let b := c.rd OD.TT_BANK
  let r := c.ttCheck b
  let c := c.set OD.TT_FIRST_BAD r.2
  if r.1 ≠ 0 then c.ends r.1 else c.ttTraceBank b

/-- TT_TRACE (R216). -/
def execTtTrace (path : Path) (s : State) : Host.Outcome State Fault Refusal := s.does (fun c => c.byActive path Core.ttTrace)

/-- A write of TT_CMD by its value (R227). -/
def Core.ttCmd (c : Core) (v : Nat) : Core :=
  match v with
  | 1 => c.ttArm
  | 2 => c.ttStop
  | 3 => c.ttReplace
  | 4 => c.ttResume
  | 5 => c.ttTrace
  | _ => c.ends abValue

/-- The abort of a write to an object of the timetable (R4, R224, R227). -/
def Core.ttWriteCheck (c : Core) (obj e v : Nat) : Nat :=
  let on := decide (c.rd OD.TT_STATE ≠ 0)
  let run := c.rd OD.TT_RUN_BANK
  if obj = OD.TT_LIST ∧ bits v 25 24 ≠ 0 then abValue
  else if on = false then 0
  else if obj = OD.TT_GATE_MODE ∨ obj = OD.TT_BASE then abRunning
  else if obj = OD.TT_BANK ∧ v = run then abRunning
  else if (obj = OD.TT_COUNT_0 ∧ run = 0) ∨ (obj = OD.TT_COUNT_1 ∧ run = 1) then abRunning
  else if obj = OD.TT_LIST ∧ e / 64 = run then abRunning
  else if obj = OD.TT_GATE_MASK ∧ e / 8192 = run then abRunning
  else 0

/-! ### At frame boundaries (R211, R219, R222, R225) -/

/-- The timetable freezes on its entry (R225). -/
def Core.ttFreezeNow (c : Core) : Core :=
  let c := ((c.ttDrop.set OD.TT_STATE 3).set OD.TT_NEXT_T 0).pulse 266
  { c with tt := { c.tt with freezing := false } }

/-- A gap or Unsupervised begins: the timetable freezes, after a transition that has begun (R225). -/
def Core.ttFreeze (c : Core) : Core :=
  if c.rd OD.TT_STATE = 1 ∨ c.rd OD.TT_STATE = 2 then
    if c.trav.cur.any (fun k => k.begun) then { c with tt := { c.tt with freezing := true } } else c.ttFreezeNow
  else c

/-- What follows a transition instant: a stop or a freeze that waited, else the next transition. -/
def Core.ttAfter (c : Core) (t : Instant) : Core :=
  if c.tt.stopping then c.ttHalt 1
  else if c.tt.freezing then c.ttFreezeNow
  else c.ttNext (t + 1)

/-- The instant of a replacement passes without a transition: a timetable that runs has its new bank and grid from then on; of one
that is frozen TT_REPLACE_AT reports it no longer, and the grid that it begins is rejoined at a resume (R223, R225). -/
def Core.ttReplacePassed (c : Core) : Core :=
  match c.tt.replace with
  | some (r, b) => if c.now < r then c else if c.rd OD.TT_STATE = 2 then c.ttAdopt b r else c.set OD.TT_REPLACE_AT 0
  | none => c

/-- A transition instant: the swap, TT_ENTRY, or a miss when a link is down (R211, R219). -/
def Core.ttAt (c : Core) : Core :=
  match c.trav.cur with
  | none => c.ttReplacePassed
  | some k =>
    if k.slot.isNone ∨ c.now < k.t then c.ttReplacePassed
    else
      let b := c.tt.nextBank
      let j := c.tt.nextEntry
      let c := { c with tt := { c.tt with last := some k.t } }
      if k.linkFailed ∨ (¬ k.checked ∧ [0, 1, 2, 3].any (fun d => !(c.link d).up)) then
        (c.ttDrop.inc OD.TT_MISSED).ttAfter k.t
      else
        let c := c.swap k
        let c := if c.rd OD.TT_STATE = 2 ∧ j = 0 then c.inc64 OD.TT_CYCLES else c
        let c := match c.tt.replace with
          | some (r, b) => if r ≤ k.t then c.ttAdopt b r else c
          | none => c
        let c := ((c.set OD.TT_ENTRY j).set OD.TT_RUN_BANK b).set OD.TT_STATE 2
        { c with tt := { c.tt with entered := some b } }.ttAfter k.t

/-- A step of module time: the next transition is the first of the grid at least 2 ms after it (R39, R40); a stop or a freeze that
waited for the one which the step takes away acts at once (R222, R225). -/
def Core.ttTimeStep (c : Core) : Core :=
  if c.rd OD.TT_STATE = 1 ∨ c.rd OD.TT_STATE = 2 then
    if c.tt.stopping then c.ttDrop.ttHalt 1
    else if c.tt.freezing then c.ttDrop.ttFreezeNow
    else c.ttDrop.ttRejoin (c.frameEnd + leadUnits)
  else c

end Sys2Proof.Machine
end

