-- ==== Sys2Proof/Machine/Ingress.lean ====
section
/-! DEFINITION. The packet engine up to the choice of a queue: reception, the parse graph, keys, the exact-match table and
its editing (R229 to R245, R249). -/

namespace Sys2Proof.Machine

/-! ### Reception (R231, R235) -/

/-- A byte of a frame. -/
def byteAt (bs : List Byte) (k : Nat) : Nat := (bs.getD k 0).toNat

/-- The FCS of a frame's bytes before it, as sent: the CRC-32 least significant byte first (log 14). -/
def fcsOf (body : List Byte) : List Byte := (beBytes 4 (crc32 body)).reverse

/-- Whether the FCS of a frame is right. -/
def fcsGood (bs : List Byte) : Bool := fcsOf (bs.take (bs.length - 4)) == bs.drop (bs.length - 4)

/-- PAUSE and priority-based flow control: MAC control frames of opcode 1 and 101h (R231, log 14). -/
def isPause (bs : List Byte) : Bool :=
  decide (fieldAt bs 12 2 = 0x8808) && decide (fieldAt bs 14 2 = 0x0001 ∨ fieldAt bs 14 2 = 0x0101)

/-- Bytes in a list of packets. -/
def packetBytes (l : List Packet) : Nat := l.foldl (fun n p => n + p.bytes.length) 0

/-- Counts a frame received by its index in PORT_RX_COUNTS. -/
def Core.rxCount (c : Core) (p i : Nat) (n : Nat := 1) : Core := c.inc64 OD.PORT_RX_COUNTS (8 * p + i) n

/-- PATH_DELAY (R54, R61). -/
def Core.pathDelay (c : Core) (o : Nat) : Nat :=
  let e := mapEntry c.act o
  if isDark e then 0 else Config.pathDelay (entryInput e) o (pathOf (setWords c.act) (entryInput e)).1

/-- A calibrated delay in ps as units of an instant. -/
def psUnits (ps : Nat) : Nat := ps * 65536 / 1000

/-- From the face of the external port that the active map circuits to lane k, to the lane; 0 for a lane that no external port reaches,
whose plane is at its fabric port (R28; for a lane-to-lane circuit DEDUCED, log 29). -/
def Core.rxDelay (c : Core) (k : Nat) : Nat :=
  let e := mapEntry c.act (384 + k)
  if isDark e ∨ 384 ≤ entryInput e then 0 else psUnits (c.pathDelay (384 + k))

/-- From lane k to the face of the external port that the active map circuits it to (R28). -/
def Core.txDelay (c : Core) (k : Nat) : Nat :=
  match (List.range 384).find? (fun o => !isDark (mapEntry c.act o) && decide (entryInput (mapEntry c.act o) = 384 + k)) with
  | some o => psUnits (c.pathDelay o)
  | none => 0

/-- The time that a frame of L bytes takes on a port from its time-stamp point to its last byte: L × 8 / (100 × w) ns. -/
def Core.wireTime (c : Core) (p len : Nat) : Nat := len * 8 * 65536 / (100 * portWidth (c.portCfg p))

/-- A frame received waits for the bandwidth window in which its last byte passes the plane of R28 (R382). -/
def Core.bwTakes (c : Core) (p len : Nat) : Core :=
  { c with pkt := { c.pkt with bwRx := Tab.modify c.pkt.bwRx p [] (· ++ [(c.up + c.wireTime p len - c.rxDelay p, len)]) } }

/-- A complete frame arrives on a port (R231, R235): in its own counter when it is too short, too long, damaged or a PAUSE,
else to the ingress buffer of 16 KiB a lane. -/
def Core.receive (c : Core) (p : Nat) (bs : List Byte) : Core :=
  if c.portEnabled p = false ∨ (c.port p).up = false then c
  else
    let len := bs.length
    let c := c.bwTakes p len
    if len < 64 then c.rxCount p 3
    else if portMax (c.portCfg p) < len then c.rxCount p 4
    else if fcsGood bs = false then c.rxCount p 2
    else if isPause bs then c.rxCount p 5
    else
      let c := ((c.rxCount p 0).rxCount p 1 len).occur 0x01 p
      let q := Tab.get c.pkt.ingress p []
      if portWidth (c.portCfg p) * 16384 < packetBytes q + len then
        (c.inc64 OD.INGRESS_OVERRUNS).pulse (328 + p / 32)
      else
        let x : Packet := ⟨p, bs, c.now - c.rxDelay p, false, 0, 0, 0, 0, 0⟩
        { c with pkt := { c.pkt with ingress := Tab.put c.pkt.ingress p (q ++ [x]) [] } }

/-- PACKET_RECEIVE (R231): `at_` is the instant at which the lane sees the time-stamp point, in ns of the frame; the time-stamp is that of
the reference plane, earlier by the circuit's delay (R28). -/
def execPacketReceive (port : Lane) (at_ : Nat) (frame : List Byte) (s : State) : Host.Outcome State Fault Refusal :=
  s.does (fun c => (c.advance at_).receive port.val frame)

/-! ### The parse graph (R236 to R239) -/

/-- A parse node of a set (R236). -/
def nodeOf (st : Tab Nat) (n : Nat) : Nat := storeGet st (okey OD.PARSE_NODE n)

/-- The elements of PARSE_TRANS that can be valid: the factory graph's and those written since, rising. -/
def transElems (st : Tab Nat) : List Nat :=
  List.range 22 ++ ((storeListed st OD.PARSE_TRANS).map (·.1)).filter (fun e => decide (22 ≤ e))

/-- The node that the first matching transition of a node enters (R237). -/
def nextNode (st : Tab Nat) (n sel : Nat) : Option Nat :=
  (transElems st).findSome? (fun e =>
    let t := storeGet st (okey OD.PARSE_TRANS e)
    if bit t 63 ∧ bits t 62 55 = n ∧ Nat.land (bits t 46 31) (bits t 30 15) = Nat.land sel (bits t 30 15)
    then some (bits t 54 47) else none)

/-- The flag of a parse: none, PARSE_TRUNC or MALFORMED. -/
inductive ParseFlag where
  | none | trunc | malformed
deriving DecidableEq, Repr

/-- The highest byte a node reads at an offset (R238). -/
def nodeReads (w off : Nat) : Nat :=
  let sel := if bits w 46 42 = 0 then off else off + bits w 56 50 + (bits w 49 47 + bits w 46 42 - 1) / 8
  let len := if bits w 41 40 = 1 then off + bits w 32 26 else off
  let chk := if bits w 17 16 = 0 then off else off + bits w 15 9 + 1
  max sel (max len chk)

/-- The selector of a node (R236). -/
def nodeSel (bs : List Byte) (w off : Nat) : Nat :=
  let n := bits w 46 42
  if n = 0 then 0 else fieldAt bs (off + bits w 56 50) 3 / 2 ^ (24 - bits w 49 47 - n) % 2 ^ n

/-- One header after another (R238): recorded headers as (HDR_ID, offset), in order, and the flag. -/
def parseFrom (st : Tab Nat) (bs : List Byte) (fend : Int) : Nat → Nat → Nat → List (Nat × Nat) × ParseFlag
  | 0, n, _ => ([], if bit (nodeOf st n) 63 then .trunc else .none)
  | k + 1, n, off =>
    let w := nodeOf st n
    if ¬ bit w 63 then ([], .none)
    else if 255 < nodeReads w off then ([], .trunc)
    else if fend < (nodeReads w off : Int) then ([], .malformed)
    else
      let field := byteAt bs (off + bits w 32 26) / 2 ^ bits w 25 23 % 2 ^ (bits w 22 20 + 1)
      let adv := bits w 39 33 + (if bits w 41 40 = 1 then field * 2 ^ bits w 19 18 else 0)
      let tl := fieldAt bs (off + bits w 15 9) 2
      if adv < bits w 8 2 ∨ fend < (off : Int) + adv - 1 then ([], .malformed)
      else if bits w 17 16 = 1 ∧ (tl < adv ∨ fend < (off : Int) + tl - 1) then ([], .malformed)
      else if bits w 17 16 = 2 ∧ fend < (off : Int) + adv + tl - 1 then ([], .malformed)
      else
        let here := if bits w 62 57 = 63 then [] else [(bits w 62 57, off)]
        if bits w 41 40 = 2 then (here, .none)
        else match nextNode st n (nodeSel bs w off) with
          | none => (here, .none)
          | some m =>
            let r := parseFrom st bs fend k m (off + adv)
            (here ++ r.1, r.2)

/-- PORT_PARSE of a port (R250). -/
def portParse (st : Tab Nat) (p : Nat) : Nat := storeGet st (okey OD.PORT_PARSE p)

/-- The parse of a frame on a port: at most 16 headers (R238). -/
def parse (st : Tab Nat) (p : Nat) (bs : List Byte) : List (Nat × Nat) × ParseFlag :=
  parseFrom st bs ((bs.length : Int) - 5) 16 (bits (portParse st p) 15 8) 0

/-! ### Keys (R240, R241) -/

/-- The metadata block (R241). -/
def metaBlock (x : Packet) (trunc : Bool) : List Byte :=
  be 1 x.port ++ be 1 (bn x.second * 128 + bn trunc * 64) ++ be 1 x.tc ++ be 1 (if x.second then x.colour else 0)
    ++ be 4 (if x.second then x.meta4 else 0) ++ be 8 0

/-- One field of a key: its bytes, and whether it was extracted whole (R241). -/
def keyField (w : Nat) (bs block : List Byte) (hs : List (Nat × Nat)) : List Byte × Bool :=
  let len := bits w 14 9
  let at_ := bits w 22 15
  let masked := fun (l : List Byte) => match l with
    | b :: r => BitVec.ofNat 8 (Nat.land b.toNat (bits w 7 0)) :: r
    | [] => []
  let zeros := be len 0
  if bit w 30 then (if at_ + len ≤ 16 then (masked (slice block at_ len), true) else (zeros, false))
  else
    let hits := hs.filter (fun h => decide (h.1 = bits w 28 23))
    match (if bit w 29 then hits.getLast? else hits.head?) with
    | none => (zeros, false)
    | some h =>
      let from_ := h.2 + at_
      if from_ + len - 1 ≤ 255 ∧ (from_ : Int) + len - 1 ≤ (bs.length : Int) - 5 then (masked (slice bs from_ len), true)
      else (zeros, false)

/-- Key bytes and PRESENT of a profile (R241). -/
def buildKey (st : Tab Nat) (prof : Nat) (bs block : List Byte) (hs : List (Nat × Nat)) : List Byte × Nat :=
  let r := (List.range 8).foldl (fun (a : List Byte × Nat) i =>
    let w := storeGet st (okey OD.KEY_PROFILE (8 * prof + i))
    if bit w 31 then
      let f := keyField w bs block hs
      (a.1 ++ f.1, a.2 + bn f.2 * 2 ^ i)
    else a) ([], 0)
  (r.1 ++ be (40 - r.1.length) 0, r.2)

/-! ### The exact-match table (R242, R243) -/

/-- Key, control word and action of an entry (R242). -/
def entKey (v : Nat) : Nat := v / 2 ^ 192
def entControl (v : Nat) : Nat := v / 2 ^ 128 % 2 ^ 64
def entAction (v : Nat) : Nat := v % 2 ^ 128
def entValid (v : Nat) : Bool := bit (entControl v) 63
def entProfile (v : Nat) : Nat := bits (entControl v) 62 58
def entPresent (v : Nat) : Nat := bits (entControl v) 57 50

/-- What a lookup matches: profile, PRESENT and key bytes (R241). -/
def entMatch (v : Nat) : Nat × Nat × Nat := (entProfile v, entPresent v, entKey v)

/-- The way position of a key in way w. R243 gives the CRC 42 bytes; DEDUCED: w and PROFILE, 2 and 5 bits in that order, are the low
bits of the first, then come PRESENT and 40 of key (log 29). -/
def wayPos (m : Nat × Nat × Nat) (w : Nat) : Nat :=
  65536 * w + crc32 (be 1 (32 * w + m.1) ++ be 1 m.2.1 ++ be 40 m.2.2) % 65536

/-- The four way positions of a key. -/
def wayPositions (m : Nat × Nat × Nat) : List Nat := [0, 1, 2, 3].map (wayPos m)

/-- The entry of a bank at a position. -/
def classAt (st : Tab Nat) (pos : Nat) : Nat := storeGet st (okey OD.CLASS_TABLE pos)

/-- Valid positions of a bank. -/
def classUsed (st : Tab Nat) : List Nat :=
  (storeListed st OD.CLASS_TABLE).filterMap (fun p => if entValid p.2 then some p.1 else none)

/-- The position at which a key is valid (R243). -/
def classFind (st : Tab Nat) (m : Nat × Nat × Nat) : Option Nat :=
  (wayPositions m ++ (classUsed st).filter (fun p => decide (262144 ≤ p))).find?
    (fun p => entValid (classAt st p) && decide (entMatch (classAt st p) = m))

/-! ### Editing the shadow bank (R244, R245, R249) -/

/-- The classification stores are frozen: a double-bit ECC error in them fired as Major and is not cleared (R249, R336). -/
def Core.classFrozen (c : Core) : Bool := (c.src 334).major

/-- A word of an ingress store is written into the shadow set (R248, R342). -/
def Core.putIngress (c : Core) (obj e v : Nat) : Core := (c.wrS obj e v).eccWrite 2 (shadowMark + okey obj e)

/-- Sets an entry of the shadow bank. -/
def Core.putClass (c : Core) (pos v : Nat) : Core := c.putIngress OD.CLASS_TABLE pos v

/-- The entries that a search for a key reads: its way positions and the stash; `sh` says the shadow bank's (R243, R342). -/
def classMark (sh : Bool) (m : Nat × Nat × Nat) (k : Nat) : Bool :=
  (decide (shadowMark ≤ k) == sh) && decide (markObj k = OD.CLASS_TABLE) &&
    (decide (262144 ≤ markElem k) || (wayPositions m).contains (markElem k))

/-- One level of the search for a chain of moves: chains that end at an occupied position, nearest first (R244). -/
def chainLevel (st : Tab Nat) (chains : List (List Nat)) : List (List Nat) × Option (List Nat) :=
  let ext := chains.flatMap (fun ch => match ch with
    | [] => []
    | p :: _ => ((wayPositions (entMatch (classAt st p))).filter (fun q => !ch.contains q)).map (fun q => q :: ch))
  (ext, ext.find? (fun ch => match ch with
    | p :: _ => !entValid (classAt st p)
    | [] => false))

/-- The shortest chain of at most n more moves, last position first (R244). -/
def findChain (st : Tab Nat) : Nat → List (List Nat) → Option (List Nat)
  | 0, _ => none
  | n + 1, chains =>
    let r := chainLevel st chains
    match r.2 with
    | some ch => some ch
    | none => findChain st n r.1

/-- Moves the entries of a chain, from its free end back (R244). -/
def Core.moveChain (c : Core) : List Nat → Core
  | p :: q :: r => ((c.putClass p (classAt c.shd q))).moveChain (q :: r)
  | _ => c

/-- The lowest free stash position. -/
def freeStash (st : Tab Nat) : Option Nat :=
  let used := (classUsed st).filter (fun p => decide (262144 ≤ p))
  (List.range (used.length + 1)).findSome? (fun i =>
    if 262144 + i < 263168 ∧ ¬ used.contains (262144 + i) then some (262144 + i) else none)

/-- The end of a class command: CLASS_RESULT, and the abort of its write. -/
def Core.classEnds (c : Core) (code : Nat) : Core := (c.set OD.CLASS_RESULT code).ends code

/-- Places an entry at a position after the moves of a chain. -/
def Core.classPlaced (c : Core) (pos v moves : Nat) : Core :=
  (((c.putClass pos v).set OD.CLASS_POSITION pos).set OD.CLASS_MOVES moves).classEnds 0

/-- Insert (R244). -/
def Core.classInsert (c : Core) (v : Nat) : Core :=
  let st := c.shd
  let m := entMatch v
  match classFind st m with
  | some p => c.classPlaced p v 0
  | none =>
    match (wayPositions m).find? (fun p => !entValid (classAt st p)) with
    | some p => c.classPlaced p v 0
    | none =>
      match findChain st 4 ((wayPositions m).map (fun p => [p])) with
      | some ch => (c.moveChain ch).classPlaced (ch.getLast?.getD 0) v (ch.length - 1)
      | none =>
        match freeStash st with
        | some p => c.classPlaced p v 0
        | none => c.classEnds abClassFull

/-- Delete (R244). -/
def Core.classDelete (c : Core) (v : Nat) : Core :=
  match classFind c.shd (entMatch v) with
  | some p => ((c.putClass p (setBits (classAt c.shd p) 191 191 0)).set OD.CLASS_POSITION p).classEnds 0
  | none => (c.set OD.CLASS_POSITION 0xFFFFFFFF).classEnds 0

/-- Lookup in a bank: the hit's position, and the entry into CLASS_STAGE (R244). -/
def Core.classLookup (c : Core) (st : Tab Nat) (v : Nat) : Core :=
  match classFind st (entMatch v) with
  | some p => ((c.set OD.CLASS_POSITION p).set OD.CLASS_STAGE (classAt st p)).classEnds 0
  | none => (c.set OD.CLASS_POSITION 0xFFFFFFFF).classEnds 0

/-- Clear: VALID of every shadow entry (R244). -/
def Core.classClear (c : Core) : Core :=
  ((classUsed c.shd).foldl (fun (c : Core) p => c.putClass p (setBits (classAt c.shd p) 191 191 0)) c).classEnds 0

/-- A write of CLASS_CMD (R244). -/
def Core.classCmd (c : Core) (v : Nat) : Core :=
  let e := c.rd OD.CLASS_STAGE
  if v = 0 ∨ 5 < v then c.classEnds abValue
  else if c.shadowLocked ∨ c.classFrozen then c.classEnds abRunning
  else if v ≤ 4 ∧ entValid e = false then c.classEnds abValue
  else
    let c := c.eccRead (fun k => decide (v ≤ 4) && classMark (v ≠ 4) (entMatch e) k)
    match v with
    | 1 => c.classInsert e
    | 2 => c.classDelete e
    | 3 => c.classLookup c.shd e
    | 4 => c.classLookup c.act e
    | _ => c.classClear

/-- CLASS_INSERT (R244). -/
def execClassInsert (path : Path) (s : State) : Host.Outcome State Fault Refusal :=
  s.does (fun c => c.byActive path (fun c => c.classCmd 1))

/-- CLASS_DELETE (R244). -/
def execClassDelete (path : Path) (s : State) : Host.Outcome State Fault Refusal :=
  s.does (fun c => c.byActive path (fun c => c.classCmd 2))

/-- CLASS_LOOKUP_SHADOW (R244). -/
def execClassLookupShadow (path : Path) (s : State) : Host.Outcome State Fault Refusal :=
  s.does (fun c => c.byActive path (fun c => c.classCmd 3))

/-- CLASS_LOOKUP_ACTIVE (R244). -/
def execClassLookupActive (path : Path) (s : State) : Host.Outcome State Fault Refusal :=
  s.does (fun c => c.byActive path (fun c => c.classCmd 4))

/-- CLASS_CLEAR (R244). -/
def execClassClear (path : Path) (s : State) : Host.Outcome State Fault Refusal :=
  s.does (fun c => c.byActive path (fun c => c.classCmd 5))

/-- Whether the reserved fields of an action are as R4 and R246 ask. -/
def actionValid (a : Nat) : Bool :=
  let op := bits a 127 125
  decide (op ≤ 3) && decide (bits a 45 32 = 0) &&
    (match op with
      | 1 => decide (bits a 117 107 = 0)
      | 3 => decide (bits a 124 112 = 0)
      | _ => true)

/-- Whether an entry's reserved bits are 0 and its encodings are none that is reserved (R4, R242, R246). -/
def entryAllowed (v : Nat) : Bool := decide (bits (entControl v) 49 32 = 0) && actionValid (entAction v)

/-- The abort of a write of an entry to the shadow bank (R242, R245, R249). -/
def Core.classWriteCheck (c : Core) (pos v : Nat) : Nat :=
  if c.shadowLocked ∨ c.classFrozen then abRunning
  else if entryAllowed v = false then abValue
  else if entValid v = false then 0
  else if pos < 262144 ∧ ¬ (wayPositions (entMatch v)).contains pos then abClassPos
  else match classFind c.shd (entMatch v) with
    | some p => if p = pos then 0 else abClassDup
    | none => 0

/-- A write of CLASS_TABLE (R245). -/
def Core.classWrite (c : Core) (pos v : Nat) : Core :=
  let r := c.classWriteCheck pos v
  if r ≠ 0 then c.ends r else c.putClass pos v

/-- CLASS_TABLE_WRITE (R245). -/
def execClassTableWrite (path : Path) (position : Fin 263168) (value : BitVec 512) (s : State) :
    Host.Outcome State Fault Refusal :=
  s.does (fun c => c.byActive path (fun c => c.classWrite position.val value.toNat))

/-- The abort of a write to another ingress object of the sets (R236 to R241, R246, R249, R250). -/
def Core.ingressCheck (c : Core) (obj e v : Nat) : Nat :=
  if c.classFrozen then abRunning
  else if obj = OD.PARSE_NODE then
    (if 16 < bits v 46 42 ∨ bits v 41 40 = 3 ∨ bits v 17 16 = 3 ∨ bits v 1 0 ≠ 0 then abValue else 0)
  else if obj = OD.PARSE_TRANS then (if bits v 14 0 ≠ 0 then abValue else 0)
  else if obj = OD.PORT_PARSE then (if bits v 2 0 ≠ 0 then abValue else 0)
  else if obj = OD.KEY_PROFILE then
    let total := (List.range 8).foldl (fun n i =>
      let w := if 8 * (e / 8) + i = e then v else c.rdS OD.KEY_PROFILE (8 * (e / 8) + i)
      if bit w 31 then n + bits w 14 9 else n) 0
    if bit v 8 ∨ (bit v 31 ∧ (bits v 7 0 = 0 ∨ bits v 14 9 = 0 ∨ 40 < bits v 14 9 ∨ (bit v 30 ∧ 15 < bits v 22 15))) ∨ 40 < total
    then abValue else 0
  else if obj = OD.PROFILE_MAP then (if 31 < v ∧ v ≠ 0xFF then abValue else 0)
  else if obj = OD.PORT_ACTIONS then (if actionValid v then 0 else abValue)
  else 0

/-! ### The retired set (R248, R249) -/

/-- t_drain: 10 us (R249). -/
abbrev drainUnits : Nat := 655360000

/-- A packet that waits for its second pass is pinned to a set that a traverse has retired. -/
def Core.pinned (c : Core) (x : Packet) : Bool := decide (x.gen ≠ c.pkt.gen)

/-- RETIRED_SET_RELEASE (R249): once no pinned packet waits, or at T + t_drain, when those that wait are dropped. -/
def Core.releaseRetired (c : Core) : Core :=
  if c.trav.copyClass = false then c
  else
    let stale := c.pkt.recirc.foldl (fun n q => n + q.2.countP c.pinned) 0
    if stale ≠ 0 ∧ c.now < ofTime64 (c.rd OD.LAST_T) + drainUnits then c
    else
      let keep := c.pkt.recirc.filterMap (fun q =>
        let l := q.2.filter (fun x => !c.pinned x)
        if l.isEmpty then none else some (q.1, l))
      let c := if stale = 0 then c else (c.inc64 OD.RECIRC_STALE 0 stale).pulse 332
      { c with pkt := { c.pkt with recirc := keep }, trav := { c.trav with copyClass := false } }

/-- RETIRED_SET_RELEASE (R249). -/
def execRetiredSetRelease (s : State) : Host.Outcome State Fault Refusal := s.does Core.releaseRetired

end Sys2Proof.Machine
end

