-- ==== Sys2Proof/Machine/Egress.lean ====
section
/-! DEFINITION. Passes and their actions, admission to queues, meters, shapers, the choice of the next frame, gates, flow
contexts and bandwidth windows (R246, R247, R252 to R274, R382). -/

namespace Sys2Proof.Machine

/-! ### Flow contexts (R272) -/

/-- A pass counted in a flow context: PACKETS, BYTES, FIRST and LAST. -/
def flowCount (v len : Nat) (rx : Instant) : Nat :=
  let first := bits v 383 336 = 0 ∧ ¬ bit v 239
  let v := flowAdd (flowAdd v 383 239 1) 335 238 len
  setBits (if first then setBits v 223 112 (time64 rx) else v) 111 0 (time64 rx)

/-- A write of FLOW_CMD (R272). -/
def Core.flowCmd (c : Core) (v : Nat) : Core :=
  if bits v 29 18 ≠ 0 ∨ bits v 31 30 = 0 ∨ bits v 31 30 = 3 then c.ends abValue
  else if bits v 31 30 = 1 then c.wr OD.FLOW_CONTEXT (bits v 17 0) 0
  else { c with regs := c.regs.filter (fun p => decide (okeyObj p.1 ≠ OD.FLOW_CONTEXT)) }

/-- FLOW_CLEAR (R272). -/
def execFlowClear (path : Path) (context : Fin 262144) (s : State) : Host.Outcome State Fault Refusal :=
  s.does (fun c => c.byActive path (fun c => c.flowCmd (2 ^ 30 + context.val)))

/-- FLOW_CLEAR_ALL (R272). -/
def execFlowClearAll (path : Path) (s : State) : Host.Outcome State Fault Refusal :=
  s.does (fun c => c.byActive path (fun c => c.flowCmd (2 ^ 31)))

/-! ### Meters (R258 to R260) -/

/-- METER_CONFIG of a meter; a damaged entry reads as disabled (R275). -/
def Core.meterCfg (c : Core) (m : Nat) : Nat :=
  let w := c.rd OD.METER_CONFIG m
  if c.damagedKey (okey OD.METER_CONFIG m) then setBits w 127 126 0 else w

def meterMode (w : Nat) : Nat := bits w 127 126
def meterCbs (w : Nat) : Nat := bits w 31 16 * 16384
def meterXbs (w : Nat) : Nat := bits w 15 0 * 16384

/-- The buckets of a meter: tc, and te or tp (R259). -/
def Core.bucket (c : Core) (m : Nat) : Nat × Nat := Tab.get c.pkt.buckets m (0, 0)

/-- Sets the buckets of a meter. -/
def Core.setBucket (c : Core) (m : Nat) (b : Nat × Nat) : Core :=
  { c with pkt := { c.pkt with buckets := Tab.put c.pkt.buckets m b (0, 0) } }

/-- The buckets after a refill (R259). -/
def refillMeter (w : Nat) (short : Bool) (b : Nat × Nat) : Nat × Nat :=
  let r := fun rate => if short then rate * 53 / 64 else rate
  let tc := b.1 + r (bits w 95 64)
  match meterMode w with
  | 1 => if meterCbs w < tc then (meterCbs w, min (meterXbs w) (b.2 + tc - meterCbs w)) else (tc, b.2)
  | 2 => (min (meterCbs w) tc, min (meterXbs w) (b.2 + r (bits w 63 32)))
  | _ => b

/-- The colour of a packet of L bytes with input colour k, and the buckets after it (R259). -/
def meterColour (w len k : Nat) (b : Nat × Nat) : Nat × (Nat × Nat) :=
  let need := 256 * len
  let k := if bit w 125 then k else 1
  match meterMode w with
  | 1 =>
    if k = 1 ∧ need ≤ b.1 then (1, (b.1 - need, b.2))
    else if k ≠ 3 ∧ need ≤ b.2 then (2, (b.1, b.2 - need))
    else (3, b)
  | 2 =>
    if k = 3 ∨ b.2 < need then (3, b)
    else if k = 2 ∨ b.1 < need then (2, (b.1, b.2 - need))
    else (1, (b.1 - need, b.2 - need))
  | _ => (1, b)

/-- A packet reaches a meter: its colour, counted (R259, R260). -/
def Core.meter (c : Core) (m len k : Nat) : Nat × Core :=
  let r := meterColour (c.meterCfg m) len k (c.bucket m)
  (r.1, (c.setBucket m r.2).inc64 OD.METER_COUNTS (3 * m + r.1 - 1))

/-- The abort of a write of METER_CONFIG (R258). -/
def meterCheck (v : Nat) : Nat :=
  let mode := meterMode v
  let cir := bits v 95 64
  let pir := bits v 63 32
  if bits v 123 96 ≠ 0 ∨ mode = 3 ∨ 26214400 < cir then abValue
  else if mode = 1 ∧ pir ≠ 0 then abValue
  else if mode = 2 ∧ (pir < cir ∨ 26214400 < pir ∨ bits v 15 0 < bits v 31 16) then abValue
  else if mode ≠ 0 ∧ bits v 31 16 = 0 then abValue
  else 0

/-- A METER_CONFIG word comes into force: buckets clamped, or filled by a change of MODE (R258). -/
def Core.meterApply (c : Core) (m v : Nat) : Core :=
  let old := c.rd OD.METER_CONFIG m
  let b := c.bucket m
  let b := if meterMode old ≠ meterMode v then (meterCbs v, meterXbs v) else (min b.1 (meterCbs v), min b.2 (meterXbs v))
  (c.wr OD.METER_CONFIG m v).setBucket m b

/-! ### Admission (R257, R269, R271) -/

/-- Whether a share of the shared pool bounds a queue's use: over ≤ free × 2^(alpha - 6). -/
def withinAlpha (above free alpha : Nat) : Bool := decide (above * 64 ≤ free * 2 ^ alpha)

/-- The procedure of R257: whether n cells of a colour are admitted to a queue. -/
def Core.admits (c : Core) (q n colour : Nat) : Bool :=
  let w := c.rd OD.BUF_PROFILE (queueProfile (c.queueCfg q))
  let d := c.depth q
  let old := d - c.queueMin q
  let new := d + n - c.queueMin q
  let free := c.sharedFree
  if profMax w < d + n then false
  else if new = 0 then true
  else if profAlpha w colour = 15 then false
  else if free < new - old then false
  else withinAlpha new free (profAlpha w colour)

/-- A packet of a colour goes to a queue: the checks of R257 in their order, and whether it was admitted. -/
def Core.enqueue (c : Core) (q : Nat) (bs : List Byte) (colour : Nat) (flow : Option Nat) : Core × Bool :=
  let w := c.queueCfg q
  let p := queuePort q
  let n := cellsOf bs.length
  if queueOn w = false then (((c.inc64 OD.QUEUE_DISABLED).otherDrop q).flowDrop flow, false)
  else if c.portEnabled p = false then (((c.inc64 OD.NO_PORT).otherDrop q).flowDrop flow, false)
  else if (c.port p).flushed then (((c.inc64 OD.DOWN_DROPS).otherDrop q).flowDrop flow, false)
  else if c.gateOversize p (queueTc w) bs.length then
    ((((c.inc64 OD.GATE_OVERSIZE).otherDrop q).flowDrop flow).pulse 392, false)
  else if c.admits q n colour then
    let e := c.eccTake 1
    let f : QFrame := ⟨bs, colour, flow, e.1, none⟩
    (({ e.2 with pkt := { e.2.pkt with queues := Tab.put e.2.pkt.queues q (e.2.queue q ++ [f]) [] } } : Core).bufferChanged, true)
  else
    let c := c.inc64 (match colour with | 2 => OD.ADMIT_DROPS_Y | 3 => OD.ADMIT_DROPS_R | _ => OD.ADMIT_DROPS_G)
    let c := if c.sharedFree = 0 then c.inc64 OD.POOL_EMPTY else c
    (((c.inc64 OD.QUEUE_COUNTS (4 * q + 2)).occur 0x03 q).flowDrop flow, false)

/-- A frame cut to a length, with a new FCS (R271). -/
def cutFrame (bs : List Byte) (n : Nat) : List Byte :=
  if n = 0 ∨ bs.length ≤ n then bs
  else
    let body := bs.take (n - 4)
    body ++ fcsOf body

/-- A mirror copy of a frame as the pass received it, a yellow packet (R271). -/
def Core.mirror (c : Core) (n : Nat) (bs : List Byte) : Core :=
  let w := c.rd OD.MIRROR_SESSION n
  if bit w 31 then
    let r := c.enqueue (bits w 28 11) (cutFrame bs (bits w 10 0)) 2 none
    if r.2 then r.1 else r.1.inc64 OD.MIRROR_DROPS
  else c

/-! ### Passes (R239, R240, R246, R247) -/

/-- Whether a frame has an outer tag: TPID 8100h or 88A8h after the addresses (log 20). -/
def tagged (bs : List Byte) : Bool := decide (fieldAt bs 12 2 = 0x8100 ∨ fieldAt bs 12 2 = 0x88A8)

/-- A frame with its body changed and its FCS regenerated. -/
def refit (body : List Byte) : List Byte := body ++ fcsOf body

/-- The VLAN operation of an action, and whether it was skipped (R246, R247). -/
def vlanOp (a : Nat) (bs : List Byte) : List Byte × Bool :=
  let body := bs.take (bs.length - 4)
  let tci := fun (dei : Nat) => be 2 (bits a 48 46 * 8192 + dei * 4096 + bits a 60 49)
  match bits a 62 61 with
  | 1 => (refit (body.take 12 ++ be 2 0x8100 ++ tci 0 ++ body.drop 12), false)
  | 2 => if tagged bs then (refit (body.take 12 ++ body.drop 16), false) else (bs, true)
  | 3 => if tagged bs then
      (refit (body.take 14 ++ tci (byteAt bs 14 / 16 % 2) ++ body.drop 16), false) else (bs, true)
  | _ => (bs, false)

/-- The queue of a forwarding action (R252). -/
def Core.actionQueue (c : Core) (a : Nat) (ingress tc : Nat) : Nat :=
  if bits a 127 125 = 2 then bits a 124 107
  else
    let p := bits a 124 118
    2048 * p + (if bit (c.rd OD.PORT_EGRESS p) 0 then 8 * ingress + tc else tc)

/-- The capacity of a pipe's recirculation buffer: 64 KiB (R235). -/
abbrev recircBytes : Nat := 65536

/-- Step 6 of R247: what OP does with a packet. -/
def Core.actOp (c : Core) (a : Nat) (x : Packet) (bs : List Byte) (tc colour : Nat) (flow : Option Nat) : Core :=
  match bits a 127 125 with
  | 1 => (c.enqueue (c.actionQueue a x.port tc) bs (if colour = 0 then 1 else colour) flow).1
  | 2 => (c.enqueue (c.actionQueue a x.port tc) bs (if colour = 0 then 1 else colour) flow).1
  | 3 =>
    if x.second then (c.inc64 OD.RECIRC_LIMIT).flowDrop flow
    else
      let pipe := x.port / 32
      let q := Tab.get c.pkt.recirc pipe []
      if recircBytes < packetBytes q + bs.length then c.inc64 OD.RECIRC_DROPS
      else
        let y : Packet := ⟨x.port, bs, x.rx, true, bits a 111 107, bits a 31 0, tc, colour, c.pkt.gen⟩
        { c with pkt := { c.pkt with recirc := Tab.put c.pkt.recirc pipe (q ++ [y]) [] } }
  | _ => c.flowDrop flow

/-- An action carried out in the order of R247. -/
def Core.act_ (c : Core) (a : Nat) (x : Packet) : Core :=
  let len := x.bytes.length
  let flow := if bit a 86 then some (bits a 85 68) else none
  -- 1: the flow context
  let c := match flow with
    | some n => c.wr OD.FLOW_CONTEXT n (flowCount (c.rd OD.FLOW_CONTEXT n) len x.rx)
    | none => c
  -- 2: the meter
  let m := if bit a 102 then c.meter (bits a 101 87) len (if x.second ∧ x.colour ≠ 0 then x.colour else 1) else (x.colour, c)
  let redDrop := bit a 102 && decide (m.1 = 3) && bit (c.meterCfg (bits a 101 87)) 124
  -- 3: the mirror copy
  let c := if bit a 67 then m.2.mirror (bits a 66 63) x.bytes else m.2
  -- 4 and 5: traffic class and tag
  let tc := if bit a 103 then bits a 106 104 else x.tc
  let v := vlanOp a x.bytes
  let c := if v.2 then c.inc64 OD.VLAN_SKIPPED else c
  -- 6: OP, or the red drop in its place (R260)
  if redDrop then (c.inc64 OD.RED_DROPS).flowDrop flow else c.actOp a x v.1 tc m.1 flow

/-- An action of a port: 0 DEFAULT, 1 TRUNC, 2 MALFORMED (R250). -/
def portAction (st : Tab Nat) (p i : Nat) : Nat := storeGet st (okey OD.PORT_ACTIONS (3 * p + i))

/-- The words of the ingress stores that a pass under a set reads: the parser's nodes and transitions, which it matches side by
side, the port's words, the profile's, and the entries of the key (R236 to R243, R250, R342). -/
def passMark (st : Tab Nat) (sh : Bool) (x : Packet) (k : Nat) : Bool :=
  let r := parse st x.port x.bytes
  let map := 64 * bits (portParse st x.port) 7 6 + (match r.1.getLast? with | some h => h.1 | none => 63)
  let prof := if x.second then x.profile else storeGet st (okey OD.PROFILE_MAP map)
  let key := buildKey st prof x.bytes (metaBlock x (decide (r.2 = .trunc))) r.1
  let obj := markObj k
  let e := markElem k
  (decide (shadowMark ≤ k) == sh) &&
    (decide (obj = OD.PARSE_NODE ∨ obj = OD.PARSE_TRANS) || (decide (obj = OD.PORT_PARSE) && decide (e = x.port)) ||
     (decide (obj = OD.PORT_ACTIONS) && decide (e / 3 = x.port)) ||
     (decide (obj = OD.PROFILE_MAP) && decide (e = map) && !x.second) ||
     (decide (obj = OD.KEY_PROFILE) && decide (e / 8 = prof)) || classMark sh (prof, key.2, beNat key.1) k)

/-- A pass: parsing, key, lookup and action, under the set the packet is pinned to (R239, R240, R247, R248). -/
def Core.pass (c : Core) (x : Packet) : Core :=
  let c := c.eccRead (passMark (if x.second ∧ c.pinned x then c.shd else c.act) (x.second && c.pinned x) x)
  let st := if x.second ∧ c.pinned x then c.shd else c.act
  let x := if x.second then x else { x with tc := bits (portParse st x.port) 5 3 }
  let r := parse st x.port x.bytes
  let trunc := decide (r.2 = .trunc)
  if r.2 = .malformed then (c.inc64 OD.MALFORMED_3211).act_ (portAction st x.port 2) x
  else
    let c := if trunc then c.inc64 OD.PARSE_TRUNC else c
    let last := match r.1.getLast? with
      | some h => h.1
      | none => 63
    let prof := if x.second then x.profile else storeGet st (okey OD.PROFILE_MAP (64 * bits (portParse st x.port) 7 6 + last))
    let miss := fun (c : Core) => (c.inc64 OD.LOOKUP_MISSES).act_ (portAction st x.port (if trunc then 1 else 0)) x
    if prof = 0xFF then miss c
    else
      let k := buildKey st prof x.bytes (metaBlock x trunc) r.1
      match classFind st (prof, k.2, beNat k.1) with
      | some pos => (c.inc64 OD.LOOKUP_HITS).act_ (entAction (classAt st pos)) x
      | none => miss c

/-- The packet engine runs: its clock is on (R339, R359). -/
def Core.engineOn (c : Core) : Bool := decide (c.rd OD.PIPE_CLOCK ≠ 0) && c.lanesOn

/-- A pipe slot takes the oldest packet of a port's ingress buffer (R235, R247). -/
def Core.packetPass (c : Core) (p : Nat) : Core :=
  match Tab.get c.pkt.ingress p [] with
  | [] => c
  | x :: r => if c.engineOn then
      ({ c with pkt := { c.pkt with ingress := Tab.put c.pkt.ingress p r [] } } : Core).pass x else c

/-- PACKET_PASS (R247). -/
def execPacketPass (port : Lane) (s : State) : Host.Outcome State Fault Refusal := s.does (fun c => c.packetPass port.val)

/-- The oldest packet of a pipe's recirculation buffer makes its second pass (R235, R247). -/
def Core.secondPass (c : Core) (pipe : Nat) : Core :=
  match Tab.get c.pkt.recirc pipe [] with
  | [] => c
  | x :: r => if c.engineOn then
      ({ c with pkt := { c.pkt with recirc := Tab.put c.pkt.recirc pipe r [] } } : Core).pass x else c

/-- PACKET_SECOND_PASS (R235). -/
def execPacketSecondPass (pipe : Fin 4) (s : State) : Host.Outcome State Fault Refusal := s.does (fun c => c.secondPass pipe.val)

/-! ### Shapers (R262, R263) -/

/-- SHAPER_CONFIG of a shaper; a damaged entry reads as disabled (R275). -/
def Core.shaperCfg (c : Core) (k : Nat) : Nat :=
  let w := c.rd OD.SHAPER_CONFIG k
  if c.damagedKey (okey OD.SHAPER_CONFIG k) then setBits w 127 127 0 else w

/-- The unit of a shaper's credit: 2^-8 bytes or 2^-16 packets. -/
def shaperUnit (w : Nat) : Nat := if bit w 126 then 65536 else 256

/-- The limits of a shaper's credit. -/
def shaperClamp (w : Nat) (v : Int) : Int :=
  clampI (-((bits w 31 0 * shaperUnit w : Nat) : Int)) ((bits w 63 32 * shaperUnit w : Nat) : Int) v

/-- The credit of a shaper, in its unit. -/
def Core.credit (c : Core) (k : Nat) : Int := Tab.get c.pkt.credits k 0

/-- Sets the credit of a shaper. -/
def Core.setCredit (c : Core) (k : Nat) (v : Int) : Core := { c with pkt := { c.pkt with credits := Tab.put c.pkt.credits k v 0 } }

/-- The shaper that a queue uses, if it is shaped by one that is enabled. -/
def Core.shaperOf (c : Core) (q : Nat) : Option Nat :=
  let w := c.queueCfg q
  let k := 128 * queuePort q + queueShaper w
  if queueShaped w ∧ bit (c.shaperCfg k) 127 then some k else none

/-- The credit of a shaper at the start of an epoch (R263). -/
def Core.shaperRefill (c : Core) (k : Nat) (short : Bool) : Int :=
  let w := c.shaperCfg k
  let rate := bits w 95 64
  let r : Int := if short then ((rate * 53 / 64 : Nat) : Int) else (rate : Int)
  let waiting := (c.pkt.queues.map (·.1)).filter (fun q => queueOn (c.queueCfg q) && decide (c.shaperOf q = some k))
  let v := c.credit k
  shaperClamp w (
    if waiting.any (fun q => c.gateOpen (queuePort q) (queueTc (c.queueCfg q))) then v + r
    else if waiting.isEmpty then (if v < 0 then min 0 (v + r) else 0)
    else v)

/-- A refill epoch: meters and shapers (R259, R261, R263). -/
def Core.refill (c : Core) (e : Nat) : Core :=
  if e < c.pkt.epoch ∨ c.engineOn = false then c
  else
    let c := c.advance (1024 * e)
    let c := { c with pkt := { c.pkt with epoch := e + 1 } }
    let short := decide (e = 48)
    let c := (storeListed c.regs OD.METER_CONFIG).foldl (fun (c : Core) p =>
      c.setBucket p.1 (refillMeter (c.meterCfg p.1) short (c.bucket p.1))) c
    let ks := (storeListed c.regs OD.SHAPER_CONFIG).filter (fun p => bit (c.shaperCfg p.1) 127)
    (ks.map (fun p => (p.1, c.shaperRefill p.1 short))).foldl (fun (x : Core) p => x.setCredit p.1 p.2) c

/-- REFILL_EPOCH (R261). -/
def execRefillEpoch (epoch : Fin 49) (s : State) : Host.Outcome State Fault Refusal := s.does (fun c => c.refill epoch.val)

/-- The abort of a write of SHAPER_CONFIG (R262). -/
def Core.shaperCheck (c : Core) (k v : Nat) : Nat :=
  if bits v 119 96 ≠ 0 then abValue
  else if bit v 127 then
    let top := if bit v 126 then 2 ^ 32 - 1 else 3276800 * portWidth (c.portCfg (k / 128))
    if bits v 95 64 = 0 ∨ top < bits v 95 64 ∨ bits v 63 32 = 0 ∨ bits v 31 0 = 0 then abValue else 0
  else 0

/-- A SHAPER_CONFIG word comes into force (R263). -/
def Core.shaperApply (c : Core) (k v : Nat) : Core :=
  let old := c.rd OD.SHAPER_CONFIG k
  let zero := bit old 126 != bit v 126 || (bit v 127 && !bit old 127)
  (c.wr OD.SHAPER_CONFIG k v).setCredit k (if zero then 0 else shaperClamp v (c.credit k))

/-! ### Choosing the next frame (R264, R268, R269) -/

/-- Discards head frames that no window of the class takes or that a double-bit error has damaged (R269, R275); n frames at
most. -/
def Core.cleanHead : Nat → Core → Nat → Core
  | 0, c, _ => c
  | n + 1, c, q =>
    match c.queue q with
    | f :: r =>
      if f.ecc = 2 then Core.cleanHead n (((c.inc64 OD.BUFFER_ECC_DROPS).pulse 385).dropHead q) q
      else if c.gateOversize (queuePort q) (queueTc (c.queueCfg q)) f.bytes.length then
        Core.cleanHead n (((c.inc64 OD.GATE_OVERSIZE).pulse 392).dropHead q) q
      else if f.ecc = 1 then
        { c.pulse 384 with pkt := { (c.pulse 384).pkt with queues := Tab.put c.pkt.queues q ({ f with ecc := 0 } :: r) [] } }
      else c
    | [] => c

/-- The queues of a port that hold frames, slots rising. -/
def Core.portQueues (c : Core) (p : Nat) : List Nat := (c.pkt.queues.map (·.1)).filter (fun q => decide (queuePort q = p))

/-- A queue that holds a frame, is enabled, has its gate open and its shaper's credit not negative. -/
def Core.wantsToSend (c : Core) (q : Nat) : Bool :=
  queueOn (c.queueCfg q) && !(c.queue q).isEmpty && c.gateOpen (queuePort q) (queueTc (c.queueCfg q)) &&
  (match c.shaperOf q with
    | some k => decide (0 ≤ c.credit k)
    | none => true)

/-- The closure that the head frame of a queue does not fit before (R268). -/
def Core.headHeld (c : Core) (q : Nat) : Option Instant :=
  match c.queue q with
  | f :: _ => c.closure (queuePort q) (queueTc (c.queueCfg q)) (c.txTime (queuePort q) f.bytes.length)
  | [] => none

/-- GATE_HOLDS for the head frame of a queue: once for each closure (R268). -/
def Core.countHold (c : Core) (q : Nat) : Core :=
  match c.headHeld q, c.queue q with
  | some t, f :: r =>
    if f.held = some t then c
    else
      let c := c.inc64 OD.GATE_HOLDS
      { c with pkt := { c.pkt with queues := Tab.put c.pkt.queues q ({ f with held := some t } :: r) [] } }
  | _, _ => c

/-- Length of a queue's head frame. -/
def Core.headLen (c : Core) (q : Nat) : Nat := match c.queue q with
  | f :: _ => f.bytes.length
  | [] => 0

/-- The queue after another among rising ones, cyclically. -/
def nextQueue (l : List Nat) (q : Nat) : Nat := ((l.find? (fun x => decide (q < x))).getD (l.headD q))

/-- Deficit round robin from a queue on (R264): the queue that sends, and the deficits. A queue that is come to takes its
quantum; one whose deficit does not cover its head frame is passed. -/
def Core.roundRobin (c : Core) (l : List Nat) : Nat → Nat → Tab Nat → Nat × Tab Nat
  | 0, q, d => (q, d)
  | n + 1, q, d =>
    let d := Tab.modify d q 0 (· + 256 * queueWeight (c.queueCfg q))
    if c.headLen q ≤ Tab.get d q 0 then (q, d) else Core.roundRobin c l n (nextQueue l q) d

/-- The queue that sends next among the eligible ones of a class: the one at hand while its deficit lasts, else the next
(R264). -/
def Core.pick (c : Core) (p cls : Nat) (l : List Nat) : Nat × Tab Nat :=
  let cur := Tab.find? c.pkt.pointers (8 * p + cls)
  match cur with
  | some q =>
    if l.contains q ∧ c.headLen q ≤ Tab.get c.pkt.deficits q 0 then (q, c.pkt.deficits)
    else c.roundRobin l (41 * l.length) (nextQueue l q) c.pkt.deficits
  | none => c.roundRobin l (41 * l.length) (l.headD 0) c.pkt.deficits

/-- A queue starts its head frame: deficit, shaper, transmitter (R263, R264). -/
def Core.startFrame (c : Core) (p cls q : Nat) (d : Tab Nat) : Core :=
  match c.queue q with
  | [] => c
  | f :: r =>
    let len := f.bytes.length
    let left := Tab.get d q 0 - len
    let w := portWidth (c.portCfg p)
    let c := match c.shaperOf q with
      | some k =>
        let sc := c.shaperCfg k
        let cost : Int := if bit sc 126 then 65536 else ((256 * (len + bits sc 125 120) : Nat) : Int)
        c.setCredit k (shaperClamp sc (c.credit k - cost))
      | none => c
    let x : TxRec := ⟨q, some f, c.up + (len + 8) * 8 * 65536 / (100 * w) + c.txDelay p, c.up + c.txTime p len⟩
    { c with pkt := { c.pkt with
        queues := Tab.put c.pkt.queues q r []
        tx := Tab.set c.pkt.tx p x
        deficits := Tab.put d q (if r.isEmpty then 0 else left) 0
        pointers := Tab.set c.pkt.pointers (8 * p + cls) q } }

/-- Whether a port's transmitter is free. -/
def Core.txFree (c : Core) (p : Nat) : Bool :=
  match Tab.find? c.pkt.tx p with
  | some x => x.frame.isNone && decide (x.free ≤ c.up)
  | none => true

/-- The classes from 7 down: holds counted, and the first class with an eligible queue (R264, R268). -/
def Core.chooseFrom (c : Core) (p : Nat) : Nat → Core
  | 0 => c
  | n + 1 =>
    let qs := (c.portQueues p).filter (fun q => decide (queueTc (c.queueCfg q) = n) && c.wantsToSend q)
    let fit := qs.filter (fun q => (c.headHeld q).isNone)
    let c := qs.foldl Core.countHold c
    if fit.isEmpty then Core.chooseFrom c p n
    else
      let r := c.pick p n fit
      c.startFrame p n r.1 r.2

/-- An Up port with a free transmitter chooses the next frame (R264). -/
def Core.schedule (c : Core) (p : Nat) : Core :=
  if (c.port p).up = false ∨ c.txFree p = false then c
  else
    let c := (c.portQueues p).foldl (fun (c : Core) q => Core.cleanHead (c.queue q).length c q) c
    c.chooseFrom p 8

/-- EGRESS_SCHEDULE (R264). -/
def execEgressSchedule (port : Lane) (at_ : Nat) (s : State) : Host.Outcome State Fault Refusal :=
  s.does (fun c => (c.advance at_).schedule port.val)

/-- The last byte of a frame is transmitted: its counts, and its cells released (R254, R382). -/
def Core.txComplete (c : Core) (p : Nat) : Core :=
  match Tab.find? c.pkt.tx p with
  | none => c
  | some x =>
    match x.frame with
    | none => c
    | some f =>
      if c.up < x.done then c
      else
        let len := f.bytes.length
        let c := ((c.inc64 OD.QUEUE_COUNTS (4 * x.queue)).inc64 OD.QUEUE_COUNTS (4 * x.queue + 1) len).occur 0x02 p
        ({ c with pkt := { c.pkt with
            tx := Tab.set c.pkt.tx p { x with frame := none }
            wire := Tab.set c.pkt.wire p f.bytes
            bwTx := Tab.modify c.pkt.bwTx p 0 (· + len) } } : Core).bufferChanged

/-- FRAME_TX_COMPLETE (R254). -/
def execFrameTxComplete (port : Lane) (at_ : Nat) (s : State) : Host.Outcome State Fault Refusal :=
  s.does (fun c => (c.advance at_).txComplete port.val)

/-! ### Gates (R266) -/

/-- A pending list of a port has started (R266). -/
def Core.gateStart (c : Core) (p : Nat) : Core :=
  let r := c.gateRec p
  if ¬ r.started ∧ r.start ≤ c.now then
    { c with pkt := { c.pkt with gates := Tab.put c.pkt.gates p { r with started := true } GateRec.reset } }
  else c

/-- GATE_ENTRY_CHANGE (R266): at a list's edge the class gates of a port take the states of the entry. -/
def execGateEntryChange (port : Lane) (at_ : Nat) (s : State) : Host.Outcome State Fault Refusal :=
  s.does (fun c => ((c.advance at_).gateStart port.val).gateEdges port.val)

/-- Ports whose gate objects are listed in a set. -/
def gatePorts (st : Tab Nat) : List Nat :=
  st.filterMap (fun e =>
    if okeyObj e.1 = OD.GATE_PORT ∨ okeyObj e.1 = OD.GATE_BASE then some (okeyElem e.1)
    else if okeyObj e.1 = OD.GATE_LIST then some (okeyElem e.1 / 1024) else none)

/-- Whether two sets give a port the same list: ENABLE, COUNT, BASE and the entries below COUNT (R266). -/
def sameGates (a n : Tab Nat) (p : Nat) : Bool :=
  decide (storeGet a (okey OD.GATE_PORT p) = storeGet n (okey OD.GATE_PORT p)) &&
  decide (storeGet a (okey OD.GATE_BASE p) = storeGet n (okey OD.GATE_BASE p)) &&
  (List.range (gateCount n p)).all (fun j => decide (gateWord a p j = gateWord n p j))

/-- New lists of a set start at the first BASE + k × C at or after T; `was` gives the list states before T (R266). -/
def Core.gatesSwap (c : Core) (old : Tab Nat) (was : Nat → Nat) : Core :=
  let ps := ((gatePorts old ++ gatePorts c.act).eraseDups).filter (fun p => !sameGates old c.act p)
  ps.foldl (fun (c : Core) p =>
    let r : GateRec := if gateOn c.act p then
        ⟨gridFrom (ofTime64 (storeGet c.act (okey OD.GATE_BASE p))) (nsU (gateCycle c.act p)) c.now, was p, false⟩
      else GateRec.reset
    { c with pkt := { c.pkt with gates := Tab.put c.pkt.gates p r GateRec.reset } }) c

/-- Lists whose start has come are started. -/
def Core.gatesStart (c : Core) : Core := (c.pkt.gates.map (·.1)).foldl Core.gateStart c

/-! ### Queue configuration, flushes (R253, R255, R273) -/

/-- Drops every frame of a port's queues into FLUSH_DROPS (R273). -/
def Core.flushPort (c : Core) (p : Nat) : Core := (c.portQueues p).foldl (fun c q => c.flushQueue OD.FLUSH_DROPS q) c

/-- PORT_DOWN_FLUSH (R273). -/
def Core.downFlush (c : Core) (p : Nat) : Core :=
  let r := c.port p
  match r.downSince with
  | some t =>
    if r.up ∨ r.flushed ∨ c.portEnabled p = false ∨ c.portGuarded p ∨ c.up ≤ t + nsU (c.rd OD.PORT_DOWN_FLUSH) then c
    else
      let c := c.setPort p { r with flushed := true }
      (c.flushPort p).pulse (387 + p / 32)
  | none => c

/-- PORT_DOWN_FLUSH (R273). -/
def execPortDownFlush (port : Lane) (s : State) : Host.Outcome State Fault Refusal := s.does (fun c => c.downFlush port.val)

/-- The accepted value of every listed element of an object once every accepted write is in effect. -/
def Core.listedNext (c : Core) (obj : Nat) : List (Nat × Nat) :=
  (c.pend.foldl (fun t p => if okeyObj p.1 = obj then storePut t p.1 p.2 else t)
    (c.regs.filter (fun p => decide (okeyObj p.1 = obj)))).map (fun p => (okeyElem p.1, p.2))

/-- Whether the shared pool would keep 65,536 cells with one more element of an object (R255). -/
def Core.poolKept (c : Core) (obj e v : Nat) : Bool :=
  let d := c.defer obj e v
  decide (reserveSum (d.listedNext OD.QUEUE_CONFIG) (fun n => d.rdNext OD.BUF_PROFILE n) + 65536 ≤ 393216)

/-- The abort of a write of QUEUE_CONFIG (R253, R255). -/
def Core.queueCheck (c : Core) (q v : Nat) : Nat :=
  if bits v 39 0 ≠ 0 ∨ queueWeight v = 0 ∨ c.poolKept OD.QUEUE_CONFIG q v = false then abValue else 0

/-- The abort of a write of BUF_PROFILE (R255, R256). -/
def Core.profileCheck (c : Core) (n v : Nat) : Nat :=
  let alpha := fun a => decide (a ≤ 9 ∨ a = 15)
  if bits v 28 24 ≠ 0 ∨ bits v 11 0 ≠ 0 ∨ profMax v < 41 ∨ 393216 < profMax v ∨ profMax v < profMin v then abValue
  else if (alpha (bits v 23 20) && alpha (bits v 19 16) && alpha (bits v 15 12)) = false then abValue
  else if c.poolKept OD.BUF_PROFILE n v = false then abValue else 0

/-- QUEUE_CONFIG_WRITE (R253). -/
def execQueueConfigWrite (path : Path) (queue : Fin 262144) (value : BitVec 64) (s : State) : Host.Outcome State Fault Refusal :=
  s.does (fun c => c.byActive path (fun c => c.rwWrite OD.QUEUE_CONFIG queue.val value.toNat (c.queueCheck queue.val value.toNat)))

/-- A QUEUE_CONFIG word comes into force: a queue it disables is flushed (R253). -/
def Core.queueApply (c : Core) (q v : Nat) : Core :=
  let c := if queueOn (c.rd OD.QUEUE_CONFIG q) ∧ ¬ queueOn v then c.flushQueue OD.QUEUE_DISABLED q else c
  (c.wr OD.QUEUE_CONFIG q v).bufferChanged

/-- An entry of the egress stores is written: an injected error shows, and a damaged entry counts as rewritten (R275, R342). -/
def Core.egressWritten (c : Core) (k : Nat) : Core :=
  let e := c.eccTake 3
  let c := e.2
  if e.1 = 2 then { c.pulse 386 with pkt := { c.pkt with damaged := Tab.set c.pkt.damaged k false } }
  else if e.1 = 1 then c
  else match Tab.find? c.pkt.damaged k with
    | some _ =>
      let live := (Tab.find? c.faults.recs 386).any (fun r => r.sev.isSome)
      { c with pkt := { c.pkt with damaged := if live then Tab.set c.pkt.damaged k true else Tab.erase c.pkt.damaged k } }
    | none => c

/-- The abort of a write to another egress object (R265, R271, R274). -/
def Core.egressCheck (c : Core) (obj e v : Nat) : Nat :=
  if obj = OD.MIRROR_SESSION then
    (if bits v 30 29 ≠ 0 ∨ (bits v 10 0 ≠ 0 ∧ bits v 10 0 < 64) then abValue else 0)
  else if obj = OD.PORT_EGRESS then (if 1 < v then abValue else 0)
  else if obj = OD.GATE_PORT then (if bits v 14 11 ≠ 0 ∨ bits v 10 0 = 0 ∨ 1024 < bits v 10 0 then abValue else 0)
  else if obj = OD.GATE_BASE then (if c.now + 86400 * secondUnits < ofTime64 v then abValue else 0)
  else if obj = OD.GATE_LIST then
    (if bits v 55 32 ≠ 0 then abValue
     else if e % 1024 < gateCount c.shd (e / 1024) ∧ (bits v 31 0 < 32 ∨ 1000000000 < bits v 31 0) then abValue else 0)
  else if obj = OD.METER_CONFIG then meterCheck v
  else if obj = OD.SHAPER_CONFIG then c.shaperCheck e v
  else if obj = OD.BUF_PROFILE then c.profileCheck e v
  else if obj = OD.QUEUE_CONFIG then c.queueCheck e v
  else 0

/-! ### Bandwidth windows (R382) -/

/-- The peaks restart. -/
def Core.bwPeaks (c : Core) : Core :=
  (List.range 128).foldl (fun (c : Core) p => (c.wr OD.BW_RESULT (4 * p + 2) 0).wr OD.BW_RESULT (4 * p + 3) 0) c

/-- The frames whose last byte has not passed the plane by a running time: they belong to a later window (R382). -/
def lateFrames (t : Tab (List (Nat × Nat))) (up : Nat) : Tab (List (Nat × Nat)) :=
  (t.map (fun p => (p.1, p.2.filter (fun x => decide (up ≤ x.1))))).filter (fun p => !p.2.isEmpty)

/-- A window of BW_WINDOW us ends at an instant of the present frame (R382). -/
def Core.bwEnd (c : Core) (ns : Nat) : Core :=
  let t := c.frameStart + (min ns (frameNs - 1)) * unitsPerNs
  let w := c.rd OD.BW_WINDOW * nsU 1000
  if t % secondUnits % w ≠ 0 ∨ ofTime64 (c.rd OD.BW_LAST_END) = t then c
  else
    let c := c.advanceTo t
    let c := c.enabledPorts.foldl (fun (c : Core) p =>
      let rx := (((Tab.get c.pkt.bwRx p []).filter (fun x => decide (x.1 < c.up))).map (·.2)).sum
      let tx := Tab.get c.pkt.bwTx p 0
      let c := (c.wr OD.BW_RESULT (4 * p) rx).wr OD.BW_RESULT (4 * p + 1) tx
      (c.wr OD.BW_RESULT (4 * p + 2) (max rx (c.rd OD.BW_RESULT (4 * p + 2)))).wr OD.BW_RESULT (4 * p + 3)
        (max tx (c.rd OD.BW_RESULT (4 * p + 3)))) c
    { c.set OD.BW_LAST_END (time64 t) with pkt := { c.pkt with bwRx := lateFrames c.pkt.bwRx c.up, bwTx := [] } }

/-- BW_WINDOW_END (R382). -/
def execBwWindowEnd (at_ : Nat) (s : State) : Host.Outcome State Fault Refusal := s.does (fun c => c.bwEnd at_)

/-- BW_PEAK_CLEAR (R382). -/
def execBwPeakClear (path : Path) (value : BitVec 8) (s : State) : Host.Outcome State Fault Refusal :=
  s.does (fun c => c.byActive path (fun c => if value.toNat = 1 then c.bwPeaks else c.ends abValue))

end Sys2Proof.Machine
end

