-- ==== Sys2Proof/Machine/Power.lean ====
section
/-! DEFINITION. Zones and sensors, the throttle, the staged release, thermal shut-down, rails, and the changes of power
state (R309, R310, R346 to R360). -/

namespace Sys2Proof.Machine

/-! ### The packet engine and the lanes -/

/-- Packet clock of a THROTTLE_STEP in MHz (R352). -/
def clockOf (step : Nat) : Nat := 1250 - 250 * min step 3

/-- The packet engine starts at the clock that the throttle sets; lanes train without lock (R353, R359). -/
def Core.startEngine (c : Core) : Core :=
  let c := c.set OD.PIPE_CLOCK (clockOf (c.rd OD.THROTTLE_STEP))
  c.enabledPorts.foldl (fun (c : Core) p => c.setPort p { c.port p with downSince := some c.up, since := c.up }) c

/-- RATE_GRACE_END (R310). -/
def execRateGraceEnd (path : Path) (s : State) : Host.Outcome State Fault Refusal := s.does (fun c => c.graceEnd path.val)

/-! ### Calibrations in progress (R162) -/

/-! ### The staged release (R355) -/

/-- The VOAs whose loops are closed on light: they ramp, and the release waits for them (R355). -/
def Core.closedVoas (c : Core) : List Nat :=
  (c.loops.filter (fun p => decide (8704 ≤ p.1) && decide (p.2.st = .acquire ∨ p.2.st = .locked ∨ p.2.st = .trim) &&
    c.teLit p.1)).map (·.1 - 8704)

/-- The lit VOAs that a loop runs: all of them ramp, those in Coast from where they stand once they are usable again (R197, R355). -/
def Core.litVoas (c : Core) : List Nat :=
  (c.loops.filter (fun p => decide (8704 ≤ p.1) && (p.2.leaving || decide (p.2.st ≠ .parked ∧ p.2.st ≠ .hold)) &&
    c.teLit p.1)).map (·.1 - 8704)

/-- Lit VOAs start their ramps to the floor on glide profile 0. -/
def Core.releaseRamps (c : Core) (r : Release) : Core :=
  let ws := c.profiles
  let c := c.litVoas.foldl (fun (c : Core) o =>
    let g := { c.glide o with vMax := profileVal ws 0 0, aMax := profileVal ws 0 1, jMax := profileVal ws 0 2,
                              home := c.target (voaTe o) }
    (c.setGlide o g).retarget o (floorSp c.act o) 1 1) c
  { c with trav := { c.trav with release := some { r with begun := true } } }

/-- What a frame boundary does for a staged release: the ramps start, B(g) is set three frames after the last floor, every
loop freezes at B(g - 2), and is Parked at B(g + 1). -/
def Core.releaseBoundary (c : Core) : Core :=
  match c.trav.release with
  | none => c
  | some r =>
    if r.begun = false then c.releaseRamps r
    else
      -- the floor is reached at the boundary at which the trajectory ends, in Quiet that of a loop frame
      let c := if r.at_.isNone ∧ c.loopFrame then c.closedVoas.foldl Core.atFloor c else c
      let r := match r.at_ with
        | some _ => r
        | none => if c.closedVoas.any (fun o => decide ((c.glide o).phase = 1)) then r
                  else { r with at_ := some (c.now + 3 * frameUnits) }
      let c := { c with trav := { c.trav with release := some r } }
      match r.at_, r.stepped with
      | some _, some f =>
        if f < c.frames then
          { c.mapLoops (fun _ => true) (fun _ l => l.park) with
            trav := { c.trav with release := none, glides := [], thaw := [], owed := [] } }
        else c
      | some t, none =>
        if t ≤ c.now + 2 * frameUnits then
          c.mapLoops (fun _ => true) (fun _ l => if l.st = .parked then l else { l with frozen := true })
        else c
      | none, _ => c

/-- The three clear-code steps of an element at T: the first is taken, the other two wait for their ticks in the emptied queue
(R20, R194, R355). -/
def Core.clearSteps (c : Core) (te : Nat) (t : Instant) : Core :=
  let codes := (forceSteps (c.driven te) (c.clearCode te)).map (min (c.ceiling te))
  (c.driveTo te (codes.getD 0 0)).setChan te
    ⟨[⟨t + nsU 1250, codes.getD 1 0, true, false⟩, ⟨t + nsU 2500, codes.getD 2 0, true, true⟩], none⟩

/-- B(g): every element that is not at its clear code takes its three steps, the last at B(g) + 2.5 us; a die whose link is
down keeps its codes (R112, R194, R355). -/
def Core.releaseStepsAt (c : Core) : Core :=
  match c.trav.release with
  | none => c
  | some r =>
    match r.at_, r.stepped with
    | some t, none =>
      if c.now < t then c
      else
        let keys := ((storeListed c.regs OD.DRIVE_CODE).map (·.1) ++ (storeListed c.regs OD.CLEAR_CODE).map (·.1)).eraseDups
        let c := keys.foldl (fun (c : Core) te =>
          if (c.link (teDie te)).up ∧ ¬ c.clearing te ∧ c.driven te ≠ c.clearCode te then c.clearSteps te t else c) c
        { c with trav := { c.trav with release := some { r with stepped := some c.frames } } }
    | _, _ => c

/-- STAGED_RELEASE_STEPS (R355). -/
def execStagedReleaseSteps (s : State) : Host.Outcome State Fault Refusal := s.does Core.releaseStepsAt

/-! ### Sensors and zones (R346 to R351) -/

/-- Zone of a sensor (R346). -/
def sensorZone (n : Nat) : Nat :=
  if n < 16 then 0 else if n < 32 then 1 + (n - 16) / 4 else if n < 48 then 5 else if n < 56 then 6 else 7

/-- The sensors of a zone. -/
def zoneSensors (z : Nat) : List Nat := (List.range 64).filter (fun n => sensorZone n == z)

/-- A sensor that has given no reading. -/
def Sensor.reset : Sensor := ⟨none, 0, 0⟩

/-- The record of a sensor. -/
def Core.sensor (c : Core) (n : Nat) : Sensor := Tab.get c.therm.sensors n Sensor.reset

/-- Sets the record of a sensor. -/
def Core.setSensor (c : Core) (n : Nat) (x : Sensor) : Core :=
  { c with therm := { c.therm with sensors := Tab.put c.therm.sensors n x Sensor.reset } }

/-- VALID, FAILED and SUBSTITUTED of a sensor (R363). -/
def Core.sensorValid (c : Core) (n : Nat) : Bool := bit (c.rd OD.SENSOR_STATE n) 0
def Core.sensorFailed (c : Core) (n : Nat) : Bool := bit (c.rd OD.SENSOR_STATE n) 1
def Core.sensorSub (c : Core) (n : Nat) : Bool := bit (c.rd OD.SENSOR_STATE n) 2

/-- The zone temperature by R348, none for a released zone; and whether the zone has no valid sensor. -/
def Core.zoneReading (c : Core) (z : Nat) : Option Int × Bool :=
  if c.released z then (none, false)
  else
    match (zoneSensors z).filter c.sensorValid with
    | [] => (some (c.zThrottle z), true)
    | n :: ns =>
      let top := ns.foldl (fun m x => max m (c.sensor x).good) (c.sensor n).good
      let sub := (zoneSensors z).any (fun x => c.sensorFailed x && c.sensorSub x)
      (some (if sub then top + deg 5 else top), false)

/-- A zone that reaches its throttle level while the clock is at 1.25 GHz asks for a step down (R352). -/
def Core.noteThrottle (c : Core) (reached : Bool) : Core :=
  if reached && c.lanesOn && decide (c.rd OD.THROTTLE_STEP = 0) then { c with therm := { c.therm with stepDue := true } } else c

/-- A zone's temperature is formed anew, with its states, its lines and what follows (R348 to R351, R354). -/
def Core.zoneUpdate (c : Core) (z : Nat) : Core :=
  let r := c.zoneReading z
  let old := c.rd OD.ZONE_STATE z
  match r.1 with
  | none =>
    -- a released zone has no temperature: what ZONE_TEMP reads is not stated (log 4)
    let c := (c.wr OD.ZONE_TEMP z (c.draw % 2 ^ 32)).drawn
    let c := c.wr OD.ZONE_STATE z (8 * bn (bit old 3))
    ({ c with therm := { c.therm with hist := Tab.put c.therm.hist z [] [] } } : Core).drop (5 + z)
  | some t =>
    let c := c.wr OD.ZONE_TEMP z (ofSigned 32 t)
    let c := { c with therm := { c.therm with hist := Tab.put c.therm.hist z (((t, c.up) :: c.zoneHist z).take 8) [] } }
    let w := c.rd OD.ZONE_LEVELS z
    let edge := c.zWarn z - deg (bits w 19 16)
    let fast := decide (edge ≤ t) || (bit old 0 && decide (edge - deg 1 ≤ t))
    let warn := decide (c.zWarn z ≤ t) || (bit old 1 && decide (c.zWarn z - deg (bits w 55 52) ≤ t))
    let thr := decide (c.zThrottle z ≤ t)
    let shut := bit old 3 || c.zoneTriggers z
    let c := c.wr OD.ZONE_STATE z (bn fast + 2 * bn warn + 4 * bn thr + 8 * bn shut + 16 * bn r.2)
    let c := c.follow (5 + z) warn
    let c := if r.2 ∧ ¬ bit old 4 then c.pulse 16 else c
    let c := c.noteThrottle (thr && !bit old 2)
    -- the firing of source 14 starts the shut-down; while FORCE holds the line nothing fires (R341, R354)
    if c.zoneTriggers z && !c.faults.lines.contains 14 then
      (if c.forced 14 then (c.hold 14).shutDown else c.hold 14)
    else c

/-- Source 14 drops once every zone is below its shut-down level minus the hysteresis (R354). -/
def Core.shutLine (c : Core) : Core :=
  if c.faults.lines.contains 14 ∧ (List.range 8).all (fun z => match c.zoneHist z with
      | [] => true
      | a :: _ => decide (a.1 < c.zShut z - deg (bits (c.rd OD.ZONE_LEVELS z) 31 28))) then
    (List.range 8).foldl (fun (c : Core) z => c.wr OD.ZONE_STATE z (setBits (c.rd OD.ZONE_STATE z) 3 3 0)) (c.drop 14)
  else c

/-- A reading of a temperature sensor, 2^-16 C; `flag` is OVLD or CLIP (R347, R348). -/
def Core.sensorReading (c : Core) (n : Nat) (v : Int) (flag : Bool) : Core :=
  let x := c.sensor n
  let z := sensorZone n
  let jump := match x.prev with
    | some p => decide (deg 8 < v - p ∨ deg 8 < p - v)
    | none => false
  let bad := flag || decide (v < -deg 40 ∨ deg 150 < v) || jump
  let c := if bad then
      let fresh := !c.sensorFailed n
      let top := (zoneSensors z).all (fun m => !c.sensorValid m || decide ((c.sensor m).good ≤ x.good))
      let sub := if fresh then c.sensorValid n && decide (c.rd OD.THROTTLE_STEP ≠ 0) && top else c.sensorSub n
      let c := (c.setSensor n { x with prev := some v, run := 0 }).wr OD.SENSOR_STATE n (2 + 4 * bn sub)
      if fresh then c.pulse 15 else c
    else if c.sensorFailed n ∧ x.run < 7 then c.setSensor n { x with prev := some v, run := x.run + 1 }
    else (c.setSensor n ⟨some v, v, 0⟩).wr OD.SENSOR_STATE n 1
  (c.zoneUpdate z).shutLine

/-- The abort of a write to ZONE_LEVELS (R363). -/
def Core.zoneLevelsCheck (z v : Nat) : Nat :=
  let w := bits v 63 56
  let t := bits v 51 44
  let s := bits v 39 32
  if w < t ∧ t < s ∧ s + 5 ≤ bits v 27 20 ∧ bits v 27 20 = bits (Dict.dflt OD.ZONE_LEVELS z) 27 20 ∧
      1 ≤ bits v 55 52 ∧ 1 ≤ bits v 43 40 ∧ 1 ≤ bits v 31 28 ∧ 1 ≤ bits v 19 16 ∧ bits v 15 0 = 0 then 0 else abValue

/-- The abort of a write to ZONE_OVERRIDE (R349). -/
def Core.overrideCheck (c : Core) (z v : Nat) : Nat :=
  if 1 < v ∨ (v = 1 ∧ (zoneSensors z).any c.sensorValid) then abValue else 0

/-- ZONE_OVERRIDE_WRITE (R349). -/
def execZoneOverrideWrite (path : Path) (zone : Fin 8) (value : BitVec 8) (s : State) : Host.Outcome State Fault Refusal :=
  s.does (fun c => c.byActive path (fun c =>
    c.rwWrite OD.ZONE_OVERRIDE zone.val value.toNat (c.overrideCheck zone.val value.toNat)))

/-! ### The throttle (R352, R353) -/

/-- Zones at throttle by a sensor, and zones that stand there without one (R349). -/
def Core.hotZone (c : Core) : Bool :=
  (List.range 8).any (fun z => bit (c.rd OD.ZONE_STATE z) 2 && !bit (c.rd OD.ZONE_STATE z) 4 && !c.released z)
def Core.blindZone (c : Core) : Bool := (List.range 8).any (fun z => bit (c.rd OD.ZONE_STATE z) 4 && !c.released z)

/-- Every zone lies below its throttle level minus the hysteresis (R352). -/
def Core.coolZones (c : Core) : Bool :=
  (List.range 8).all (fun z => c.released z || (match c.zoneHist z with
    | [] => true
    | a :: _ => decide (a.1 < c.zThrottle z - deg (bits (c.rd OD.ZONE_LEVELS z) 43 40))))

/-- The THROTTLE_STEP that the zones call for at this boundary (R352). -/
def Core.throttleTo (c : Core) : Nat :=
  let step := c.rd OD.THROTTLE_STEP
  let rested := match c.therm.stepAt with
    | some t => decide (t + nsU 100000000 ≤ c.up)
    | none => true
  if step = 0 then (if c.therm.stepDue || (rested && c.hotZone) || c.blindZone then 1 else 0)
  else if rested = false then step
  else if c.hotZone then min (step + 1) 3
  else if c.coolZones ∧ ¬ c.blindZone then step - 1
  else step

/-- THROTTLE_STEP: at a boundary in Run the packet clock steps by one level (R352, R353). -/
def Core.throttleStep (c : Core) : Core :=
  let step := c.rd OD.THROTTLE_STEP
  let dest := c.throttleTo
  if ¬ c.lanesOn ∨ ¬ isBoundary c.now ∨ c.therm.stepAt = some c.up ∨ dest = step then c
  else
    let c := ((c.set OD.THROTTLE_STEP dest).set OD.PIPE_CLOCK (clockOf dest)).inc OD.THROTTLE_STEPS
    let c := { c with therm := { c.therm with stepAt := some c.up, stepDue := false } }
    let c := c.follow 13 (dest != 0)
    if dest = 0 then
      (List.range 64).foldl (fun (c : Core) n => c.wr OD.SENSOR_STATE n (setBits (c.rd OD.SENSOR_STATE n) 2 2 0)) c
    else c

/-- THROTTLE_STEP (R352). -/
def execThrottleStep (s : State) : Host.Outcome State Fault Refusal := s.does Core.throttleStep

/-! ### Rails (R357) -/

/-- Source, window in mV, and binary places of the reading of a sense source (R126, R357). -/
def railOf (src : Nat) : Option (Nat × Int × Int × Nat) :=
  if 64 ≤ src ∧ src ≤ 67 then some (17, 720, 780, 22) else if src = 69 then some (18, 870, 930, 22)
  else if src = 71 then some (19, 1710, 1890, 21) else if 72 ≤ src ∧ src ≤ 75 then some (20, 3140, 3460, 21)
  else if 77 ≤ src ∧ src ≤ 80 then some (21, 25000, 27000, 18) else if src = 82 then some (22, 3140, 3460, 21) else none

/-- A scan reading of a rail: its source is LIVE while the last reading of any sense point lies outside the window; VDD_HV
below 24.5 V also raises the drive headroom source (R116, R357, R402). -/
def Core.railReading (c : Core) (src : Nat) (v : Int) : Core :=
  match railOf src with
  | none => c
  | some (n, lo, hi, k) =>
    let out := decide (v * 1000 < lo * 2 ^ k ∨ hi * 2 ^ k < v * 1000)
    let rest := c.therm.railsOut.filter (· != src)
    let c := { c with therm := { c.therm with railsOut := if out then rest ++ [src] else rest } }
    let c := c.follow n (c.therm.railsOut.any (fun s => (railOf s).any (fun r => r.1 == n)))
    if n = 21 then
      c.follow 92 (decide (v * 1000 < 24500 * 2 ^ k) ||
        ((c.therm.railsOut.filter (· != src)).any (fun s =>
          decide (77 ≤ s ∧ s ≤ 80) && decide (toSigned 32 (c.rd OD.SOURCE_VALUE s) * 1000 < 24500 * 2 ^ k))))
    else c

/-- HV_OVERVOLTAGE: each die above 27.5 V forces its channels to their clear codes in the way of CLEAR_N, and source 23
fires (R113, R357). -/
def Core.overvoltage (c : Core) (dies : List Nat) : Core :=
  if dies.isEmpty then c
  else
    let c := (c.assertClear dies).ttHalt 4
    (if c.rd OD.CLEAR_STATE = 0 then c.set OD.CLEAR_STATE 3 else c).pulse 23

/-- HV_OVERVOLTAGE (R357). -/
def execHvOvervoltage (dies : BitVec 4) (s : State) : Host.Outcome State Fault Refusal :=
  s.does (fun c => c.overvoltage ([0, 1, 2, 3].filter (bit dies.toNat)))

/-! ### Changes of power state (R358 to R360) -/

/-- A write of POWER_CMD (R358). -/
def Core.powerCmd (c : Core) (v : Nat) : Core :=
  if c.power = psMaint then c.ends abRole
  else if c.rd OD.POWER_CHANGING = 1 ∨ (v ≤ 1 ∧ (c.src 14).sev.isSome) then c.ends abRunning
  else if 3 ≤ v then c.ends abValue
  else if c.power = v then c
  else
    { c.set OD.POWER_CHANGING 1 with
      pwr := ⟨some v, boundaryFrom (c.now + 2 * frameUnits), false, c.power, false, none⟩ }

/-- POWER_CMD_RUN (R358). -/
def execPowerCmdRun (path : Path) (s : State) : Host.Outcome State Fault Refusal :=
  s.does (fun c => c.byActive path (fun c => c.powerCmd psRun))

/-- POWER_CMD_QUIET (R358). -/
def execPowerCmdQuiet (path : Path) (s : State) : Host.Outcome State Fault Refusal :=
  s.does (fun c => c.byActive path (fun c => c.powerCmd psQuiet))

/-- POWER_CMD_DORMANT (R358). -/
def execPowerCmdDormant (path : Path) (s : State) : Host.Outcome State Fault Refusal :=
  s.does (fun c => c.byActive path (fun c => c.powerCmd psDormant))

/-- The starting boundary of an accepted change: POWER_STATE takes its new value and the actions of R359 begin. -/
def Core.powerBegin (c : Core) : Core :=
  match c.pwr.target with
  | none => c
  | some t =>
    if c.pwr.begun ∨ c.now < c.pwr.startAt then c
    else
      let from_ := c.power
      let c := { c with pwr := { c.pwr with begun := true, coefFrom := if t ≤ 1 ∧ from_ ≤ 1 then some from_ else none } }
      let c := c.startGrace
      if t = psDormant then
        let c := (c.endCommit 5).ttHalt 3
        let c := (if from_ = psRun then c.stopEngine else c).dropOverlaps
        (c.beginRelease false from_).set OD.POWER_STATE t
      else
        let c := if from_ = psRun then c.stopEngine else c
        let c := if from_ = psDormant then
            { c.set OD.RESTORE_PENDING 1 with trav := { c.trav with restore := true } } else c
        let c := c.set OD.POWER_STATE t
        if t = psRun then c.startEngine else c

/-- A change of power state, or a thermal shut-down, is complete once no release runs; a shut-down ends in Dormant, and in
Maintenance stays there (R354, R358, R359). -/
def Core.powerComplete (c : Core) : Core :=
  if c.trav.release.isSome then c
  else if c.pwr.shut then
    let c := { (c.endCommit 5).ttHalt 3 with pwr := PowerUnit.idle }
    let c := c.set OD.POWER_CHANGING 0
    if c.power = psMaint then c else ((c.set OD.POWER_STATE psDormant).startGrace).dropLines domainLine
  else if c.pwr.begun then
    let c := { c.set OD.POWER_CHANGING 0 with pwr := { PowerUnit.idle with coefFrom := c.pwr.coefFrom } }
    if c.power = psDormant then c.dropLines domainLine else c
  else c

/-- POWER_CHANGE_COMPLETE (R359). -/
def execPowerChangeComplete (s : State) : Host.Outcome State Fault Refusal := s.does Core.powerComplete

end Sys2Proof.Machine
end

