-- ==== Sys2Proof/Machine/Monitor.lean ====
section
/-! DEFINITION. Monitor results, what is read from the input and output taps, and the survey bank: the scan, the four
sequences and the injected conversion (R48, R50, R52, R120 to R138, R160). -/

namespace Sys2Proof.Machine

/-! ### Monitor results (R120 to R125) -/

/-- Whether the monitor channels run: in Run and Quiet, and in Maintenance once boot step S05 has passed (R120). -/
def Core.monRuns (c : Core) : Bool :=
  decide (c.loopPower = psRun ∨ c.loopPower = psQuiet) ||
    (decide (c.loopPower = psMaint) && c.passed 5)

/-- The corrected result of a channel in 2^-38 codes (R63). -/
def Core.corrected (c : Core) (ch w : Nat) : Int :=
  (c.rd OD.MON_GAIN ch : Int) * (toSigned 24 (bits w 31 8) * 256 - toSigned 32 (c.rd OD.MON_OFFSET ch))

/-- The power of a corrected result, 0.01 dBm, not below -4000 (R48). -/
def tapPower (ch : Nat) (v : Int) : Int := max (-4000) (Config.portPower ch v)

/-- A tap's record after a result: its power, its history, its flags and, of an input, the frames that speak for a change of its
lit state (R48, R50, R52). Power and HIGH keep their values where the result is unusable, and OVLD results count for LIT_FRAMES and
for the mean (DESIGN CHOICE, log 57). -/
def Core.tapResult (c : Core) (key ch w : Nat) : Core :=
  let x := Tab.get c.inputs key LitIn.reset
  let v := c.corrected ch w
  let p := Config.portPower ch v
  let above := bit w 7
  let speaks := if x.lit then decide (p < toSigned 16 (c.rd OD.UNLIT_THRESHOLD))
    else decide (toSigned 16 (c.rd OD.LIT_THRESHOLD) ≤ p)
  let y : LitIn := { x with power := if above then x.power else p, hist := (v :: x.hist).take 200, above := above
                            high := if above then x.high else decide (toSigned 16 (c.rd OD.HIGH_POWER_LEVEL) < p)
                            count := if speaks then x.count + 1 else 0 }
  let c := { c with inputs := Tab.put c.inputs key y LitIn.reset }
  if key < 512 then
    let any := fun (f : LitIn → Bool) => c.inputs.any (fun q => decide (q.1 < 512) && f q.2)
    (c.follow 243 (any (·.high))).follow 244 (any (·.above))
  else c

/-- The word that a channel reports in this frame (R125, R139). -/
def Core.monitorWord (c : Core) (ch w : Nat) : Core :=
  let d := chanDie ch
  let cur := idivFree (c.corrected ch w * 200000000) (2 ^ 38 * 8388607)
  let at_ := Tab.get c.monAt ch 0
  let c := if at_ = c.frames + 1 then c
    else { c with monPrev := Tab.put c.monPrev ch (c.rd OD.MON_RESULT ch, c.rd OD.MON_CURRENT ch, at_) (0, 0, 0) }
  let c := (c.wr OD.MON_RESULT ch w).wr OD.MON_CURRENT ch (ofSigned 32 cur)
  let c := { c with monAt := Tab.put c.monAt ch (c.frames + 1) 0 }
  let c := if bit w 7 then
      (((c.inc64 OD.OVLD_RESULTS_2700).occur 9 ch).hold (228 + d)).setLink d { c.link d with ovld := true }
    else if bit w 6 then c.inc64 OD.CLIP_RESULTS else c
  if 8704 ≤ ch then c.tapResult (ch - 8704) ch w else c

/-! ### The tenders (R13, R155) -/

/-- The readings of the sensors of a drive-and-sense die, and those of the control die for group 152 (R126). -/
def Core.tenderTemps (c : Core) (g : Nat) : List Int :=
  (if g < 152 then rangeFrom (16 + 4 * (g / 38)) 4 else rangeFrom 32 32).map (fun s => toSigned 32 (c.rd OD.SOURCE_VALUE s))

/-- The gain of a tender at its temperature, 2^-30 (R156). -/
def Core.tenderGain (c : Core) (g : Nat) : Nat := Config.tenderGain g (c.tenderTemps g)

/-- The window of a run whose results arrive in this frame; none while the tender's input is open (R155). -/
def Overlap.window (x : Overlap) (frames : Nat) : Option Nat := (x.base.bind (fun b => if b ≤ frames then some (frames - b) else none))

/-- A window of a parallel block; the other blocks are zero blocks (R155). -/
def isParallel (n : Nat) : Bool := decide (n / 16 % 2 = 0)

/-- The RESULT of a word. -/
def wordCode (w : Nat) : Int := toSigned 24 (bits w 31 8)

/-- The sum of a list. -/
def sumI (l : List Int) : Int := l.foldl (· + ·) 0

/-- The word that a zero block delivers for its channel: o_x + (g_T / g_x) (x_T - o_T) in the channel's code scale, with OVERLAP and
TENDER; CLIP tells whether the RESULT so formed is at a limit (R121, R155). -/
def Core.zeroWord (c : Core) (g : Nat) (x : Overlap) (w : Nat) : Nat :=
  let gx := c.rd OD.MON_GAIN x.ch
  let n : Int := x.opens.length
  let num := toSigned 32 (c.rd OD.MON_OFFSET x.ch) * gx * n + 256 * (c.tenderGain g) * (wordCode w * n - sumI x.opens)
  let v := idivFree num (256 * gx * x.opens.length)
  let r := clampI (-8388608) 8388607 v
  let w := setBits w 6 6 (bn (decide (r = 8388607 ∨ r = -8388608)))
  let w := if c.rd OD.DARK_FAIL x.ch = 1 then setBits w 7 7 1 else w
  setBits (setBits w 31 8 (ofSigned 24 r)) 5 4 3

/-- The overlap that a channel is in. -/
def Core.overlapOf (c : Core) (ch : Nat) : Option Overlap :=
  (Tab.find? c.cal.overlaps (ch / 64)).bind (fun x => if x.ch = ch then some x else none)

/-- Keeps what an overlap has measured. -/
def Core.setOverlap (c : Core) (g : Nat) (x : Overlap) : Core :=
  { c with cal := { c.cal with overlaps := Tab.set c.cal.overlaps g x } }

/-- A channel's own result: in a parallel block it is delivered with OVERLAP and kept for the fit, in a zero block it is kept for
the fit only (R155). -/
def Core.channelWord (c : Core) (ch w : Nat) : Core :=
  match c.overlapOf ch with
  | none => c.monitorWord ch (setBits w 5 4 0)
  | some x =>
    match x.window c.frames with
    | none => c.monitorWord ch (setBits w 5 4 0)
    | some n =>
      let c := if n < 512 then c.setOverlap (ch / 64) { x with xs := Tab.set x.xs n w } else c
      if isParallel n then c.monitorWord ch (setBits w 5 4 1) else c

/-- A tender's result: one of its 32 with its input open, else kept for the fit; in a zero block the channel's result is formed from
it (R155). The run begins with the window after the 32nd open result (log 56). -/
def Core.tenderWord (c : Core) (g w : Nat) : Core :=
  match Tab.find? c.cal.overlaps g with
  | none => c
  | some x =>
    if x.base.isNone then
      if c.frames < x.since ∨ bit w 7 then c
      else
        let opens := x.opens ++ [wordCode w]
        c.setOverlap g { x with opens := opens, base := if 32 ≤ opens.length then some (c.frames + 1) else none }
    else match x.window c.frames with
      | none => c
      | some n =>
        let c := if n < 512 then c.setOverlap g { x with ts := Tab.set x.ts n w } else c
        if isParallel n then c else c.monitorWord x.ch (c.zeroWord g x w)

/-- The end of the time for results of a frame: 2.8 us after its boundary (R14). -/
def Core.resultsOver (c : Core) : Bool := decide (nsU 2800 < c.now - c.frameStart)

/-- Result word, current and frame count plus 1 of a channel in the last window whose results are all in (R125). -/
def Core.monShown (c : Core) (ch : Nat) : Nat × Nat × Nat :=
  let at_ := Tab.get c.monAt ch 0
  if at_ = c.frames + 1 ∧ c.resultsOver = false then Tab.get c.monPrev ch (0, 0, 0)
  else (c.rd OD.MON_RESULT ch, c.rd OD.MON_CURRENT ch, at_)

/-- OVLD_CHANNELS: channels whose result in the last window carries OVLD (R139). -/
def Core.ovldChannels (c : Core) : Nat :=
  let last := if c.resultsOver then c.frames + 1 else c.frames
  c.monAt.countP (fun p => let x := c.monShown p.1; bit x.1 7 && x.2.2 == last)

/-- The die whose link carries the results of a channel, or of the tender of group k - 9728 (R13). -/
def resultDie (k : Nat) : Nat := if k < 9728 then chanDie k else (k - 9728) / 38

/-- Whether a result is a sample of its channel: in a zero block the tender's is, and the channel's own is not (R155). -/
def Core.isSample (c : Core) (k : Nat) : Bool :=
  let g := if k < 9728 then k / 64 else k - 9728
  let zero := (Tab.find? c.cal.overlaps g).any (fun x =>
    (decide (9728 ≤ k) || decide (x.ch = k)) && (x.window c.frames).any (fun n => !isParallel n))
  if k < 9728 then !zero else zero

/-- A result is missing in this frame (R14). -/
def Core.lacks (c : Core) (k : Nat) : Core :=
  let d := resultDie k
  if c.isSample k then c.setLink d { c.link d with missNow := true } else c

/-- A result arrives: accepted if it does by B(f) + 2.8 us and its FRAME_TAG is that of the frame, else missing (R14, R121 to R123).
A channel marked in DARK_FAIL carries OVLD (R376). -/
def Core.monitorResult (c : Core) (ch w0 : Nat) : Core :=
  let d := resultDie ch
  if c.monRuns = false ∨ (c.link d).up = false then c
  else if bits w0 3 0 ≠ c.frameIx % 16 ∨ c.resultsOver then c.lacks ch
  else if ch < 9728 then c.channelWord ch (if c.rd OD.DARK_FAIL ch = 1 then setBits w0 7 7 1 else w0)
  else c.tenderWord (ch - 9728) w0

/-- MONITOR_RESULT (R123). -/
def execMonitorResult (channel : Fin 9880) (word : BitVec 32) (s : State) : Host.Outcome State Fault Refusal :=
  s.does (fun c => c.monitorResult channel.val word.toNat)

/-- A result is not intact by B(f) + 2.8 us (R14). -/
def Core.resultMissing (c : Core) (ch : Nat) : Core :=
  let d := resultDie ch
  if c.monRuns ∧ (c.link d).up then c.lacks ch else c

/-- MONITOR_RESULT_MISSING (R14). -/
def execMonitorResultMissing (channel : Fin 9880) (s : State) : Host.Outcome State Fault Refusal :=
  s.does (fun c => c.resultMissing channel.val)

/-- The monitor-overload lines drop at a boundary after a frame without OVLD (R141). -/
def Core.ovldBoundary (c : Core) (d : Nat) : Core :=
  let x := c.link d
  if x.ovld then c.setLink d { x with ovld := false } else c.drop (228 + d)

/-- An input changes between lit and unlit after LIT_FRAMES frames past its threshold (R50). A frame without a result neither
advances nor ends the count (DESIGN CHOICE, log 57). -/
def Core.litChange (c : Core) (i : Nat) : Core :=
  let x := c.input i
  if x.count ≠ 0 ∧ c.rd OD.LIT_FRAMES ≤ x.count then
    { c with inputs := Tab.put c.inputs i { x with lit := !x.lit, count := 0 } LitIn.reset }
  else c

/-- LIT_STATE_CHANGE (R50). -/
def execLitStateChange (input : Fin 512) (s : State) : Host.Outcome State Fault Refusal :=
  s.does (fun c => c.litChange input.val)

/-- The mean power of a tap over the last POWER_AVERAGE frames with a result, 0.01 dBm, formed in codes (R48; DESIGN CHOICE: the
spec says only a mean over frames, log 57). -/
def Core.meanPower (c : Core) (key : Nat) : Int :=
  let h := (Tab.get c.inputs key LitIn.reset).hist.take (max 1 (c.rd OD.POWER_AVERAGE))
  if h.isEmpty then -4000 else tapPower (8704 + key) (idivFree (h.foldl (· + ·) 0) h.length)

/-! ### Survey converters (R126 to R130) -/

/-- Converter of a source (R126). -/
def converterOf (src : Nat) : Nat := src % 8

/-- Conversion time of a RATE code, ns (R127). -/
def convTime (rate : Nat) : Nat := [55000, 105000, 205000, 505000, 1005000].getD rate 0

/-- Zones in fast sampling, a bit each (R350). -/
def Core.fastMask (c : Core) : Nat :=
  (List.range 8).foldl (fun m z => if bit (c.rd OD.ZONE_STATE z) 0 then m + 2 ^ z else m) 0

/-- The temperature sources of a converter that lie in zones of a mask. -/
def fastSources (v mask : Nat) : List Nat :=
  ((List.range 8).map (8 * · + v)).filter (fun s => bit mask (sensorZone s))

/-- The sources that converter v converts at a scan instant of frame index f, given the fast zones 1.5 ms before (R128). -/
def scanList (v f mask : Nat) : List Nat :=
  if f % 200 = 0 then ((List.range 8).map (8 * · + v)) ++ [[64, 72, 80, 96].getD (f / 200 % 4) 64 + v]
  else fastSources v mask

/-- The first later scan instant at which a converter has scan work, none within three instants (R129). -/
def Core.nextScan (c : Core) (v : Nat) : Option Instant :=
  let g0 := c.now / (10 * frameUnits) * (10 * frameUnits)
  let at_ := fun k => g0 + k * (10 * frameUnits)
  let work := fun k => decide (at_ k % secondUnits / frameUnits % 200 = 0) || !(fastSources v (c.survey.fast.getD (3 - k) 0)).isEmpty
  if work 1 then some (at_ 1) else if work 2 then some (at_ 2) else if work 3 then some (at_ 3) else none

/-- Whether a conversion that starts now fits before the converter's next scan work (R129). -/
def Core.fits (c : Core) (v rate : Nat) : Bool :=
  match c.nextScan v with
  | some t => decide (c.now + nsU (convTime rate) ≤ t)
  | none => true

/-- Starts a conversion on a converter, or on the tender that stands in for it (R127, R130). -/
def Core.startConv (c : Core) (v : Nat) (x : Conv) : Core :=
  let x := { x with ends := c.up + nsU (convTime x.rate), tender := c.cal.survey.any (fun y => y.conv == v) }
  { c with survey := { c.survey with conv := Tab.set c.survey.conv v x } }

/-- Starts the next scan conversion of a free converter. -/
def Core.startScan (c : Core) (v : Nat) : Core :=
  match Tab.find? c.survey.conv v, Tab.get c.survey.scan v [] with
  | none, s :: r =>
    ({ c with survey := { c.survey with scan := Tab.put c.survey.scan v r [] } } : Core).startConv v ⟨.scan, s, 0, 0, 0, 0, 0, false⟩
  | _, _ => c

/-- A scan instant: each converter has its sources to convert, and starts the first; one unfinished fires (R128, R141). -/
def Core.surveyScan (c : Core) : Core :=
  if c.frameIx % 10 ≠ 0 ∨ c.survey.scanAt = some c.frames then c
  else
    let late := c.survey.scan.any (fun p => !p.2.isEmpty) || c.survey.conv.any (fun p => decide (p.2.kind = .scan))
    let c := if late then c.pulse 234 else c
    let mask := c.survey.fast.getD 2 0
    let lists := (List.range 8).foldl (fun (t : Tab (List Nat)) v => Tab.put t v (scanList v c.frameIx mask) []) []
    let c := { c with survey := { c.survey with scan := lists, scanAt := some c.frames, fast := (c.fastMask :: c.survey.fast).take 3 } }
    (List.range 8).foldl Core.startScan c

/-- SURVEY_SCAN (R128). -/
def execSurveyScan (s : State) : Host.Outcome State Fault Refusal := s.does Core.surveyScan

/-! ### Sequences (R131 to R134) -/

/-- An object of SEQ_CONFIG, SEQ_ENTRIES or SEQ_RESULTS of sequence q, from that of sequence 0. -/
abbrev seqObj (obj q : Nat) : Nat := obj + 256 * q

/-- Fields of an entry (R131). -/
def entSource (w : Nat) : Nat := bits w 63 57
def entRate (w : Nat) : Nat := bits w 56 54
def entCmp (w : Nat) : Bool := bit w 53
def entHigh (w : Nat) : Int := toSigned 24 (bits w 47 24)
def entLow (w : Nat) : Int := toSigned 24 (bits w 23 0)

/-- An entry of a sequence. -/
def Core.seqEntry (c : Core) (q e : Nat) : Nat := c.rd (seqObj OD.SEQ_ENTRIES_2728 q) e

/-- A sequence with nothing in progress. -/
def SeqRec.reset : SeqRec := ⟨0, none, [], false⟩

/-- The record of a sequence. -/
def Core.seq (c : Core) (q : Nat) : SeqRec := Tab.get c.survey.seqs q SeqRec.reset

/-- Sets the record of a sequence. -/
def Core.setSeq (c : Core) (q : Nat) (x : SeqRec) : Core :=
  { c with survey := { c.survey with seqs := Tab.put c.survey.seqs q x SeqRec.reset } }

/-- Whether an entry goes before another: earliest trigger, then sequence, then entry (R129). -/
def SeqWait.before (a b : SeqWait) : Bool :=
  decide (a.trig < b.trig) || (decide (a.trig = b.trig) && (decide (a.seq < b.seq) || (decide (a.seq = b.seq) && decide (a.entry < b.entry))))

/-- Puts an entry in its place. -/
def insertWait (x : SeqWait) : List SeqWait → List SeqWait
  | [] => [x]
  | y :: l => if x.before y then x :: y :: l else y :: insertWait x l

/-- A trigger of a sequence: it runs, or the trigger is an overrun (R133). -/
def Core.trigger (c : Core) (q : Nat) : Core :=
  let state := seqObj OD.SEQ_STATE_2720 q
  if c.rd state = 2 then (c.inc (seqObj OD.TRIG_OVERRUNS_2720 q)).pulse 233
  else if c.rd state = 1 then
    let n := c.rd (seqObj OD.ENTRY_COUNT_2720 q)
    let c := ((c.set state 2).inc (seqObj OD.RUN_COUNT_2720 q)).set (seqObj OD.LAST_TRIGGER_2720 q) (time64 c.now)
    let run := c.rd (seqObj OD.RUN_COUNT_2720 q)
    let c := c.setSeq q { c.seq q with left := n }
    { c with survey := { c.survey with
        waits := (List.range n).foldl (fun l e => insertWait ⟨c.now, q, e, run⟩ l) c.survey.waits } }
  else c

/-- Whether the level of SURVEY_TRIG has lasted 50 ns since its last edge: a shorter pulse yields no edge (R407; of two changes of
level so close the first has been taken as an edge, DESIGN CHOICE, log 61). -/
def Core.edgeTakes (c : Core) : Bool :=
  match c.survey.edgeAt with
  | some t => decide (t + nsU 50 ≤ c.up)
  | none => true

/-- An edge of SURVEY_TRIG is time-stamped and starts the sequences that it triggers (R132, R407). -/
def Core.trigEdge (c : Core) (rising : Bool) : Core :=
  if ¬ c.edgeTakes then c
  else
  let c := { c with survey := { c.survey with edgeAt := some c.up } }.set OD.LAST_EDGE (time64 c.now)
  (List.range 4).foldl (fun (c : Core) q =>
    let m := c.rd (seqObj OD.TRIG_MODE_2720 q)
    if m = 3 ∨ (m = 1 ∧ rising) ∨ (m = 2 ∧ ¬ rising) then c.trigger q else c) c

/-- SURVEY_TRIG_EDGE (R132). -/
def execSurveyTrigEdge (rising : Bool) (at_ : Nat) (s : State) : Host.Outcome State Fault Refusal :=
  s.does (fun c => (c.advance at_).trigEdge rising)

/-- A software START (R132). -/
def Core.seqStart (c : Core) (q v : Nat) : Core :=
  if v ≠ 1 then c.ends abValue
  else if c.rd (seqObj OD.SEQ_STATE_2720 q) = 2 then c.ends abRunning
  else if c.rd (seqObj OD.SEQ_STATE_2720 q) = 0 then c.ends abValue
  else c.trigger q

/-- SEQ_START (R132). -/
def execSeqStart (path : Path) (seq : Fin 4) (value : BitVec 8) (s : State) : Host.Outcome State Fault Refusal :=
  s.does (fun c => c.byActive path (fun c => c.seqStart seq.val value.toNat))

/-- The time trigger of a sequence as a write of 1 to SEQ_ENABLE finds it: the abort, or its first instant (R41, R132). -/
def Core.seqFirst (c : Core) (q : Nat) : Nat × Option Instant :=
  let m := c.rdNext (seqObj OD.TRIG_MODE_2720 q)
  let b := ofTime64 (c.rdNext (seqObj OD.TRIG_BASE_2720 q))
  let lead := c.now + 2 * frameUnits
  if m ≠ 4 ∧ m ≠ 5 then (0, none)
  else if c.timeState = tsFree then (abFree, none)
  else if c.now + 86400 * secondUnits < b then (abValue, none)
  else if m = 4 then (if b < lead then (abLead, none) else (0, some b))
  else (0, some (gridFrom b (nsU (c.rdNext (seqObj OD.TRIG_PERIOD_2720 q))) lead))

/-- A write of SEQ_ENABLE: in effect at the next boundary (R132, R134). -/
def Core.seqEnableWrite (c : Core) (q v : Nat) : Core :=
  if 1 < v then c.ends abValue
  else if v = 1 ∧ c.rdNext (seqObj OD.SEQ_ENABLE_2720 q) = 0 then
    let r := c.seqFirst q
    if r.1 ≠ 0 then c.ends r.1
    else (c.setSeq q { c.seq q with next := r.2 }).defer (seqObj OD.SEQ_ENABLE_2720 q) 0 1
  else c.defer (seqObj OD.SEQ_ENABLE_2720 q) 0 v

/-- SEQ_ENABLE_WRITE (R134). -/
def execSeqEnableWrite (path : Path) (seq : Fin 4) (value : BitVec 8) (s : State) : Host.Outcome State Fault Refusal :=
  s.does (fun c => c.byActive path (fun c => c.seqEnableWrite seq.val value.toNat))

/-- SEQ_ENABLE comes into force: enabled, the comparators are armed and the records are not VALID; disabled, entries not
yet started are abandoned; the first instant of a time trigger is that of the last accepted write of 1 (R133 to R136). -/
def Core.seqEnableApply (c : Core) (q v : Nat) : Core :=
  let was := c.rd (seqObj OD.SEQ_ENABLE_2720 q)
  let c := c.set (seqObj OD.SEQ_ENABLE_2720 q) v
  if v = was then c
  else if v = 1 then
    let res := seqObj OD.SEQ_RESULTS_2730 q
    let c := (storeListed c.regs res).foldl (fun (c : Core) p => c.wr res p.1 (setBits p.2 130 130 0)) c
    (c.set (seqObj OD.SEQ_STATE_2720 q) 1).setSeq q { c.seq q with left := 0, disarmed := [], enabled := true }
  else
    let n := c.survey.waits.countP (fun w => w.seq == q)
    let c := { c with survey := { c.survey with waits := c.survey.waits.filter (fun w => w.seq != q) } }
    ((c.inc (seqObj OD.ENTRIES_ABANDONED_2720 q) 0 n).set (seqObj OD.SEQ_STATE_2720 q) 0).setSeq q { SeqRec.reset with next := (c.seq q).next, disarmed := (c.seq q).disarmed }

/-- The abort of a write to a stop-only object of a sequence, or to one of its entries (R131, R134, R139). -/
def Core.seqCheck (c : Core) (q sub v : Nat) : Nat :=
  if c.rd (seqObj OD.SEQ_ENABLE_2720 q) = 1 ∨ c.rdNext (seqObj OD.SEQ_ENABLE_2720 q) = 1 then abRunning
  else match sub with
    | 2 => if 5 < v then abValue else 0
    | 3 => if v = 0 ∨ 256 < v then abValue else 0
    | 4 => if time64Valid v ∧ isBoundary (ofTime64 v) then 0 else abValue
    | 5 => if v = 0 ∨ v % 50000 ≠ 0 then abValue else 0
    | _ => if 103 < entSource v ∨ 4 < entRate v ∨ bits v 52 48 ≠ 0 ∨ (entCmp v ∧ entHigh v < entLow v) then abValue else 0

/-- Step 5 of R21: the sequences whose time trigger is due start; a periodic one next fires at its next grid instant
(R132, R133). -/
def Core.timeTriggers (c : Core) : Core :=
  (List.range 4).foldl (fun (c : Core) q =>
    match (c.seq q).next with
    | some t =>
      if c.now < t ∨ c.rd (seqObj OD.SEQ_ENABLE_2720 q) = 0 then c
      else
        let b := ofTime64 (c.rd (seqObj OD.TRIG_BASE_2720 q))
        let p := nsU (c.rd (seqObj OD.TRIG_PERIOD_2720 q))
        let nx := if c.rd (seqObj OD.TRIG_MODE_2720 q) = 5 then some (gridFrom b p (c.now + 1)) else none
        (c.setSeq q { c.seq q with next := nx }).trigger q
    | none => c) c

/-- The instant at which a sequence's time trigger is scheduled: none while it is disabled, its accepted writes counted (R132, R134). -/
def Core.scheduled (c : Core) (q : Nat) : Option Instant :=
  if c.rdNext (seqObj OD.SEQ_ENABLE_2720 q) = 1 then (c.seq q).next else none

/-- A time step changes the label of the next boundary from `was` to that of the present frame's end (R39, R40). What is accepted
counts: the writes of the trigger come into force at that boundary at the latest (R7). -/
def Core.triggersStep (c : Core) (was : Instant) : Core :=
  (List.range 4).foldl (fun (c : Core) q =>
    match c.scheduled q with
    | some t =>
      if c.rdNext (seqObj OD.TRIG_MODE_2720 q) = 5 then
        let b := ofTime64 (c.rdNext (seqObj OD.TRIG_BASE_2720 q))
        let p := nsU (c.rdNext (seqObj OD.TRIG_PERIOD_2720 q))
        -- what was done is not done again: after a backward step the next instant stays
        if t < c.frameEnd then c.setSeq q { c.seq q with next := some (gridFrom b p c.frameEnd) } else c
      -- a one-shot trigger is cancelled, and reported by the source of a skipped commit (R39; the spec names no form, log 55)
      else if was ≤ t ∧ t < c.frameEnd then (c.setSeq q { c.seq q with next := none }).pulse 261
      else c
    | none => c) c

/-! ### Conversions (R127, R129, R135 to R137) -/

/-- What the calibration of a survey converter needs next (R159): 0 a zero-input conversion of the tender, 1 a parallel pair, 2 a
zero-input conversion of the converter, 3 nothing. -/
def SurvCal.next (y : SurvCal) : Nat :=
  if y.opens.length < 16 then 0
  else if y.xs.countP (fun p => (Tab.find? y.ts p.1).isSome) < 32 then 1
  else if y.zs.length < 32 then 2 else 3

/-- A calibration conversion: of source 64 + v where it is parallel, of a multiplexer at zero input else. -/
def calConv (source entry : Nat) : Conv := ⟨.cal, source, 0, 0, entry, 0, 0, false⟩

/-- A request of the calibration sequencer on the tender, which goes before every sequence entry: its own zero-input conversion, or
a conversion of the same window as the converter's; none that does not end before the next scan work (R129, R159). -/
def Core.calStart (c : Core) (v : Nat) : Option Core :=
  match c.cal.survey with
  | none => none
  | some y =>
    if y.conv ≠ v ∨ c.fits v 0 = false then none
    else if y.next = 0 then some (c.startConv v (calConv 0 0))
    else if y.next = 1 ∧ (Tab.find? c.survey.conv 8).isNone then
      let x := calConv (64 + v) (y.begun + 1)
      let c := { c with cal := { c.cal with survey := some { y with begun := y.begun + 1 } } }
      some ((c.startConv v x).startConv 8 x)
    else none

/-- The converter that the tender calibrates takes its next zero-input conversion (R159). -/
def Core.zeroStart (c : Core) : Core :=
  match c.cal.survey with
  | some y => if y.next = 2 ∧ (Tab.find? c.survey.conv 8).isNone then c.startConv 8 (calConv 0 0) else c
  | none => c

/-- The first sequence entry that waits for a converter starts, if it ends before the next scan work (R129). -/
def Core.entryStart (c : Core) (v : Nat) : Core :=
  match c.survey.waits.find? (fun w => converterOf (entSource (c.seqEntry w.seq w.entry)) == v) with
  | none => c
  | some w =>
    let e := c.seqEntry w.seq w.entry
    if c.fits v (entRate e) then
      ({ c with survey := { c.survey with waits := c.survey.waits.erase w } } : Core).startConv v
        ⟨.seq, entSource e, entRate e, w.seq, w.entry, w.run, 0, false⟩
    else c

/-- A free converter takes its next work: due scan conversions, a request of the calibration sequencer, a sequence entry (R129). -/
def Core.convStart (c : Core) (v : Nat) : Core :=
  if v = 8 then c.zeroStart
  else if (Tab.find? c.survey.conv v).isSome then c
  else if ¬ (Tab.get c.survey.scan v []).isEmpty then c.startScan v
  else (c.calStart v).getD (c.entryStart v)

/-- SURVEY_CONVERSION_START (R129). -/
def execSurveyConversionStart (converter : Fin 9) (at_ : Nat) (s : State) : Host.Outcome State Fault Refusal :=
  s.does (fun c => (c.advance at_).convStart converter.val)

/-- A result record (R135). -/
def resultRecord (res : Nat) (ovld clip tender outside event : Bool) (t : Instant) (tag : Nat) : Nat :=
  res % 2 ^ 24 * 2 ^ 136 + bn ovld * 2 ^ 135 + bn clip * 2 ^ 134 + bn tender * 2 ^ 133 + bn outside * 2 ^ 132
    + bn event * 2 ^ 131 + 2 ^ 130 + time64 t * 2 ^ 16 + tag % 2 ^ 16

/-- A scan or sequence result: its source's value and time, and who uses it (R130, R348). -/
def Core.sourceResult (c : Core) (src : Nat) (v : Int) (flag : Bool) : Core :=
  let c := (c.wr OD.SOURCE_VALUE src (ofSigned 32 v)).wr OD.SOURCE_TIME src (time64 c.now)
  if src < 64 then c.sensorReading src v flag else c

/-- The result of a sequence entry: its record, its comparator, and the end of the run (R133, R135, R136). -/
def Core.entryResult (c : Core) (x : Conv) (res : Nat) (ovld clip : Bool) : Core :=
  let q := x.seq
  let w := c.seqEntry q x.entry
  let v := toSigned 24 res
  let out := entCmp w && (ovld || decide (v < entLow w ∨ entHigh w < v))
  let r := c.seq q
  let send := out && !r.disarmed.contains x.entry
  let rec_ := resultRecord res ovld clip x.tender out send c.now x.run
  let c := c.wr (seqObj OD.SEQ_RESULTS_2730 q) x.entry rec_
  let others := r.disarmed.filter (· != x.entry)
  let c := if entCmp w then c.setSeq q { r with disarmed := if out then others ++ [x.entry] else others } else c
  let c := if send then
      c.emit 7 (seqObj OD.SEQ_RESULTS_2730 q) (be 2 x.entry ++ be 1 x.source ++ be 1 0 ++ be 20 rec_) else c
  if c.rd (seqObj OD.SEQ_STATE_2720 q) = 2 ∧ c.rd (seqObj OD.RUN_COUNT_2720 q) = x.run then
    let left := (c.seq q).left - 1
    let c := c.setSeq q { c.seq q with left := left }
    if left = 0 then
      let c := (c.set (seqObj OD.SEQ_STATE_2720 q) 1).set (seqObj OD.LAST_DONE_2720 q) (time64 c.now)
      if c.rd (seqObj OD.EVENT_ON_DONE_2720 q) = 1 then c.emit 6 (seqObj OD.LAST_DONE_2720 q) (be 4 x.run) else c
    else c
  else c

/-- A calibration conversion has ended: its result is kept, but not one with OVLD, which is taken again (R158, R159, log 56). -/
def SurvCal.add (y : SurvCal) (x : Conv) (tender : Bool) (r : Int) : SurvCal :=
  if x.source ≠ 0 then
    (if tender then { y with ts := Tab.set y.ts x.entry r } else { y with xs := Tab.set y.xs x.entry r })
  else if tender then { y with opens := y.opens ++ [r] } else { y with zs := y.zs ++ [r] }

/-- A conversion whose window ends in this frame completes (R127, R128, R130, R135, R137). -/
def Core.convDone (c : Core) (v res : Nat) (ovld clip : Bool) : Core :=
  match Tab.find? c.survey.conv v with
  | none => c
  | some x =>
    if c.upFrame + frameUnits ≤ x.ends then c
    else
      let c := c.advanceTo (c.now + (x.ends - c.up))
      let c := { c with survey := { c.survey with conv := Tab.erase c.survey.conv v } }
      let c := if ovld then (c.inc OD.OVLD_RESULTS_2710).pulse 232 else c
      let val := toSigned 24 res
      match x.kind with
      | .scan =>
        let c := (c.inc64 OD.SCAN_CONVERSIONS).sourceResult x.source val (ovld || clip)
        let c := if 96 ≤ x.source then c.elsReading (x.source - 96) val else c.railReading x.source val
        c.startScan v
      | .seq => (c.sourceResult x.source val (ovld || clip)).entryResult x res ovld clip
      | .inject =>
        let r := resultRecord res ovld clip x.tender false false c.now (c.rd OD.INJECT_ACCEPTED)
        ((c.set OD.INJECT_RESULT r).set OD.INJECT_STATE 0).emit 8 OD.INJECT_RESULT (be 20 r)
      | .cal => if ovld then c
        else { c with cal := { c.cal with survey := c.cal.survey.map (fun y => y.add x (decide (v ≠ 8)) val) } }

/-- SURVEY_CONVERSION_DONE (R127). -/
def execSurveyConversionDone (converter : Fin 9) (result : BitVec 24) (ovld clip : Bool) (s : State) :
    Host.Outcome State Fault Refusal :=
  s.does (fun c => c.convDone converter.val result.toNat ovld clip)

/-- A write of INJECT_REQUEST: refused, dropped or started (R137, R160). One that meets the tender in a calibration conversion is
dropped. -/
def Core.inject (c : Core) (v : Nat) : Core :=
  let src := bits v 6 0
  let rate := bits v 10 8
  let cv := converterOf src
  if 2 ^ 11 ≤ v ∨ bit v 7 ∨ 103 < src ∨ 4 < rate then c.ends abValue
  else
    if (Tab.find? c.survey.conv cv).isSome ∨ ¬ (Tab.get c.survey.scan cv []).isEmpty ∨ c.fits cv rate = false ∨
        c.rd OD.INJECT_STATE = 1 then
      c.inc OD.INJECT_DROPS
    else ((c.inc OD.INJECT_ACCEPTED).set OD.INJECT_STATE 1).startConv cv ⟨.inject, src, rate, 0, 0, 0, 0, false⟩

/-- INJECT_REQUEST (R137). -/
def execInjectRequest (path : Path) (value : BitVec 16) (s : State) : Host.Outcome State Fault Refusal :=
  s.does (fun c => c.byActive path (fun c => c.inject value.toNat))

end Sys2Proof.Machine
end

