-- ==== Sys2Proof/Machine/Calib.lean ====
section
/-! DEFINITION. Calibration: agreement, retries and acceptance, the full fringe calibration, trims, the tender overlaps and
the survey converters (R142 to R162). -/

namespace Sys2Proof.Machine

/-! ### Items (R142 to R145) -/

/-- Kinds of item: 0 element, 1 monitor channel, 2 survey converter (R161). -/
abbrev kTe : Nat := 0
abbrev kMon : Nat := 1
abbrev kSurv : Nat := 2

/-- The key of an item among the retries. -/
def itemKey (kind n : Nat) : Nat := kind * 16384 + n

/-- Sets a bit of a converter's calibration flags (R163). -/
def Core.calFlags (c : Core) (kind n b : Nat) (on : Bool) : Core :=
  c.flagBit (if kind = kMon then OD.MON_CAL_FLAGS else OD.SURV_CAL_FLAGS) n b on

/-- CAL_FLAG of an item (R143). -/
def Core.setCalFlag (c : Core) (kind n : Nat) (on : Bool) : Core :=
  if kind = kTe then c.modLoop n (fun l => { l with calFlag := on }) else c.calFlags kind n 0 on

/-- The calibration-failed source of an item's kind (R143, R165). -/
def calFailSource (kind n : Nat) : Nat := if kind = kTe then 235 else if kind = kMon then 236 + chanDie n else 240

/-- Whether a pair that disagrees now is the item's third (R143). -/
def Core.lastPair (c : Core) (kind n : Nat) : Bool := decide (2 ≤ Tab.get c.cal.fails (itemKey kind n) 0)

/-- A pair disagrees: it is counted, and the third one fails the item (R143). -/
def Core.disagree (c : Core) (kind n : Nat) : Core :=
  let k := itemKey kind n
  let f := Tab.get c.cal.fails k 0 + 1
  let last := c.lastPair kind n
  let c := { c.inc OD.DISAGREEMENTS with cal := { c.cal with fails := Tab.put c.cal.fails k (if last then 0 else f) 0 } }
  if last then ((c.inc OD.CAL_FAILURES).setCalFlag kind n true).pulse (calFailSource kind n) else c

/-- A pair is accepted: its values take effect at the next boundary (R142, R144). -/
def Core.accept (c : Core) (kind n : Nat) (writes : List (Nat × Nat)) : Core :=
  { c with cal := { c.cal with fails := Tab.erase c.cal.fails (itemKey kind n)
                               writes := c.cal.writes ++ writes, items := c.cal.items ++ [(kind, n)] } }

/-- Count and time tables of a kind. -/
def calCountObj (kind : Nat) : Nat := if kind = kTe then OD.TE_CAL_COUNT else if kind = kMon then OD.MON_CAL_COUNT else OD.SURV_CAL_COUNT
def calTimeObj (kind : Nat) : Nat := if kind = kTe then OD.TE_CAL_TIME else if kind = kMon then OD.MON_CAL_TIME else OD.SURV_CAL_TIME

/-- The states of a Locked loop whose drive table changes: (D_old - D_new) / S_new joins y of the last and of the AW section,
so that the code does not step (R144). `old` is D_old over its denominator. -/
def Core.shiftStates (c : Core) (te : Nat) (old : Int × Int) : Core :=
  let l := c.loop te
  let d := driveTable c te (driveArg (setWords c.act) (mapEntry c.act) te l.sp)
  if l.st ≠ .locked ∨ d.2.2 = 0 then c
  else
    let num := (old.1 * d.2.1 - d.1 * old.2) * 32768 * d.2.2.sign
    let delta := idivFree num (old.2 * d.2.1 * d.2.2.natAbs).toNat
    let last := c.nsec te - 1
    let aw := c.awSection te
    let fix := fun (s : Sec) => { s with y1 := satQ15 (s.y1 + delta), y2 := satQ15 (s.y2 + delta) }
    let l := l.setSec last (fix (l.sec last))
    c.setLoop te (if aw < c.nsec te ∧ aw ≠ last then l.setSec aw (fix (l.sec aw)) else l)

/-- An element's accepted calibration starts its drift model afresh: its Locked time counts from here (R74). -/
def Loop.recalibrated (l : Loop) : Loop :=
  { l with regr := Loop.reset.regr, clock := { l.clock with lockedNs := 0 } }

/-- Whether an element's calibration is current (R145). -/
def Core.calCurrent (c : Core) (te : Nat) : Bool :=
  !(c.loop te).calFlag && decide (c.now ≤ ofTime64 (c.rd OD.TE_CAL_TIME te) + nsU (c.rd OD.CURRENT_AGE))

/-- The elements found not current, without those that are current again (R145). -/
def Core.stillOld (c : Core) : Core :=
  { c with cal := { c.cal with notCurrent := c.cal.notCurrent.filter (fun te => !c.calCurrent te) } }

/-- The boundary at which accepted calibrations take effect (R144). -/
def Core.calTakes (c : Core) : Core :=
  if c.cal.items.isEmpty ∧ c.cal.writes.isEmpty then c
  else
    let items := c.cal.items
    let tes := (items.filter (fun p => p.1 == kTe)).map (·.2)
    let old := tes.map (fun te =>
      let d := driveTable c te (driveArg (setWords c.act) (mapEntry c.act) te (c.loop te).sp)
      (te, (d.1, d.2.1)))
    let c := { c with regs := c.cal.writes.foldl (fun t p => storePut t p.1 p.2) c.regs
                      cal := { c.cal with writes := [], items := [] } }
    let c := items.foldl (fun (c : Core) p =>
      ((c.inc (calCountObj p.1) p.2).wr (calTimeObj p.1) p.2 (time64 c.now)).setCalFlag p.1 p.2 false) c
    old.foldl (fun (c : Core) p => (c.shiftStates p.1 p.2).modLoop p.1 Loop.recalibrated) c

/-- What a boundary does for calibration: accepted values come into force, and elements current again are so (R144, R145). -/
def Core.calApply (c : Core) : Core := c.calTakes.stillOld

/-- CAL_NOT_CURRENT: an element's calibration stops being current (R145). -/
def Core.notCurrent (c : Core) (te : Nat) : Core :=
  if c.calCurrent te ∨ c.cal.notCurrent.contains te then c
  else { c with cal := { c.cal with notCurrent := c.cal.notCurrent ++ [te] } }.pulse 242 [te]

/-- CAL_NOT_CURRENT (R145). -/
def execCalNotCurrent (te : Te) (s : State) : Host.Outcome State Fault Refusal := s.does (fun c => c.notCurrent te.val)

/-! ### Requests (R161) -/

/-- The requests, and PENDING_REQUESTS with them. -/
def Core.setRequests (c : Core) (l : List (Nat × Nat)) : Core :=
  { c.set OD.PENDING_REQUESTS l.length with cal := { c.cal with requests := l } }

/-- The head of the requests of a kind that a test admits. -/
def Core.requested (c : Core) (kind : Nat) (p : Nat → Bool) : Option Nat :=
  (c.cal.requests.find? (fun r => r.1 == kind && p r.2)).map (·.2)

/-- A request has been taken up. -/
def Core.served (c : Core) (kind n : Nat) : Core := c.setRequests (c.cal.requests.filter (· != (kind, n)))

/-- A write of CAL_REQUEST (R161). -/
def Core.calRequest (c : Core) (v : Nat) : Core :=
  let kind := bits v 31 28
  let n := bits v 13 0
  if bits v 27 14 ≠ 0 ∨ 2 < kind ∨ (kind = kTe ∧ 9215 < n) ∨ (kind = kMon ∧ 9727 < n) ∨ (kind = kSurv ∧ 7 < n) then c.ends abValue
  else if c.cal.requests.contains (kind, n) then c
  else c.setRequests ((kind, n) :: c.cal.requests)

/-- CAL_REQUEST (R161). -/
def execCalRequest (path : Path) (value : BitVec 32) (s : State) : Host.Outcome State Fault Refusal :=
  s.does (fun c => c.byActive path (fun c => c.calRequest value.toNat))

/-! ### Full fringe calibration (R146 to R149) -/

/-- Whether a calibration map assigns any output (R148). -/
def Core.mapLights (c : Core) (k : Nat) : Bool := (List.range 512).any (fun o => !isDark (c.rd OD.CAL_MAPS (512 * k + o)))

/-- A full fringe calibration starts: every loop is Parked for it, and the maps that are not all Dark wait for their turn (R147,
R148; that the loops are Parked is DEDUCED, log 56). -/
def Core.fringeStart (c : Core) : Core :=
  let maps := (List.range (c.rd OD.CAL_MAP_COUNT)).filter c.mapLights
  let c := ((c.set OD.FRINGE_STATE 1).set OD.FRINGE_MAPS maps.length).set OD.UNREACHED 0
  { c.mapLoops (fun _ => true) (fun _ l => l.park) with
    cal := { c.cal with fringe := some ⟨maps, [], [], [], [], [], false, 5, 0, [], [], false, false⟩ } }

/-- A write of FRINGE_CAL_CMD (R146). -/
def Core.fringeCmd (c : Core) (v : Nat) : Core :=
  if v ≠ 1 then c.ends abValue
  else if c.power ≠ psMaint then c.ends abRole
  else if c.rd OD.FRINGE_STATE = 1 then c.ends abRunning
  else c.fringeStart

/-- FRINGE_CAL_CMD (R146). -/
def execFringeCalCmd (path : Path) (value : BitVec 8) (s : State) : Host.Outcome State Fault Refusal :=
  s.does (fun c => c.byActive path (fun c => c.fringeCmd value.toNat))

/-- A table with linear interpolation between its points, its first and its last segment going on beyond its ends. -/
def tableAt (get : Nat → Int) (points : Nat) (num den : Int) : Int :=
  let j := (clampI 0 (points - 2 : Nat) (num / den)).toNat
  idivFree (get j * den + (get (j + 1) - get j) * (num - j * den)) den.toNat

/-- The codes of an element's sweep, evenly spaced: 128 from the clear code to the lower of the ceiling and the code 0.4 rad beyond
the cross extremum; 64 over the service range of a balance element; 64 from the clear code to the ceiling of a VOA (R149, log 56). -/
def Core.sweepCodes (c : Core) (te : Nat) : List Nat :=
  let top := c.ceiling te
  let at_ := fun (a : Int) =>
    let p := tablePlace te a
    min top (clampI 0 262143 (tableAt (fun j => (c.rd OD.DRIVE_TABLE (64 * te + j) : Int)) 64 p.1 p.2.2)).toNat
  let codes := fun (n lo hi : Nat) => (List.range n).map (fun i => lo + (hi - lo) * i / (n - 1))
  match teKind te with
  | 0 => codes 128 (c.clearCode te) (at_ (pi24 + idivFree (4 * 16777216) 10))
  | 1 => codes 64 (at_ (-4194304)) (at_ 4194304)
  | _ => codes 64 (c.clearCode te) top

/-- The code of an element at an argument of its drive table, at most its ceiling. -/
def Core.codeFor (c : Core) (te : Nat) (a : Int) : Nat := min (c.ceiling te) (driveCode c te a 0)

/-- The channels that tell of an element under a calibration map (R63). -/
def Core.sweepChannels (c : Core) (f : Fringe) (te : Nat) : List Nat :=
  if te < 8704 then c.ldmChannels te 0 else [9216 + (te - 8704), 8704 + entryInput (mapOf f.map (te - 8704))]

/-- What the window that has just ended tells of an element: m of a phase element and the dark-output residual of a balance element
in Q31, the loss of a VOA in 2^-24 dB; nothing where a result is missing, carries OVLD or is not usable (R64, R149). -/
def Core.sweepSample (c : Core) (f : Fringe) (te stage : Nat) : Option Int :=
  let chs := c.sweepChannels f te
  if chs.all (fun ch => decide (Tab.get c.monAt ch 0 = c.frames) && !bit (c.monWord ch) 7) then
    let taps := chs.map (c.tap (if te < 8704 then te / 2 else te))
    if te < 8704 then
      let r := ratioM taps (c.rd OD.OBS_MIN)
      let m := idivFree (r.1 * r.2.1.sign * 2 ^ 31) r.2.1.natAbs
      if r.2.2 then some (if stage < 2 then m else if stage = 2 then (2 ^ 31 - m) / 2 else (2 ^ 31 + m) / 2) else none
    else some (-decibel (taps.getD 0 0) (taps.getD 1 0))
  else none

/-- The stages of a sweep: 1 phase elements, 2 and 3 balance elements with the phase element at bar and at cross, 4 VOAs. -/
def sweepsIn (stage te : Nat) : Bool :=
  match teKind te with
  | 0 => decide (stage = 1)
  | 1 => decide (stage = 2 ∨ stage = 3)
  | _ => decide (stage = 4)

/-- The measurements of an element in a stage of the sweep, by point; none unless all are there. -/
def Fringe.points (f : Fringe) (te stage n : Nat) : Option (List Int) :=
  let t := Tab.get f.samples (8 * te + stage) []
  if t.length = n then some (t.map (·.2)) else none

/-- The place of the highest of a list, the first of equals. -/
def argMax (l : List Int) : Nat := (l.zipIdx.foldl (fun (a : Int × Nat) p => if a.1 < p.1 then p else a) (l.getD 0 0, 0)).2

/-- The value at an argument by linear interpolation between points given in order, the arguments in units of one `den`-th; none
where no two neighbours hold it. -/
def interpolate (den : Int) : List (Int × Int) → Int → Option Int
  | [], _ => none
  | [p], a => if p.1 * den = a then some p.2 else none
  | p :: q :: r, a =>
    let x := p.1 * den
    let y := q.1 * den
    if x = a then some p.2
    else if (x < a ∧ a < y) ∨ (y < a ∧ a < x) then
      some (p.2 + idivFree ((q.2 - p.2) * ((a - x) * (y - x).sign)) (y - x).natAbs)
    else interpolate den (q :: r) a

/-- n points of a table (0 drive, 1 fringe, 2 null) from what a sweep tells: the argument of point j is base + j × step in units of
one `den`-th. Where the swept points do not hold an argument, the spec states no value for it: a free value (R149, log 56). -/
def tablePoints (k te : Nat) (codes : List Nat) (ss : List Int) (pts : List (Int × Int)) (n : Nat) (den base step : Int) : List Int :=
  (List.range n).map (fun (j : Nat) => (interpolate den pts (base + j * step)).getD (Config.sweepPoint k te codes ss j))

/-- The tables of a phase element (R142, R149): the bar extremum of m stands at 0 and the cross extremum at pi, the phase of every
other code swept is a free value, and between them the tables are interpolated at the 64 phase points. -/
def phaseTables (te : Nat) (codes : List Nat) (ss : List Int) : Option (List Int × List Int) :=
  let b := argMax ss
  let x := argMax (ss.map (- ·))
  if 0 < b ∧ b < x ∧ x < 127 then
    let phi := fun i => if i = b then 0 else if i = x then pi24 else Config.sweepPhase te codes ss i
    let table := fun k (ys : List Int) =>
      tablePoints k te codes ss (ys.zipIdx.map (fun p => (phi p.2, p.1))) 64 630 (-3 * 16777216 * 63) (10 * pi24 + 6 * 16777216)
    some (table 0 (codes.map (fun (n : Nat) => (n : Int))), table 1 ss)
  else none

/-- The tables of a balance element (R142, R149): the null is the code of the least dark-output residual, bar and cross together, the
offset of every other code swept is a free value, and between them the tables are interpolated at their points. -/
def balanceTables (te : Nat) (codes : List Nat) (bar cross : List Int) : List Int × List Int :=
  let rs := (bar.zip cross).map (fun p => idivFree (p.1 + p.2) 2)
  let z := argMax (rs.map (- ·))
  let theta := fun i => if i = z then 0 else Config.sweepPhase te codes rs i
  let pts := fun (ys : List Int) => ys.zipIdx.map (fun p => (theta p.2, p.1))
  (tablePoints 0 te codes rs (pts (codes.map (fun (n : Nat) => (n : Int)))) 64 126 (-4194304 * 126) 16777216,
   tablePoints 2 te codes rs (pts rs) 16 15 0 4194304)

/-- The drive table of a VOA (R142, R149): the attenuation of a code is its loss above the least loss of the sweep, and between the
codes the table is interpolated at the 64 attenuation points. -/
def voaTable (te : Nat) (codes : List Nat) (ss : List Int) : List Int :=
  let least := ss.foldl min (ss.getD 0 0)
  tablePoints 0 te codes ss ((codes.zip ss).map (fun p => (p.2 - least, (p.1 : Int)))) 64 63 0 419430400

/-- The tables that a sweep gives an element: drive, and fringe or null. A sweep that lacks a point, or of a phase element that does
not pass both extrema, gives none (R149). -/
def Core.sweepTables (c : Core) (f : Fringe) (te : Nat) : Option (List Int × List Int) :=
  let codes := c.sweepCodes te
  match teKind te with
  | 0 => (f.points te 1 128).bind (phaseTables te codes)
  | 1 => (f.points te 2 64).bind (fun bar => (f.points te 3 64).map (balanceTables te codes bar))
  | _ => (f.points te 4 64).map (fun ss => (voaTable te codes ss, []))

/-- The sequencer stages a code for an element: a die whose link is down or whose clear is asserted takes none, and keeps its codes
(R112, R114, R149). -/
def Core.sweepDrive (c : Core) (te code : Nat) : Core :=
  if (c.link (teDie te)).up ∧ ¬ c.clearing te then c.driveTo te code else c

/-- Whether two tables agree within 0.3 mrad at each point: the difference of their values over the steeper of the segments that
meet there; `den / w` is the argument's step from point to point (R142; the conversion is DEDUCED, log 56). -/
def pointsAgree (a b : List Int) (w den : Int) : Bool :=
  (List.range a.length).all (fun j =>
    let v := a.getD j 0
    let seg := max (a.getD (j + 1) v - v).natAbs (v - a.getD (j - 1) v).natAbs
    decide ((v - b.getD j 0).natAbs * den.natAbs * 10000 ≤ 3 * 16777216 * seg * w.natAbs))

/-- Whether the slopes of two VOA drive tables agree within 200 ppm (R142). -/
def slopesAgree (a b : List Int) : Bool :=
  (List.range (a.length - 1)).all (fun j =>
    let s := a.getD (j + 1) 0 - a.getD j 0
    let t := b.getD (j + 1) 0 - b.getD j 0
    decide ((s - t).natAbs * 1000000 * 2 ≤ 200 * (s + t).natAbs))

/-- Whether the two sweeps of an element agree (R142, R149). -/
def tablesAgree (te : Nat) (a b : List Int × List Int) : Bool :=
  let p := tablePlace te 0
  if te < 8704 then
    pointsAgree a.1 b.1 p.2.1 p.2.2 &&
      (if te % 2 = 0 then pointsAgree a.2 b.2 p.2.1 p.2.2 else pointsAgree a.2 b.2 15 4194304)
  else slopesAgree a.1 b.1

/-- The mean of two tables (R142). -/
def meanTable (a b : List Int) : List Int := (a.zip b).map (fun p => idivFree (p.1 + p.2) 2)

/-- The tables of an element as writes: the drive table, and the fringe or the null table (R149, R163). -/
def fringeWrites (te : Nat) (t : List Int × List Int) : List (Nat × Nat) :=
  let drive := t.1.zipIdx.map (fun p => (okey OD.DRIVE_TABLE (64 * te + p.2), (clampI 0 262143 p.1).toNat))
  let q31 := fun (obj base : Nat) => t.2.zipIdx.map (fun p => (okey obj (base + p.2), ofSigned 32 (satQ31 p.1)))
  match teKind te with
  | 0 => drive ++ q31 OD.FRINGE_TABLE (64 * (te / 2))
  | 1 => drive ++ q31 OD.NULL_TABLE (16 * (te / 2))
  | _ => drive

/-- Keeps the state of the sequencer. -/
def Core.setFringe (c : Core) (f : Fringe) : Core := { c with cal := { c.cal with fringe := some f } }

/-- The next map: its entries, solved in Fresh mode, and the cells driven to the solved settings; a map that names one input for two
outputs fails its solve, which ends the calibration; after the last map it is over (R148, R149, R176). -/
def Core.fringeMap (c : Core) (f : Fringe) : Core :=
  match f.left with
  | [] => c.setFringe { f with finished := true }
  | k :: r =>
    let m : Tab Nat := (List.range 512).filterMap (fun o =>
      let e := c.rd OD.CAL_MAPS (512 * k + o)
      if isDark e then none else some (o, e))
    if (firstConflict [] (circuits m)).isSome then c.setFringe { f with left := [], finished := true, bad := true }
    else
      let words := (solveResult ⟨false, false, 255, false, m, [], [], []⟩).1
      let c := (List.range 4352).foldl (fun (c : Core) cell =>
        let c := c.sweepDrive (2 * cell) (c.codeFor (2 * cell) (if crossIn (wordOf words) cell then pi24 else 0))
        c.sweepDrive (2 * cell + 1) (c.codeFor (2 * cell + 1) 0)) c
      c.setFringe { f with left := r, map := m, words := words, todo := [], again := false, stage := 0, tick := 0
                           samples := [], first := [] }

/-- Whether a cell of the present map has usable light: a lit line passes it, and u reaches OBS_MIN (R64, R147). -/
def Core.cellUsable (c : Core) (f : Fringe) (cell : Nat) : Bool :=
  let ins := cellInputs (wordOf f.words) cell
  ((c.input ins.1).lit || (c.input ins.2).lit) && (c.sweepSample f (2 * cell) 1).isSome

/-- The light of the map has settled: its usable cells and the VOAs of its lit outputs are calibrated, but for those already done
(R147, R149, log 56). -/
def Core.fringeLook (c : Core) (f : Fringe) : Core :=
  let cells := (List.range 4352).filter (c.cellUsable f)
  let voas := (circuits f.map).filterMap (fun p => if (c.input p.1).lit then some (voaTe p.2) else none)
  let todo := (cells.flatMap (fun k => [2 * k, 2 * k + 1]) ++ voas).filter (fun te => !f.done.contains te)
  let f := { f with cells := f.cells ++ cells.filter (fun k => !f.cells.contains k), todo := todo, stage := 1, tick := 0 }
  if todo.isEmpty then c.fringeMap f else c.setFringe f

/-- The second sweep of a pair has ended: an element whose sweeps agree is accepted with their mean, one whose third pair disagrees
keeps what it has, the others run a fresh pair (R142, R143, R149). -/
def Core.fringePair (c : Core) (f : Fringe) : Core :=
  let r := f.todo.foldl (fun (a : Core × List Nat) te =>
    let c := a.1
    match Tab.find? f.first te, c.sweepTables f te with
    | some x, some y =>
      if tablesAgree te x y then (c.accept kTe te (fringeWrites te (meanTable x.1 y.1, meanTable x.2 y.2)), a.2)
      else (c.disagree kTe te, if c.lastPair kTe te then a.2 else a.2 ++ [te])
    | _, _ => (c.disagree kTe te, if c.lastPair kTe te then a.2 else a.2 ++ [te])) (c, [])
  let f := { f with done := f.done ++ f.todo.filter (fun te => !r.2.contains te), todo := r.2, again := false, stage := 1, tick := 0
                    samples := [], first := [] }
  if r.2.isEmpty then r.1.fringeMap f else r.1.setFringe f

/-- A sweep of all its stages has ended. -/
def Core.fringeSweep (c : Core) (f : Fringe) : Core :=
  if f.again then c.fringePair f
  else
    let first := f.todo.filterMap (fun te => (c.sweepTables f te).map (fun t => (te, t)))
    c.setFringe { f with again := true, stage := 1, tick := 0, samples := [], first := first.foldl (fun t p => Tab.set t p.1 p.2) [] }

/-- Where the phase elements stand in a stage: at bar or at cross by the extremum of their own sweep for their balance elements, else
as the map's settings have them (R149). -/
def Core.holdPhase (c : Core) (f : Fringe) : Core :=
  (f.todo.filter (fun te => teKind te == 1)).foldl (fun (c : Core) te =>
    let ph := te - 1
    let cross := if f.stage = 2 then false else if f.stage = 3 then true else crossIn (wordOf f.words) (te / 2)
    let code := match f.points ph 1 128 with
      | some ss => (c.sweepCodes ph).getD (argMax (if cross then ss.map (- ·) else ss)) 0
      | none => c.codeFor ph (if cross then pi24 else 0)
    (c.sweepDrive ph code).sweepDrive te (if f.stage = 4 then c.codeFor te 0 else c.driven te)) c

/-- One boundary of a stage of a sweep with n points: the point staged two boundaries before has been measured, and the next is
staged (R149). -/
def Core.fringeTick (c : Core) (f : Fringe) (n : Nat) : Core :=
  let tes := f.todo.filter (sweepsIn f.stage)
  let samples := if f.tick < 2 then f.samples else tes.foldl (fun (t : Tab (Tab Int)) te =>
    match c.sweepSample f te f.stage with
    | some v => Tab.set t (8 * te + f.stage) (Tab.set (Tab.get t (8 * te + f.stage) []) (f.tick - 2) v)
    | none => t) f.samples
  let f := { f with samples := samples }
  let c := if f.tick = 0 then c.holdPhase f else c
  let c := if f.tick < n then tes.foldl (fun (c : Core) te => c.sweepDrive te ((c.sweepCodes te).getD f.tick 0)) c else c
  if f.tick ≤ n then c.setFringe { f with tick := f.tick + 1 }
  else if f.stage < 4 then c.setFringe { f with stage := f.stage + 1, tick := 0 }
  else c.fringeSweep f

/-- What a boundary does for a full fringe calibration (R147 to R149): light has LIT_FRAMES frames to show itself before a map's sweeps
begin. -/
def Core.fringeBoundary (c : Core) : Core :=
  match c.cal.fringe with
  | none => c
  | some f =>
    if f.finished then c
    else match f.stage with
      | 0 => if f.tick < c.rd OD.LIT_FRAMES + 3 then c.setFringe { f with tick := f.tick + 1 } else c.fringeLook f
      | 1 => c.fringeTick f 128
      | 5 => c.fringeMap f
      | _ => c.fringeTick f 64

/-- The cells that no map gave usable light, unless maps did not run (R147, log 56). -/
def Fringe.dark (f : Fringe) : List Nat := if f.bad then [] else (List.range 4352).filter (fun k => !f.cells.contains k)

/-- Whether a full fringe calibration missed a cell or an element failed (R149, R165). -/
def Core.fringeShort (c : Core) (f : Fringe) : Bool := decide (f.dark ≠ []) || decide (c.rd OD.CAL_FAILURES ≠ 0)

/-- The FRINGE_STATE that a full fringe calibration ends with (R149). -/
def Core.fringeResult (c : Core) (f : Fringe) : Nat := if c.fringeShort f ∨ f.bad then 3 else 2

/-- The end of a full fringe calibration, with the result it reports: cells without light flagged and counted, every element back at
its clear code (R143, R147, R149, R165). -/
def Core.fringeEnd (c : Core) (result unreached : Nat) : Core :=
  match c.cal.fringe with
  | none => c
  | some f =>
    if f.finished = false ∨ result ≠ c.fringeResult f ∨ unreached ≠ f.dark.length then c
    else
      let dark := f.dark
      let short := c.fringeShort f
      let c := dark.foldl (fun (c : Core) k => (c.setCalFlag kTe (2 * k) true).setCalFlag kTe (2 * k + 1) true) c
      let c := (c.set OD.UNREACHED dark.length).set OD.FRINGE_STATE result
      let c := if short then c.pulse 241 else c
      let codes := (storeListed c.regs OD.DRIVE_CODE).map (·.1) ++ (storeListed c.regs OD.CLEAR_CODE).map (·.1)
      let c := codes.foldl (fun (c : Core) te => c.sweepDrive te (c.clearCode te)) c
      { c with cal := { c.cal with fringe := none } }

/-- FRINGE_CAL_END (R149). -/
def execFringeCalEnd (result : BitVec 8) (unreached : Fin 4353) (s : State) : Host.Outcome State Fault Refusal :=
  s.does (fun c => c.fringeEnd result.toNat unreached.val)

/-! ### Trims (R150 to R154) -/

/-- The monitor channels that an element's LDM reads (R64, R150). -/
def Core.teChannels (c : Core) (te : Nat) : List Nat := c.ldmChannels te (if te < 8704 then 0 else 1)

/-- Whether a channel is in a tender overlap (R150, R162). -/
def Core.inOverlap (c : Core) (ch : Nat) : Bool := (c.overlapOf ch).isSome

/-- Whether an element lies on a path of a circuit of the active map (R150). -/
def Core.onCircuit (c : Core) (te : Nat) : Bool :=
  if te < 8704 then
    let r := cellInputs (setWords c.act) (te / 2)
    [r.1, r.2].any (fun i => (List.range 512).any (fun o => entryRoute (mapEntry c.act o) == some i))
  else !isDark (mapEntry c.act (te - 8704))

/-- Whether an element may be put into Trim, but for its place in the order (R150, R161, R162). -/
def Core.trimEligible (c : Core) (te : Nat) : Bool :=
  let l := c.loop te
  let named := c.cal.requests.contains (kTe, te)
  let age := c.now - ofTime64 (c.rd OD.TE_CAL_TIME te)
  decide (l.st = .locked) && l.usable && !l.frozen && c.teLit te &&
  (decide (te < 8704) || decide ((c.glide (te - 8704)).phase = 0)) &&
  (named || (decide (c.rd OD.CAL_ENABLE = 1) && decide (nsU (c.rd OD.TRIM_INTERVAL) < age))) &&
  (match c.rd OD.TRIM_POLICY with
    | 0 => false
    | 1 => !c.onCircuit te
    | _ => true) &&
  decide (c.power = psRun) && c.trav.release.isNone && c.inCharge && !(c.teChannels te).any c.inOverlap

/-- Whether an element is the next to trim: the head request, else the oldest calibration time, lower TE first (R161). -/
def Core.trimNext (c : Core) (te : Nat) : Bool :=
  match c.requested kTe c.trimEligible with
  | some r => r == te
  | none =>
    let t := ofTime64 (c.rd OD.TE_CAL_TIME te)
    !(c.loops.any (fun p =>
      let u := ofTime64 (c.rd OD.TE_CAL_TIME p.1)
      decide (u < t ∨ (u = t ∧ p.1 < te)) && c.trimEligible p.1))

/-- The loops in Trim. -/
def Core.inTrim (c : Core) : List (Nat × Loop) := c.loops.filter (fun p => decide (p.2.st = .trim))

/-- TRIM_START: an eligible element enters Trim with a dither bin that no other uses (R150, R151). -/
def Core.trimStart (c : Core) (te bin : Nat) : Core :=
  let others := c.inTrim
  if c.trimEligible te ∧ c.trimNext te ∧ others.length < c.rd OD.TRIM_BATCH ∧ bin % 2 = 1 ∧ 33 ≤ bin ∧
      ¬ others.any (fun p => p.2.bin == bin) then
    let c := (c.modLoop te (fun l => { l with st := .trim, bin := bin, trimFrames := 0 })).served kTe te
    { c with cal := { c.cal with trims := Tab.erase c.cal.trims te, samples := Tab.erase c.cal.samples te } }
  else c

/-- TRIM_START (R150). -/
def execTrimStart (te : Te) (bin : Fin 256) (s : State) : Host.Outcome State Fault Refusal :=
  s.does (fun c => c.trimStart te.val bin.val)

/-! ### What a run measures (R152) -/

/-- In-phase and quadrature sums of a run at a bin, against the dither of three frames before, which a frame's window measures
(R19, R152): samples 2^-47 rad^2 or 2^-24 dB, sums 2^-60 of that. -/
def demodulate (te bin : Nat) (run : Tab Int) : Int × Int :=
  run.foldl (fun (s : Int × Int) p =>
    let k := bin * (p.1 + 1021) + Config.ditherPhase te
    (s.1 + p.2 * sinTurn k, s.2 + p.2 * sinTurn (k + 256))) (0, 0)

/-- The amplitude of a component, twice the sample's unit: 2 / 1,024 of the length of its sums (R152). -/
def amplitude (s : Int × Int) : Nat := divFree (isqrt (s.1 * s.1 + s.2 * s.2).toNat) (2 ^ 68)

/-- phi0 in 2^-24 rad and kap - 1 in 2^-24 from r1 and r2 in 2^-48: a is the root of 8 r2, phi0 twice r1 / a, kap a / 2 mrad; with no
dither to be seen there is no fit (R152). -/
def trimFit (r1 : Int) (r2 : Nat) : Option (Int × Int) :=
  let a := isqrt (8 * r2)
  if a = 0 then none else some (idivFree (2 * r1) a, (a : Int) * 500 - 2 ^ 24)

/-- What a run of an element gives: phi0 and kap - 1 of a cell element, r1 with the sign of its part in phase with the dither; 0 and
the ratio of the loss change to the dither, less 1, of a VOA (R152, log 21). -/
def runFit (te bin : Nat) (run : Tab Int) : Option (Int × Int) :=
  let s := demodulate te bin run
  let r1 := amplitude s
  if te < 8704 then trimFit (if s.1 < 0 then -(r1 : Int) else r1) (amplitude (demodulate te (2 * bin) run))
  else if r1 = 0 then none else some (0, idivFree ((r1 : Int) * 50) 2 - 2 ^ 24)

/-! ### The refinement (R152, R153) -/

/-- The argument that a refinement's working point has, and the points that it touches: those within 0.3 rad of the extremum of a
phase element, all of a balance element, the two about the working point of a VOA (R152). -/
def Core.workingPoint (c : Core) (te : Nat) : Int :=
  match teKind te with
  | 0 => c.target te
  | 1 => 0
  | _ => driveArg (setWords c.act) (mapEntry c.act) te (c.loop te).sp
def Core.touched (c : Core) (te : Nat) : List Nat :=
  let p := tablePlace te (c.workingPoint te)
  match teKind te with
  | 0 => (List.range 64).filter (fun (j : Nat) =>
      decide ((p.1 - (j : Int) * p.2.2).natAbs * 10 ≤ (3 * 16777216 * p.2.1).natAbs))
  | 1 => List.range 64
  | _ => let j := (clampI 0 62 (p.1 / p.2.2)).toNat; [j, j + 1]

/-- Where the table in force holds what point j is to hold: the true argument of the place at distance x from the working point is
phi0 + kap x (DEDUCED, log 21). Numerator and denominator in points, as those of `tablePlace`. -/
def Core.oldPlace (c : Core) (te : Nat) (f : Int × Int) (j : Nat) : Int × Int :=
  let p := tablePlace te (c.workingPoint te)
  let kap := if teKind te = 1 then 2 ^ 24 else 2 ^ 24 + f.2
  (p.1 * kap + ((j : Int) * p.2.2 - p.1 - f.1 * p.2.1) * 2 ^ 24, p.2.2 * kap)

/-- The points of the null table under a refinement: only the scale moves them (R152). -/
def nullPlace (f : Int × Int) (k : Nat) : Int × Int := ((k : Int) * 2 ^ 24, 2 ^ 24 + f.2)

/-- Whether two places lie within a distance: |q - r| × den / w, the distance in units of the argument, against lim / per. -/
def nearPlaces (q r : Int × Int) (w den : Int) (lim per : Nat) : Bool :=
  decide ((q.1 * r.2 - r.1 * q.2).natAbs * den.natAbs * per ≤ lim * 16777216 * (w * q.2 * r.2).natAbs)

/-- Whether two fits give every point of an element within a limit of each other; the fit (0, 0) leaves each where it is. -/
def Core.withinPoints (c : Core) (te : Nat) (f g : Int × Int) (lim per : Nat) : Bool :=
  let p := tablePlace te (c.workingPoint te)
  decide (0 < 2 ^ 24 + f.2 ∧ 0 < 2 ^ 24 + g.2) &&
    (c.touched te).all (fun j => nearPlaces (c.oldPlace te f j) (c.oldPlace te g j) p.2.1 p.2.2 lim per) &&
    (decide (teKind te ≠ 1) || (List.range 16).all (fun k => nearPlaces (nullPlace f k) (nullPlace g k) 15 4194304 lim per))

/-- Whether two runs of an element agree: 0.3 mrad at every point, or 200 ppm of the slope of a VOA (R142). -/
def Core.trimAgrees (c : Core) (te : Nat) (a b : Int × Int) : Bool :=
  if te < 8704 then c.withinPoints te a b 3 10000
  else decide ((a.2 - b.2).natAbs * 1000000 * 2 ≤ 200 * (2 ^ 25 + a.2 + b.2).natAbs)

/-- Whether a refinement moves a point by more than REFINE_MAX: urad, and mdB / 100 for VOAs (R153). -/
def Core.refusesFit (c : Core) (te : Nat) (f : Int × Int) : Bool :=
  !c.withinPoints te f (0, 0) (c.rd OD.REFINE_MAX) (if te < 8704 then 1000000 else 100000)

/-- The table points of an element after a refinement (R152). -/
def Core.refineWrites (c : Core) (te : Nat) (f : Int × Int) : List (Nat × Nat) :=
  let drive := (c.touched te).map (fun j =>
    let q := c.oldPlace te f j
    (okey OD.DRIVE_TABLE (64 * te + j),
      (clampI 0 262143 (tableAt (fun i => (c.rd OD.DRIVE_TABLE (64 * te + i) : Int)) 64 q.1 q.2)).toNat))
  let signed := fun (obj base points j : Nat) (q : Int × Int) =>
    (okey obj (base + j), ofSigned 32 (satQ31 (tableAt (fun i => toSigned 32 (c.rd obj (base + i))) points q.1 q.2)))
  match teKind te with
  | 0 => drive ++ (c.touched te).map (fun j => signed OD.FRINGE_TABLE (64 * (te / 2)) 64 j (c.oldPlace te f j))
  | 1 => drive ++ (List.range 16).map (fun k => signed OD.NULL_TABLE (16 * (te / 2)) 16 k (nullPlace f k))
  | _ => drive

/-- The mean of the two fits of a pair (R142). -/
def meanFit (a b : Int × Int) : Int × Int := (idivFree (a.1 + b.1) 2, idivFree (a.2 + b.2) 2)

/-- Whether a run of an element's trim is the one in progress: its dither bin, the pairs that disagreed before, and its place in the
pair (R142, R143, R151). -/
def Core.trimRun (c : Core) (te bin pair run : Nat) : Bool :=
  decide ((c.loop te).bin = bin ∧ Tab.get c.cal.fails (itemKey kTe te) 0 = pair ∧ bn (Tab.find? c.cal.trims te).isSome = run)

/-- A run of 1,024 frames has ended: the first of a pair is kept, the second decides; a run without a fit, and a refinement that is
refused, disagree (R142, R143, R152, R153). -/
def Core.trimRunEnd (c : Core) (te bin pair run : Nat) : Core :=
  let l := c.loop te
  if l.st ≠ .trim ∨ l.trimFrames < 1024 ∨ c.trimRun te bin pair run = false then c
  else
    let fit := runFit te l.bin (Tab.get c.cal.samples te [])
    let first := Tab.find? c.cal.trims te
    let c := { c with cal := { c.cal with samples := Tab.erase c.cal.samples te, trims := Tab.erase c.cal.trims te } }
    let again := fun (c : Core) => c.modLoop te (fun l => { l with trimFrames := 0 })
    let done := fun (c : Core) => c.modLoop te (fun l => { l with st := .locked, bin := 0, trimFrames := 0 })
    let fails := fun (c : Core) => if c.lastPair kTe te then done (c.disagree kTe te) else again (c.disagree kTe te)
    match fit, first with
    | none, _ => fails c
    | some f, none => again { c with cal := { c.cal with trims := Tab.set c.cal.trims te f } }
    | some f, some a =>
      if c.trimAgrees te a f ∧ c.refusesFit te (meanFit a f) = false then done (c.accept kTe te (c.refineWrites te (meanFit a f)))
      else fails c

/-- TRIM_RUN_END (R152). -/
def execTrimRunEnd (te : Te) (bin : Fin 256) (pair : Fin 3) (run : Fin 2) (s : State) : Host.Outcome State Fault Refusal :=
  s.does (fun c => c.trimRunEnd te.val bin.val pair.val run.val)

/-- A frame of every trim run has passed (R151). -/
def Core.trimFrame (c : Core) : Core :=
  if c.inTrim.isEmpty then c
  else c.mapLoops (fun _ => true) (fun _ l => if l.st = .trim then { l with trimFrames := l.trimFrames + 1 } else l)

/-- A switch-over begins: every loop in Trim is to enter Hold, with cause switch-over, at its next slot (R72, R77, R79). -/
def Core.holdTrims (c : Core) : Core :=
  c.mapLoops (fun _ => true) (fun te l => if l.st = .trim then l.holdAt causeSwitch (c.slotFrame te) else l)

/-- A loop that a switch-over holds, or is to hold. -/
def Loop.switchHeld (l : Loop) : Bool :=
  (decide (l.st = .hold) && decide (l.cause = causeSwitch) && !l.leaving) || l.holdNext.any (fun p => p.1 == causeSwitch)

/-- The trim of a loop that a switch-over was to hold ends without the Hold (R79). -/
def Loop.endTrim (l : Loop) : Loop := if l.st = .trim then { l with st := .locked, bin := 0, trimFrames := 0 } else l

/-- The new active supervisor is established: the loops that the switch-over holds leave Hold, and their trims are abandoned
and counted (R79); a loop whose link is down stays in Hold for the link (R16). -/
def Core.abandonTrims (c : Core) : Core :=
  let held := (c.loops.filter (fun p => p.2.switchHeld)).map (·.1)
  if held.isEmpty then c
  else
    let c := c.inc OD.TRIMS_ABANDONED 0 held.length
    { c.mapLoops (fun _ => true) (fun te l =>
        if l.switchHeld then
          (if l.st = .hold ∧ ¬ (c.link (teDie te)).up then { l with cause := causeLink } else (l.releaseFrom causeSwitch).endTrim)
        else l) with
      cal := { c.cal with trims := c.cal.trims.filter (fun p => !held.contains p.1) } }

/-! ### Runs of converters (R142, R156 to R158) -/

/-- Insertion into a rising list. -/
def insertInt (x : Int) : List Int → List Int
  | [] => [x]
  | y :: r => if x ≤ y then x :: y :: r else y :: insertInt x r

/-- A quartile of a sorted list of results in 256 parts of a code: between its two neighbours (R157, log 56). -/
def quartile (l : List Int) (upper : Bool) : Int :=
  let k := if upper then l.length - l.length / 4 else l.length / 4
  let a := l.getD (k - 1) 0
  a * 256 + (l.getD k a - a) * (Config.quartile l.length (bn upper) % 257 : Nat)

/-- The offset of a run, 2^-24 codes: the mean of the lower half of the zero results plus 0.798 IQR / 1.349 (R157). -/
def fitOffset (zs : List Int) : Int :=
  let l := zs.foldl (fun a x => insertInt x a) []
  let low := l.take (l.length / 2)
  let iqr := quartile l true - quartile l false
  idivFree (sumI low * 2 ^ 24 * 1349 + iqr * 2 ^ 16 * 798 * low.length) (low.length * 1349)

/-- The gain of a run, 2^-30: g_T (mean(x_T) - o_T) / (mean(x_x) - o_x), from the parallel results of both and the tender's results
with its input open; none where the converter's mean lies below its offset plus 41,943 codes (R156). -/
def fitGain (gT : Nat) (xs ts opens : List Int) (offset : Int) : Option Nat :=
  let n : Int := xs.length
  let m : Int := ts.length
  let q : Int := opens.length
  let below := sumI xs * 2 ^ 24 - offset * n
  if xs.isEmpty ∨ ts.isEmpty ∨ opens.isEmpty ∨ below < 41943 * 2 ^ 24 * n then none
  else some (idivFree ((gT : Int) * (sumI ts * q - sumI opens * m) * n * 2 ^ 24) (m * q * below).toNat).toNat

/-- The two runs agree: offsets within 32 codes, gains within 200 ppm of their mean where both were fitted (R142, R156). -/
def pairAgrees (a b : Option Nat × Int) : Bool :=
  decide ((a.2 - b.2).natAbs ≤ 32 * 2 ^ 24) &&
  (match a.1, b.1 with
    | some x, some y => decide (((x : Int) - y).natAbs * 1000000 * 2 ≤ 200 * (x + y))
    | _, _ => true)

/-- The mean gain of a pair, none where a run fitted none (R156). -/
def pairGain (a b : Option Nat × Int) : Option Nat :=
  match a.1, b.1 with
  | some x, some y => some (divFree (x + y) 2)
  | _, _ => none

/-- The second run of a pair has ended: accepted, or disagreed; `ended` is what ends the converter's calibration (R142, R143,
R156). -/
def Core.converterPair (c : Core) (kind n : Nat) (a b : Option Nat × Int) (ended : Core → Core) : Core :=
  let gObj := if kind = kMon then OD.MON_GAIN else OD.SURV_GAIN
  let oObj := if kind = kMon then OD.MON_OFFSET else OD.SURV_OFFSET
  if pairAgrees a b then
    let off := (okey oObj n, ofSigned 32 (idivFree (a.2 + b.2) (2 ^ 17)))
    match pairGain a b with
    | some g => ended ((c.accept kind n [(okey gObj n, g % 2 ^ 32), off]).calFlags kind n 2 false)
    | none => ended (((c.accept kind n [off]).calFlags kind n 2 true).inc OD.GAIN_SKIPPED)
  else if c.lastPair kind n then ended (c.disagree kind n)
  else c.disagree kind n

/-! ### Monitor tenders (R155 to R158, R161, R162) -/

/-- Whether background calibration of converters runs, in Run and Quiet; in Maintenance only requests are served (R162). -/
def Core.calBackground (c : Core) : Bool := decide (c.rd OD.CAL_ENABLE = 1) && decide (c.power = psRun ∨ c.power = psQuiet)

/-- MON_SWEEP_START: every MON_SWEEP_INTERVAL a sweep of every group starts (R161). -/
def Core.sweepStart (c : Core) : Core :=
  let due := match c.cal.sweepAt with
    | some t => decide (t + nsU (c.rd OD.MON_SWEEP_INTERVAL) ≤ c.up)
    | none => true
  if c.calBackground && due then
    { c with cal := { c.cal with sweep := (List.range 152).map (fun g => (g, 0)), sweepAt := some c.up } }
  else c

/-- MON_SWEEP_START (R161). -/
def execMonSweepStart (s : State) : Host.Outcome State Fault Refusal := s.does Core.sweepStart

/-- The channel that a group's tender takes next: a request of the group, else the next of the sweep (R161, R162). -/
def Core.nextChannel (c : Core) (g : Nat) : Option Nat :=
  match c.requested kMon (fun ch => ch / 64 == g) with
  | some ch => some ch
  | none => if c.calBackground then (Tab.find? c.cal.sweep g).map (64 * g + ·) else none

/-- TENDER_OVERLAP_START: the tender opens its input for a channel, the group's next, from the next window on; not for a channel that
a loop in Trim reads (R155, R162). -/
def Core.overlapStart (c : Core) (g channel : Nat) : Core :=
  match c.nextChannel g with
  | none => c
  | some ch =>
    if ch ≠ 64 * g + channel ∨ (Tab.find? c.cal.overlaps g).isSome ∨ c.monRuns = false ∨ c.power = psDormant ∨ c.pwr.shut ∨
        c.inTrim.any (fun p => (c.teChannels p.1).contains ch) then c
    else ((c.calFlags kMon ch 1 true).served kMon ch).setOverlap g ⟨ch, c.frames + 2, [], none, [], [], [], none⟩

/-- TENDER_OVERLAP_START (R155). -/
def execTenderOverlapStart (group : Fin 152) (channel : Fin 64) (s : State) : Host.Outcome State Fault Refusal :=
  s.does (fun c => c.overlapStart group.val channel.val)

/-- The calibration of a channel ends: the tender is free, and the sweep goes on to the next channel. -/
def Core.overlapEnds (c : Core) (g ch : Nat) : Core :=
  let next := match Tab.find? c.cal.sweep g with
    | some k => if 64 * g + k = ch then (if k = 63 then Tab.erase c.cal.sweep g else Tab.set c.cal.sweep g (k + 1)) else c.cal.sweep
    | none => c.cal.sweep
  { c.calFlags kMon ch 1 false with cal := { c.cal with overlaps := Tab.erase c.cal.overlaps g, sweep := next } }

/-- Whether a block of a run is discarded: an OVLD result, a missing sample or a traverse instant in it (R158). -/
def Overlap.discards (x : Overlap) (b : Nat) : Bool :=
  (rangeFrom (16 * b) 16).any (fun n =>
    x.hits.contains n ||
    (match Tab.find? x.xs n, Tab.find? x.ts n with
      | some a, some t => bit a 7 || bit t 7
      | _, _ => true))

/-- The windows of a run that enter the fit, of its parallel or of its zero blocks: the first of each block does not (R155, R158). -/
def Overlap.fitted (x : Overlap) (parallel : Bool) : List Nat :=
  ((List.range 16).filter (fun b => isParallel (16 * b) == parallel && !x.discards b)).flatMap (fun b => rangeFrom (16 * b + 1) 15)

/-- Gain and offset of a run (R156, R157). -/
def Core.overlapFit (c : Core) (g : Nat) (x : Overlap) : Option Nat × Int :=
  let codes := fun (t : Tab Nat) (p : Bool) => (x.fitted p).map (fun n => wordCode (Tab.get t n 0))
  let off := fitOffset (codes x.xs false)
  (fitGain (c.tenderGain g) (codes x.xs true) (codes x.ts true) x.opens off, off)

/-- The next run follows the one that has ended; where its own 256 windows are over too, it begins with the next window. -/
def Overlap.nextRun (x : Overlap) (frames : Nat) (first : Option (Option Nat × Int)) : Overlap :=
  match x.base with
  | none => x
  | some b =>
    let later := fun (t : Tab Nat) => t.filterMap (fun p => if p.1 < 256 then none else some (p.1 - 256, p.2))
    if frames < b + 512 then
      { x with base := some (b + 256), xs := later x.xs, ts := later x.ts, first := first,
               hits := (x.hits.filter (fun n => decide (256 ≤ n))).map (· - 256) }
    else { x with base := some (frames + 1), xs := [], ts := [], hits := [], first := first }

/-- An overlap run of a group's channel ends: with more than four discarded blocks it is repeated; the first of a pair is kept, the
second decides (R142, R155 to R158). -/
def Core.overlapRunEnd (c : Core) (g run : Nat) : Core :=
  match Tab.find? c.cal.overlaps g with
  | none => c
  | some x =>
    if x.base.any (fun b => decide (b + 256 ≤ c.frames)) = false ∨ bn x.first.isSome ≠ run then c
    else if 4 < (List.range 16).countP x.discards then c.setOverlap g (x.nextRun c.frames x.first)
    else
      let r := c.overlapFit g x
      match x.first with
      | none => c.setOverlap g (x.nextRun c.frames (some r))
      | some a => (c.setOverlap g (x.nextRun c.frames none)).converterPair kMon x.ch a r (fun c => c.overlapEnds g x.ch)

/-- TENDER_RUN_END (R156). -/
def execTenderRunEnd (group : Fin 152) (run : Fin 2) (s : State) : Host.Outcome State Fault Refusal :=
  s.does (fun c => c.overlapRunEnd group.val run.val)

/-! ### Survey converters (R159 to R162) -/

/-- Whether the interval of a survey converter has passed (R161, R162). -/
def Core.survAged (c : Core) (v : Nat) : Bool :=
  decide (c.rd OD.CAL_ENABLE = 1) && decide (c.power ≠ psMaint) &&
    (match Tab.find? c.cal.surveyAt v with
      | some t => decide (t + nsU (c.rd OD.SURVEY_CAL_INTERVAL) ≤ c.up)
      | none => true)

/-- The survey converter whose turn it is: the head request, else the first one due after the last that was started (R161). -/
def Core.survNext (c : Core) : Option Nat :=
  match c.requested kSurv (fun _ => true) with
  | some v => some v
  | none => ((List.range 8).map (fun k => (c.cal.surveyLast + 1 + k) % 8)).find? c.survAged

/-- SURVEY_CAL_START: the tender stands in for the converter whose turn it is; deferred past an injected conversion on it (R159,
R160). -/
def Core.survStart (c : Core) (v : Nat) : Core :=
  if c.power = psHalted ∨ c.pwr.shut ∨ c.cal.survey.isSome ∨ c.survNext ≠ some v then c
  else match Tab.find? c.survey.conv v with
    | some x =>
      if x.kind = .inject ∧ c.cal.deferred.contains v = false then
        { c.inc OD.INJECT_DEFERRALS with cal := { c.cal with deferred := c.cal.deferred ++ [v] } }
      else c
    | none =>
      let c := ((c.set OD.TENDER_FOR v).calFlags kSurv v 1 true).served kSurv v
      { c with cal := { c.cal with survey := some ⟨v, [], 0, [], [], [], none⟩, surveyAt := Tab.set c.cal.surveyAt v c.up
                                   surveyLast := v, deferred := c.cal.deferred.filter (· != v) } }

/-- SURVEY_CAL_START (R159). -/
def execSurveyCalStart (converter : Fin 8) (s : State) : Host.Outcome State Fault Refusal :=
  s.does (fun c => c.survStart converter.val)

/-- Gain and offset of a run of a survey converter: its parallel pairs, its zero-input results and those of the tender (R159). -/
def Core.survFit (c : Core) (y : SurvCal) : Option Nat × Int :=
  let both := y.xs.filterMap (fun p => (Tab.find? y.ts p.1).map (fun t => (p.2, t)))
  let off := fitOffset y.zs
  (fitGain (c.tenderGain 152) (both.map (·.1)) (both.map (·.2)) y.opens off, off)

/-- A run of the survey tender ends once it has all its conversions: the first of a pair is kept and the second run follows, the
second decides (R142, R159). -/
def Core.survRunEnd (c : Core) (v run : Nat) : Core :=
  match c.cal.survey with
  | none => c
  | some y =>
    if y.conv ≠ v ∨ y.next ≠ 3 ∨ bn y.first.isSome ≠ run then c
    else
      let r := c.survFit y
      let fresh := fun (first : Option (Option Nat × Int)) =>
        { c with cal := { c.cal with survey := some { y with begun := 0, xs := [], ts := [], zs := [], first := first } } }
      match y.first with
      | none => fresh (some r)
      | some a => (fresh none).converterPair kSurv v a r Core.dropSurvey

/-- SURVEY_CAL_END: the end of each run of a survey converter (R142, R159). -/
def execSurveyCalEnd (converter : Fin 8) (run : Fin 2) (s : State) : Host.Outcome State Fault Refusal :=
  s.does (fun c => c.survRunEnd converter.val run.val)

end Sys2Proof.Machine
end

