-- ==== Sys2Proof/Machine/Test.lean ====
section
/-! DEFINITION. Counter banks, the configuration of the performance counters, test points, path proving, and the
IEEE 1149.1 port (R10, R378 to R393). -/

namespace Sys2Proof.Machine

/-! ### Banks (R379, R384) -/

/-- The bank of the snapshot that holds an object's element, none for an object outside it (R384). -/
def bankOf (obj e : Nat) : Option Nat :=
  if obj = OD.TEST_RESULT then
    let n := e / 4
    some (if n < 128 then n else if n < 144 then 576 + (n - 128) / 4 else 580 + (n - 144))
  else if obj = OD.PORT_RX_COUNTS then some (e / 8)
  else if obj = OD.BW_RESULT then some (e / 4)
  else if obj = OD.QUEUE_COUNTS then some (128 + e / 8192)
  else if obj = OD.QUEUE_DEPTH then some (128 + e / 2048)
  else if obj = OD.SHAPER_CREDIT then some (128 + e / 128)
  else if obj = OD.GATE_STATE then some (128 + e)
  else if obj = OD.METER_COUNTS then some (256 + e / 3072)
  else if obj = OD.FLOW_CONTEXT then some (288 + e / 4096)
  else if [OD.LOOP_STATE, OD.LOOP_MEAS, OD.LOOP_SETPOINT, OD.LOOP_DRIFT, OD.LOOP_OUTPUT, OD.DRIVE_CODE].contains obj then
    some (352 + e / 256)
  else if obj = OD.COACH_STATUS then some (352 + e)
  else if obj = OD.MON_RESULT ∨ obj = OD.MON_CURRENT then some (388 + e / 64)
  else if obj = OD.SOURCE_VALUE ∨ obj = OD.SOURCE_TIME ∨ obj = OD.ZONE_TEMP then some 540
  else if [OD.INPUT_POWER, OD.OUTPUT_POWER, OD.INPUT_STATE, OD.OUTPUT_STATE].contains obj then some (541 + e / 64)
  else if obj = OD.MATRIX_COUNTS then some (549 + e / 2)
  else if obj = OD.PERF_COUNT then some (556 + e / 16)
  else if obj = OD.THROTTLE_STEPS ∨ obj = OD.POWER_STATE then some 573
  else if obj = OD.SOURCE_COUNT then some 570
  else if obj = 0x11200B then some 580
  else if obj = 0x11210B then some 581
  else match obj / 256 with
    | 0x3211 => some 560
    | 0x3311 => some 561
    | 0x3300 => some 562
    | 0x3200 => some 563
    | 0x2201 => some 564
    | 0x2409 => some 565
    | 0x2507 => some 566
    | 0x2605 => some 567
    | 0x2700 => some 568
    | 0x2801 => some 569
    | 0x1100 => some 571
    | 0x2001 => some 572
    | 0x1300 => some 574
    | 0x3000 => some 575
    | _ => none

/-- Whether a key holds a U64 counter with access RO (R378, R379). -/
def roCounter (k : Nat) : Bool :=
  match Dict.find? (okeyObj k) with
  | some r => decide (r.ty = .u 8) && decide (r.access = .ro)
  | none => false

/-- Whether a bank holds the RO counter of a key (R379, R384). -/
def inBank (v k : Nat) : Bool := decide (bankOf (okeyObj k) (okeyElem k) = some v) && roCounter k

/-- A write of WRAP_CLEAR: the WRAP bits of a bank's RO counters clear, and every COUNT stays (R379). -/
def Core.wrapClear (c : Core) (v : Nat) : Core :=
  if 581 < v then c.ends abValue
  else { c with
    regs := c.regs.foldl (fun t p => if bit p.2 63 ∧ inBank v p.1 then storePut t p.1 (setBits p.2 63 63 0) else t) c.regs
    test := { c.test with unseen := c.test.unseen.map (fun p => if inBank v p.1 then (p.1, setBits p.2 63 63 0) else p) } }

/-- WRAP_CLEAR (R379). -/
def execWrapClear (path : Path) (value : BitVec 16) (s : State) : Host.Outcome State Fault Refusal :=
  s.does (fun c => c.byActive path (fun c => c.wrapClear value.toNat))

/-! ### Performance counters (R380, R381) -/

/-- Whether an event may be counted in a mode (0 edge, 1 level) (R381). -/
def eventMode (ev mode : Nat) : Bool :=
  if [1, 2, 3, 9, 0x0A, 0x0B, 0x0E].contains ev then mode == 0
  else if [4, 0x0F].contains ev then mode == 1
  else [5, 6, 7, 8, 0x0C, 0x0D].contains ev

/-- Whether a QUALIFIER lies in its event's range (R381). -/
def eventRange (ev q : Nat) : Bool :=
  if [1, 2, 6, 0x0E].contains ev then decide (q < 128)
  else if ev = 3 ∨ ev = 4 then decide (q < 262144)
  else if ev = 5 then decide (bits q 10 3 = 0)
  else if ev = 7 ∨ ev = 8 then decide (q < 9216)
  else if ev = 9 then decide (q < 9728)
  else if ev = 0x0B then decide (q < 2)
  else if ev = 0x0C then decide (q < 7)
  else if ev = 0x0F then decide (q < 8)
  else q == 0

/-- The abort of a write to PERF_CONFIG (R380). -/
def perfCheck (v : Nat) : Nat :=
  let ev := perfEvent v
  if bits v 29 24 ≠ 0 then abValue
  else if eventMode ev (bits v 30 30) && eventRange ev (perfQual v) then 0 else abValue

/-- PERF_CONFIG_WRITE (R380). -/
def execPerfConfigWrite (path : Path) (counter : Fin 64) (value : BitVec 32) (s : State) : Host.Outcome State Fault Refusal :=
  s.does (fun c => c.byActive path (fun c => c.rwWrite OD.PERF_CONFIG counter.val value.toNat (perfCheck value.toNat)))

/-- A PERF_CONFIG word comes into force: one that changes EVENT, QUALIFIER or MODE restarts the count (R380). -/
def Core.perfApply (c : Core) (i v : Nat) : Core :=
  let was := c.rd OD.PERF_CONFIG i
  let c := c.wr OD.PERF_CONFIG i v
  let c := { c with test := { c.test with perfWas := Tab.erase c.test.perfWas i } }
  if bits was 23 0 ≠ bits v 23 0 ∨ bit was 30 ≠ bit v 30 then
    { c.wr OD.PERF_COUNT i 0 with test := { c.test with unseen := Tab.erase c.test.unseen (okey OD.PERF_COUNT i) } }
  else c

/-! ### Test points (R390 to R392) -/

/-- The abort of a use of a test point (R391). -/
def Core.pointCheck (c : Core) (n : Nat) : Nat :=
  if n < 128 then
    if c.power ≠ psRun ∧ c.power ≠ psMaint then abRole
    else if (c.portOf n).isSome then abRunning else 0
  else if n < 144 then (if c.power ≠ psMaint then abRole else 0)
  else if (Tab.find? c.sup.reg (n - 144)).isSome then abRunning else 0

/-- The abort of a write to TEST_CONFIG (R390, R391). -/
def Core.testCheck (c : Core) (n v : Nat) : Nat :=
  if bits v 21 0 ≠ 0 ∨ bits v 30 28 = 7 ∨ bits v 25 23 = 7 then abValue
  else if bit v 31 ∨ bit v 26 then c.pointCheck n else 0

/-- TEST_CONFIG_WRITE (R391). -/
def execTestConfigWrite (path : Path) (point : Fin 146) (value : BitVec 32) (s : State) : Host.Outcome State Fault Refusal :=
  s.does (fun c => c.byActive path (fun c => c.rwWrite OD.TEST_CONFIG point.val value.toNat (c.testCheck point.val value.toNat)))

/-- Bits that pass a test point from reset to a running time at its line rate (R390): 106.25 Gb/s on a lane, 16 or 8 Gb/s on a
link lane, 1.25 Gb/s on a management path. -/
def Core.bitsTo (c : Core) (n up : Nat) : Nat :=
  let rate := if n < 128 then 10625 else if n < 144 then (if (c.link ((n - 128) / 4)).half then 800 else 1600) else 125
  up * rate / (100 * unitsPerNs)

/-- LOCK and ERRORED of a checker (R392). -/
def Core.chkLocked (c : Core) (n : Nat) : Bool := bit (c.rd OD.TEST_RESULT (4 * n + 3)) 0

/-- A checker counts bit errors, which set ERRORED (R392). -/
def Core.bitErrors (c : Core) (n errors : Nat) : Core :=
  if errors = 0 then c
  else
    let c := c.inc64 OD.TEST_RESULT (4 * n + 1) errors
    c.wr OD.TEST_RESULT (4 * n + 3) (setBits (c.rd OD.TEST_RESULT (4 * n + 3)) 1 1 1)

/-- The most errors that k bits can hold while the checker stays locked: 255 in each block of 1,024 that they touch (R392). -/
def mostErrors (k : Nat) : Nat := min k (255 * (k / 1024 + 2))

/-- A locked checker has compared every bit up to now; how many of them were in error is free, short of those that unlock it (R392). -/
def Core.chkCount (c : Core) (n : Nat) : Core :=
  if c.chkLocked n then
    let t := Tab.get c.test.since n c.up
    let k := c.bitsTo n c.up - c.bitsTo n t
    let c := (c.inc64 OD.TEST_RESULT (4 * n) k).bitErrors n (if k = 0 then 0 else Config.unseen OD.TEST_RESULT (4 * n + 1) c.up % (mostErrors k + 1))
    { c with test := { c.test with since := Tab.set c.test.since n c.up } }
  else c

/-- An element of TEST_RESULT as it reads: the bits compared count up to now, the errors of a frame from its end on (R392, log 42). -/
def Core.chkShown (c : Core) (e : Nat) : Nat :=
  let n := e / 4
  if e % 4 = 0 ∧ c.chkLocked n then
    count64 (c.rd OD.TEST_RESULT e) (c.bitsTo n c.up - c.bitsTo n (Tab.get c.test.since n c.up))
  else c.rd OD.TEST_RESULT e

/-- Every locked checker has compared every bit up to now. -/
def Core.chkCountAll (c : Core) : Core := (c.test.since.map (·.1)).foldl Core.chkCount c

/-- A checker is no longer locked. -/
def Core.unlock (c : Core) (n : Nat) : Core :=
  { c.wr OD.TEST_RESULT (4 * n + 3) (setBits (c.rd OD.TEST_RESULT (4 * n + 3)) 0 0 0) with
    test := { c.test with since := Tab.erase c.test.since n } }

/-- A TEST_CONFIG word comes into force: a checker that is disabled or changed seeds anew, and a link is out of service from
its first test point to its last (R390 to R392). -/
def Core.testApply (c : Core) (n v : Nat) : Core :=
  let was := c.rd OD.TEST_CONFIG n
  let d := (n - 128) / 4
  let link := decide (128 ≤ n ∧ n < 144)
  let before := link && c.linkTested d
  let c := if bits was 26 22 ≠ bits v 26 22 then (c.chkCount n).unlock n else c
  let c := c.wr OD.TEST_CONFIG n v
  let after := link && c.linkTested d
  if after ∧ ¬ before then
    if (c.link d).up then
      let c := c.setLink d { c.link d with up := false, missNow := false, missFrames := 0, releaseDue := false, restoreAt := 0 }
      { c with chans := c.chans.filter (fun p => decide (teDie p.1 ≠ d)) }.holdLoops (fun te => decide (teDie te = d)) causeLink
    else c
  else if before ∧ ¬ after then c.linkReturn d (if (c.link d).lanes = 0 then 4 else (c.link d).lanes) (c.link d).half
  else c

/-- A write of TEST_INJECT (R390). -/
def Core.testInject (c : Core) (n : Nat) : Core :=
  if 145 < n then c.ends abValue
  else if ¬ bit (c.rd OD.TEST_CONFIG n) 31 then c.ends abRunning
  else { c with test := { c.test with inject := c.test.inject ++ [n] } }

/-- TEST_INJECT (R390). -/
def execTestInject (path : Path) (value : BitVec 16) (s : State) : Host.Outcome State Fault Refusal :=
  s.does (fun c => c.byActive path (fun c => c.testInject value.toNat))

/-- A point's counters and ERRORED become 0 (R392). -/
def Core.pointClear (c : Core) (n : Nat) : Core :=
  let c := c.chkCount n
  (((c.wr OD.TEST_RESULT (4 * n) 0).wr OD.TEST_RESULT (4 * n + 1) 0).wr OD.TEST_RESULT (4 * n + 2) 0).wr OD.TEST_RESULT (4 * n + 3)
    (setBits (c.rd OD.TEST_RESULT (4 * n + 3)) 1 1 0)

/-- A write of TEST_CLEAR (R392). -/
def Core.testClear (c : Core) (v : Nat) : Core :=
  if v = 0xFFFF then (List.range 146).foldl Core.pointClear c
  else if 145 < v then c.ends abValue
  else c.pointClear v

/-- TEST_CLEAR (R392). -/
def execTestClear (path : Path) (value : BitVec 16) (s : State) : Host.Outcome State Fault Refusal :=
  s.does (fun c => c.byActive path (fun c => c.testClear value.toNat))

/-- A checker locks after 64 consecutive bits that match (R392). -/
def Core.chkLock (c : Core) (n n64 : Nat) : Core :=
  if n64 < 64 ∨ ¬ bit (c.rd OD.TEST_CONFIG n) 26 ∨ c.chkLocked n then c
  else
    let c := c.wr OD.TEST_RESULT (4 * n + 3) (setBits (c.rd OD.TEST_RESULT (4 * n + 3)) 0 0 1)
    let prove := c.test.prove.map (fun p =>
      if p.rx = n ∧ p.start.isSome ∧ p.lockAt.isNone then { p with lockAt := some c.up } else p)
    { c with test := { c.test with since := Tab.set c.test.since n c.up, prove := prove } }

/-- CHECKER_LOCK (R392). -/
def execCheckerLock (point : Fin 146) (bits at_ : Nat) (s : State) : Host.Outcome State Fault Refusal :=
  s.does (fun c => (c.advance at_).chkLock point.val bits)

/-- A locked checker sees 256 or more errors within a block of 1,024 bits: it has compared `n` further bits, loses lock and
seeds again (R392). -/
def Core.chkLoss (c : Core) (n bits errors : Nat) : Core :=
  if ¬ c.chkLocked n ∨ errors < 256 ∨ bits < errors then c
  else
    let c := ((c.inc64 OD.TEST_RESULT (4 * n) bits).inc64 OD.TEST_RESULT (4 * n + 1) errors).inc64 OD.TEST_RESULT (4 * n + 2)
    let c := (c.wr OD.TEST_RESULT (4 * n + 3) (setBits (c.rd OD.TEST_RESULT (4 * n + 3)) 1 1 1)).unlock n
    { c with test := { c.test with prove := c.test.prove.map (fun p => if p.rx = n ∧ p.start.isSome then { p with lost := true } else p) } }

/-- CHECKER_LOCK_LOSS (R392). -/
def execCheckerLockLoss (point : Fin 146) (bits errors : Nat) (s : State) : Host.Outcome State Fault Refusal :=
  s.does (fun c => c.chkLoss point.val bits errors)

/-! ### Path proving (R393) -/

/-- Whether the active map holds the direct circuit between two lanes (R393). -/
def Core.direct (c : Core) (a b : Nat) : Bool := entryRoute (mapEntry c.act (384 + b)) == some (384 + a)

/-- The path loss of a direct circuit now, 0.01 dB. -/
def Core.pathLoss (c : Core) (a b : Nat) : Int := c.meanPower (384 + a) - c.meanPower (512 + 384 + b)

/-- What a U64 counter that has wrapped at most once has counted: more than 2^48 bits pass a lane within the longest PROVE_TIME (R378,
R393). -/
def countOf (v : Nat) : Nat := bits v 47 0 + 2 ^ 48 * bn (bit v 63)

/-- A proving run ends: generator and checker are off, and PROVE_RESULT is written (R393). -/
def Core.proveEnd (c : Core) : Core :=
  match c.test.prove with
  | none => c
  | some p =>
    let c := if p.start.isSome then c.chkCount p.rx else c
    let counted := p.start.isSome
    let off := fun (c : Core) n b => c.testApply n (setBits (c.rd OD.TEST_CONFIG n) b b 0)
    let nbits := if counted then countOf (c.rd OD.TEST_RESULT (4 * p.rx)) else 0
    let errs := if counted then countOf (c.rd OD.TEST_RESULT (4 * p.rx + 1)) else 0
    let lockNs := match p.lockAt, p.start with
      | some t, some s => min ((t - s) / unitsPerNs) 0xFFFFFFFE
      | _, _ => 0xFFFFFFFF
    let dir := c.direct p.tx p.rx
    let loss := if dir then
        ofSigned 16 (if p.lossN = 0 then c.pathLoss p.tx p.rx else idivFree p.loss p.lossN) else 0x7FFF
    let flags := bn p.interrupted + 2 * bn dir + 4 * bn p.lost
    let r := nbits * 2 ^ 128 + errs * 2 ^ 64 + lockNs * 2 ^ 32 + loss * 2 ^ 16 + flags * 2 ^ 8
    let c := if counted then off (off c p.tx 31) p.rx 26 else c
    { c.set OD.PROVE_RESULT r with test := { c.test with prove := none } }

/-- The inversions asked for are sent at a boundary. A locked checker whose lane the active map feeds from the generator's
lane counts the inverted bit as an error (R390, R392). -/
def Core.injectBoundary (c : Core) : Core :=
  let hit := c.test.inject.flatMap (fun n =>
    if n < 128 ∧ bit (c.rd OD.TEST_CONFIG n) 31 then
      (c.test.since.map (·.1)).filter (fun b => decide (b < 128) && c.direct n b && c.chkLocked b)
    else [])
  let c := hit.foldl (fun (c : Core) b => c.bitErrors b 1) c
  { c with test := { c.test with inject := [] } }

/-- A write of PROVE_CMD (R393). -/
def Core.proveCmd (c : Core) (v : Nat) : Core :=
  let op := bits v 31 30
  let a := bits v 13 7
  let b := bits v 6 0
  if bits v 26 14 ≠ 0 ∨ (op ≠ 1 ∧ op ≠ 2) ∨ bits v 29 27 = 7 then c.ends abValue
  else if op = 2 then c.proveEnd
  else if c.pointCheck a ≠ 0 then c.ends (c.pointCheck a)
  else if c.pointCheck b ≠ 0 then c.ends (c.pointCheck b)
  else if c.test.prove.isSome then c.ends abRunning
  else { c with test := { c.test with prove := some ⟨a, b, bits v 29 27, none, none, false, false, 0, 0⟩ } }

/-- PROVE_START (R393). -/
def execProveStart (path : Path) (value : BitVec 32) (s : State) : Host.Outcome State Fault Refusal :=
  s.does (fun c => c.byActive path (fun c => c.proveCmd value.toNat))

/-- PROVE_STOP (R393). -/
def execProveStop (path : Path) (value : BitVec 32) (s : State) : Host.Outcome State Fault Refusal :=
  s.does (fun c => c.byActive path (fun c => c.proveCmd value.toNat))

/-- PROVE_TIME_EXPIRE: PROVE_TIME has elapsed within this frame (R393). -/
def Core.proveExpire (c : Core) : Core :=
  match c.test.prove with
  | some p =>
    match p.start with
    | some s =>
      let t := s + nsU (c.rd OD.PROVE_TIME)
      if t < c.upFrame + frameUnits then (c.advanceTo (c.now + (t - c.up))).proveEnd else c
    | none => c
  | none => c

/-- PROVE_TIME_EXPIRE (R393). -/
def execProveTimeExpire (s : State) : Host.Outcome State Fault Refusal := s.does Core.proveExpire

/-- What a frame boundary does for a proving run: it starts with both points' results cleared, and a direct path's loss
joins the mean (R393). -/
def Core.proveBoundary (c : Core) : Core :=
  match c.test.prove with
  | none => c
  | some p =>
    match p.start with
    | none =>
      let c := c.testApply p.tx (setBits (c.rd OD.TEST_CONFIG p.tx) 31 28 (8 + p.pattern))
      let c := c.testApply p.rx (setBits (c.rd OD.TEST_CONFIG p.rx) 26 23 (8 + p.pattern))
      let c := (c.pointClear p.tx).pointClear p.rx
      { c with test := { c.test with prove := some { p with
        -- a checker that is locked on the same pattern already has locked as the run starts
        start := some c.up, lockAt := if c.chkLocked p.rx then some c.up else none } } }
    | some _ =>
      if c.direct p.tx p.rx then
        { c with test := { c.test with prove := some { p with loss := p.loss + c.pathLoss p.tx p.rx, lossN := p.lossN + 1 } } }
      else c

/-- A traverse that alters a circuit of either lane interrupts the run (R393). -/
def Core.proveInterrupt (c : Core) (lanes : List (Nat × Bool)) : Core :=
  { c with test := { c.test with prove := c.test.prove.map (fun p =>
      if p.start.isSome ∧ lanes.any (fun l => l.1 == p.tx || l.1 == p.rx) then { p with interrupted := true } else p) } }

/-! ### IEEE 1149.1 (R10) -/

/-- The next state of a TAP controller (PRESUMED, IEEE 1149.1; log 10). States are numbered as in `Tap.st`. -/
def tapNext (st : Nat) (tms : Bool) : Nat :=
  let t := fun (high low : Nat) => if tms then high else low
  match st with
  | 0 => t 0 1 | 1 => t 2 1 | 2 => t 9 3 | 3 => t 5 4 | 4 => t 5 4 | 5 => t 8 6 | 6 => t 7 6 | 7 => t 8 4 | 8 => t 2 1
  | 9 => t 0 10 | 10 => t 12 11 | 11 => t 12 11 | 12 => t 15 13 | 13 => t 14 13 | 14 => t 15 11 | _ => t 2 1

/-- The instruction codes after reset of the TAP: IDCODE in each of the five dies (R10). -/
def tapIdcode : List Nat := (List.range 5).map Config.tapIdcodeOp

/-- The bits of a number, least significant first. -/
def bitsLsb (v n : Nat) : List Bool := (List.range n).map (bit v)

/-- The data register that a die's instruction selects, as captured: its IDCODE, one BYPASS bit, or its boundary cells from
the pins (R10). DESIGN CHOICE (log 10): which pins a die's cells capture is not said; the cells of every die take the same list of
pins from its first on, and a cell beyond the list captures 0. -/
def tapCapture (die op : Nat) (pins : List Bool) : List Bool :=
  if op = Config.tapIdcodeOp die then bitsLsb (Config.tapIdcode die) 32
  else if Config.tapIsScan die op then (List.range (Config.tapCells die)).map (fun i => pins.getD i false)
  else [false]

/-- A rising edge of TCK in a state (PRESUMED, IEEE 1149.1; log 10). The die nearest TDO, the last of the chain, shifts out
first. -/
def Tap.rise (t : Tap) (tms tdi : Bool) (pins : List Bool) : Tap :=
  let ir := if t.ir.isEmpty then tapIdcode else t.ir
  let t := { t with ir := ir }
  let t := match t.st with
    | 3 => { t with sr := ((List.range 5).reverse.map (fun d => tapCapture d (ir.getD d 0) pins)).flatten }
    | 10 => { t with sr := ((List.range 5).reverse.map (fun d => bitsLsb 1 (Config.tapIrLen d))).flatten }
    | 4 => { t with sr := (t.sr ++ [tdi]).drop 1 }
    | 11 => { t with sr := (t.sr ++ [tdi]).drop 1 }
    | _ => t
  { t with st := tapNext t.st tms }

/-- The instruction codes that the chain's shift register holds, control die first. -/
def irCodes (sr : List Bool) : List Nat :=
  let r := (List.range 5).reverse.foldl (fun (a : List Nat × List Bool) d =>
    let n := Config.tapIrLen d
    (((a.2.take n).zipIdx.foldl (fun v p => v + bn p.1 * 2 ^ p.2) 0) :: a.1, a.2.drop n)) ([], sr)
  r.1

/-- A falling edge of TCK: updates act, and TDO is driven in the Shift states only (PRESUMED, IEEE 1149.1; R405).
DESIGN CHOICE (log 10): at Update-DR the shift register of the whole chain is held, whatever instruction each die has in force. -/
def Tap.fall (t : Tap) : Tap :=
  let t := match t.st with
    | 0 => { t with ir := tapIdcode }
    | 8 => { t with held := t.sr }
    | 15 => { t with ir := irCodes t.sr }
    | _ => t
  { t with tdo := if t.st = 4 ∨ t.st = 11 then some (t.sr.headD false) else none }

/-- TCK_EDGE: the TAP of the chain advances; it reaches no object, MRAM, drive channel or loop (R10). TRST_N low holds it in
reset. -/
def execTckEdge (rising tms tdi trstN : Bool) (pins : List Bool) (s : State) : Host.Outcome State Fault Refusal :=
  .next (s.pin (fun c => { c with jtag :=
    if trstN = false then ⟨0, tapIdcode, [], none, c.jtag.held⟩
    else if rising then c.jtag.rise tms tdi pins else c.jtag.fall }))

end Sys2Proof.Machine
end

