-- ==== Sys2Proof/Machine/Sup.lean ====
section
/-! DEFINITION. Management links, registrations, heartbeats, digests, the gap, Unsupervised, takeovers and synchronization
(R309 to R322). -/

namespace Sys2Proof.Machine

/-! ### Management links (R309) -/

/-- A subindex of MGT_A_CONFIG or MGT_B_CONFIG by path (R324). -/
abbrev mgtObj (p sub : Nat) : Nat := 0x112000 + 0x100 * p + sub

/-- The line rate that the module sets in the present power state (R309). -/
def Core.tableRate (c : Core) : Nat :=
  if c.power = psRun ∨ c.power = psMaint then 1000 else if c.power = psQuiet then 100 else 10

/-- Rates at which a link can come up: the one the module sets, or any that a PHY under the board's control reports (R309). -/
def Core.rateTaken (c : Core) (p rate : Nat) : Bool :=
  decide (rate = 0) ||
    (if c.rd (mgtObj p 9) = 0 then decide (rate = c.tableRate) else [10, 100, 1000].contains rate)

/-- A management link goes up or down, or changes rate (R309, R324). -/
def Core.linkRate (c : Core) (p rate : Nat) : Core :=
  let was := c.rd (mgtObj p 0x0A)
  if c.rateTaken p rate = false ∨ rate = was then c
  else
    let c := c.set (mgtObj p 0x0A) rate
    let c := if rate = 0 ∨ was = 0 then c.inc (mgtObj p 0x0B) else c
    c.follow (458 + p) (rate == 0)

/-- MGT_LINK_CHANGE (R309). -/
def execMgtLinkChange (path : Path) (rate : BitVec 16) (s : State) : Host.Outcome State Fault Refusal :=
  s.does (fun c => c.linkRate path.val rate.toNat)

/-! ### Roles (R312 to R318) -/

/-- States of SUP_STATE (R324). -/
abbrev ssSupervised : Nat := 0
abbrev ssGap : Nat := 1
abbrev ssUnsup : Nat := 2

/-- The registration of a path. -/
def Core.reg? (c : Core) (p : Nat) : Option Registration := Tab.find? c.sup.reg p

/-- The active path, FFh for none (R324). -/
def Core.activePath (c : Core) : Nat := if c.isActive 0 then 0 else if c.isActive 1 then 1 else 0xFF

/-- The event of a change of role (R300, R319). -/
def Core.emitRole (c : Core) (p role : Nat) : Core := c.emit 10 OD.ACTIVE_PATH (be 1 role ++ be 1 p)

/-- Sets the role of a path's registration; a change sends its event (R319). -/
def Core.setRole (c : Core) (p role : Nat) : Core :=
  match c.reg? p with
  | some r =>
    let c' := { c with sup := { c.sup with reg := Tab.set c.sup.reg p { r with role := role } } }
    if r.role = role then c' else c'.emitRole p role
  | none => c

/-- Whether a path is synchronized: it completed an EXPORT whose copy was taken after the last executed traverse (R321). -/
def Core.synchronized (c : Core) (p : Nat) : Bool := Tab.find? c.sup.exported p == some (c.rd OD.TRAVERSES)

/-- A registration becomes active: the other one becomes standby, where it may have a role; a gap or Unsupervised ends; the first
active after a reset is never synchronized (R317 to R321). -/
def Core.makeActive (c : Core) (p : Nat) : Core :=
  let other := 1 - p
  let planned := c.isActive other
  let c := c.setRole other (if (c.reg? other).any (·.barred) then 0 else 1)
  let c := (c.setRole p 2).inc OD.SWITCHOVERS
  let c := if planned then c else c.set OD.LAST_GAP ((c.up - c.sup.gapSince.getD 0) / unitsPerNs)
  let c := (c.abandonTrims.set OD.SUP_STATE ssSupervised).set OD.UNSYNCHRONIZED (bn (!(c.sup.led && c.synchronized p)))
  { c with sup := { c.sup with led := true, gapSince := none, gapBeat := false, waiting := [] } }

/-- Whether a registration has failed: more than 3 × PERIOD without a heartbeat, extended by grace (R310, R314). -/
def Core.regFailed (c : Core) (p : Nat) (r : Registration) : Bool :=
  decide (r.lastBeat + nsU (3 * r.periodMs * 1000000) + c.graceFor p r.lastBeat < c.up)

/-- In Unsupervised no registration has a role until R318 decides; one that fails at this boundary is lost as it is (R313, R318). -/
def Core.noRole (c : Core) (p : Nat) : Core :=
  if (c.reg? p).any (fun r => r.role == 1 && !c.regFailed p r) then c.setRole p 0 else c

/-- What begins with a gap or Unsupervised: loops in Trim are held and a running timetable freezes (R320). -/
def Core.noSupervisor (c : Core) (state : Nat) : Core :=
  let c := c.set OD.SUP_STATE state
  let c := { c with sup := { c.sup with gapSince := some (c.sup.gapSince.getD c.up), gapBeat := false } }
  let c := (c.holdTrims).ttFreeze
  if state = ssUnsup then ((c.noRole 0).noRole 1).pulse 456 else c

/-- Removes the registration of a path; the role it had is gone, with an event (R314, R319). -/
def Core.removeReg (c : Core) (p : Nat) : Core :=
  match c.reg? p with
  | some r =>
    let c := { c with sup := { c.sup with reg := Tab.erase c.sup.reg p, digests := Tab.erase c.sup.digests p, misses := Tab.erase c.sup.misses p,
                                          waiting := c.sup.waiting.filter (· != p)
                                          claims := c.sup.claims.map (fun x => if x.1 = p then (p, x.2.1, false) else x) } }
    if r.role = 0 then c else c.emitRole p 0
  | none => c

/-- The active registration of a path is declared failed: a gap with a live standby, else Unsupervised (R314 to R317). -/
def Core.failActive (c : Core) (p cause source : Nat) : Core :=
  let c := ((c.removeReg p).set OD.LAST_CAUSE cause).pulse source
  let other := 1 - p
  if (c.reg? other).any (fun r => r.role == 1 && !c.regFailed other r) then
    let c := c.noSupervisor ssGap
    { c with sup := { c.sup with gapPath := other } }
  else c.noSupervisor ssUnsup

/-- A registration fails at a frame boundary (R314, R317). -/
def Core.heartbeatTimeout (c : Core) (p : Nat) : Core :=
  match c.reg? p with
  | none => c
  | some r =>
    if ¬ isBoundary c.now ∨ c.regFailed p r = false then c
    else if r.role = 2 then c.failActive p 1 453
    else if r.role = 1 then
      let ends := decide (c.rd OD.SUP_STATE = ssGap) && decide (c.sup.gapPath = p)
      let c := (c.removeReg p).pulse 455
      if ends then c.noSupervisor ssUnsup else c
    else c.removeReg p

/-- An export of a sender whose registration fails no longer counts; that of another sender on its path does (R321). -/
def State.exportsAfter (s t : State) : State :=
  { t with motin := { t.motin with exports := t.motin.exports.map (fun p =>
      if (s.toCore.reg? p.1).any (fun r => r.ip == p.2.ip && r.keySlot == p.2.keySlot) && (t.toCore.reg? p.1).isNone then (p.1, { p.2 with counts := false }) else p) } }

/-- HEARTBEAT_TIMEOUT (R314). -/
def execHeartbeatTimeout (path : Path) (s : State) : Host.Outcome State Fault Refusal :=
  .next (s.exportsAfter (s.lift (fun c => c.heartbeatTimeout path.val)))

/-- Whether two senders are one supervisor: address, key slot and SUPERVISOR_ID (R312, R313). -/
def sameSender (r : Registration) (ip key id : Nat) : Bool := r.ip == ip && r.keySlot == key && r.supId == id

/-- An authenticated HEARTBEAT with a valid PERIOD registers or refreshes its sender (R312, R313, R317, R318). The flag is
whether the sender holds the path's registration. -/
def Core.heartbeat (c : Core) (p ip key id periodMs : Nat) : Core × Bool :=
  let seen := fun (c : Core) (barred : Bool) =>
    let c := if c.rd OD.SUP_STATE = ssGap ∧ c.sup.gapPath = p then { c with sup := { c.sup with gapBeat := true } } else c
    if c.rd OD.SUP_STATE = ssUnsup ∧ ¬ barred ∧ ¬ c.sup.waiting.contains p then
      { c with sup := { c.sup with waiting := c.sup.waiting ++ [p] } } else c
  match c.reg? p with
  | some r =>
    if sameSender r ip key id then
      let r := { r with periodMs := periodMs, lastBeat := c.up }
      (seen { c with sup := { c.sup with reg := Tab.set c.sup.reg p r } } r.barred, true)
    else (c.inc (mgtObj p 0x0C), false)
  | none =>
    let barred := c.sup.dropped.any (fun d => d.1 == p && sameSender d.2 ip key id)
    let role := if barred ∨ c.rd OD.SUP_STATE = ssUnsup then 0 else 1
    -- in a gap the standby that was waiting when it began ends it, not a registration made since
    let c := if c.rd OD.SUP_STATE = ssGap then c else seen c barred
    let c := { c with sup := { c.sup with reg := Tab.set c.sup.reg p ⟨ip, key, id, periodMs, c.up, role, barred, c.frames + 1⟩ } }
    (if role = 0 then c else c.emitRole p role, true)

/-- ROLE_CHANGE: at a boundary the standby that ends the gap, or the first path in Unsupervised, becomes active; later
ones become standby (R317, R318). -/
def Core.roleChange (c : Core) : Core :=
  if ¬ isBoundary c.now then c
  else if c.rd OD.SUP_STATE = ssGap ∧ c.sup.gapBeat ∧ (c.reg? c.sup.gapPath).isSome then c.makeActive c.sup.gapPath
  else if c.rd OD.SUP_STATE = ssUnsup then
    match c.sup.waiting.filter (fun p => (c.reg? p).isSome) with
    | [] => c
    | p :: r =>
      let win := if r.isEmpty then p else c.rd OD.PATH_PRIORITY
      c.makeActive win
  else c

/-! ### Takeover (R319) -/

/-- Whether the roles at the start of the frame let a claim win: those of a registration made in the frame do not, one with role none
after a digest failure never wins, and in a gap only the standby that waited does (R313, R317, R319; Unsupervised: log 59). -/
def Core.claimValid (c : Core) (p : Nat) (r : Registration) : Bool :=
  !r.barred && decide (r.fresh ≠ c.frames + 1) && (decide (c.rd OD.SUP_STATE ≠ ssGap) || decide (c.sup.gapPath = p))

/-- A TAKEOVER from a live registration claims the active role; true where the claim stands until the end of the frame.
Any other claim is lost at once. -/
def Core.takeover (c : Core) (p ip key id : Nat) : Core × Bool :=
  match c.reg? p with
  | some r =>
    if sameSender r ip key id then
      if c.sup.claims.any (fun x => x.1 == p && x.2.1 == c.frames) then (c, true)
      else ({ c with sup := { c.sup with claims := c.sup.claims ++ [(p, c.frames, c.claimValid p r)] } }, true)
    else (c.inc OD.TAKEOVER_LOST, false)
  | none => (c.inc OD.TAKEOVER_LOST, false)

/-- The claims of one frame are decided: of two that can win, PATH_PRIORITY's wins; one that can win wins alone; a claim that loses
is counted. -/
def Core.decideFrame (c : Core) (claims : List (Nat × Bool)) : Core :=
  let win := match (claims.filter (·.2)).map (·.1) with
    | [] => none
    | [p] => some p
    | _ => some (c.rd OD.PATH_PRIORITY)
  let c := c.inc OD.TAKEOVER_LOST 0 (claims.countP (fun x => win != some x.1))
  match win with
  | some p => if c.isActive p then c else (c.makeActive p).set OD.LAST_CAUSE 3
  | none => c

/-! ### Digests (R315, R316) -/

/-- A STATE_DIGEST of a path's registration with its MATCH is recorded; a mismatch that nothing confirms is counted
(R315, R316). -/
def Core.recordDigest (c : Core) (p basis matched : Nat) : Core :=
  let x : DigestRec := ⟨basis, matched, c.up⟩
  let c := { c with sup := { c.sup with
    digests := Tab.set c.sup.digests p x
    misses := if c.isActive p ∧ matched = 1 then Tab.set c.sup.misses p x else c.sup.misses } }
  if matched ≠ 1 then c
  else if c.isActive p then
    let agrees := match Tab.find? c.sup.digests (1 - p), c.reg? (1 - p) with
      | some d, some r => decide (r.role = 1 ∧ d.matched = 0 ∧ d.basis = basis ∧ c.up ≤ d.at_ + nsU (c.rd OD.DIGEST_WINDOW))
      | _, _ => false
    if agrees then c else (c.inc OD.DIGEST_MISMATCHES).pulse 457
  else if (c.reg? p).any (fun r => r.role == 1) then c.inc OD.DIGEST_MISMATCHES
  else c

/-- DIGEST_FAILURE_DECLARE: at a boundary, a digest of the active has differed and the standby's last agrees on the same basis within
DIGEST_WINDOW: the active is removed and a gap begins (R316). -/
def Core.digestFailure (c : Core) : Core :=
  let a := c.activePath
  if ¬ isBoundary c.now ∨ a = 0xFF then c
  else
    match Tab.find? c.sup.misses a, Tab.find? c.sup.digests (1 - a), c.reg? a, c.reg? (1 - a) with
    | some x, some y, some r, some o =>
      let w := nsU (c.rd OD.DIGEST_WINDOW)
      if y.matched = 0 ∧ x.basis = y.basis ∧ o.role = 1 ∧ x.at_ ≤ y.at_ + w ∧ y.at_ ≤ x.at_ + w then
        ({ c with sup := { c.sup with dropped := c.sup.dropped ++ [(a, r)] } } : Core).failActive a 2 454
      else c
    | _, _, _, _ => c

/-- What fails at this boundary fails before the claims of the frame that ends are decided (R314, R316, R319). -/
def Core.failures (c : Core) : Core := ((c.heartbeatTimeout 0).heartbeatTimeout 1).digestFailure

/-- The claims of every frame that has ended are decided, frame by frame. -/
def Core.takeoverDecision (c : Core) : Core :=
  let c := c.failures
  let due := c.sup.claims.filter (fun x => decide (x.2.1 < c.frames))
  let fs := (due.map (·.2.1)).eraseDups
  let c := { c with sup := { c.sup with claims := c.sup.claims.filter (fun x => decide (c.frames ≤ x.2.1)) } }
  fs.foldl (fun (c : Core) f => c.decideFrame ((due.filter (fun x => x.2.1 == f)).map (fun x => (x.1, x.2.2)))) c

/-- DIGEST_FAILURE_DECLARE (R316). -/
def execDigestFailureDeclare (s : State) : Host.Outcome State Fault Refusal :=
  .next (s.exportsAfter (s.lift Core.digestFailure))

/-! ### Exports (R313, R321) -/

/-- A sender on a path completes an EXPORT whose copy was taken at `basis` traverses: the path is synchronized, and the sender is no
longer one that was dropped; where it holds the path's registration (`own`), UNSYNCHRONIZED clears if that is the active one, and a
dropped supervisor takes the role its situation gives (R313, R321). -/
def Core.exportDone (c : Core) (p basis ip key : Nat) (own : Bool) : Core :=
  let c := { c with sup := { c.sup with
    exported := Tab.set c.sup.exported p basis
    dropped := c.sup.dropped.filter (fun d => !(d.1 == p && d.2.ip == ip && d.2.keySlot == key)) } }
  if own = false then c
  else
  let c := if c.isActive p then c.set OD.UNSYNCHRONIZED 0 else c
  match c.reg? p with
  | some r =>
    if r.barred then
      let c := { c with sup := { c.sup with reg := Tab.set c.sup.reg p { r with barred := false, fresh := c.frames + 1 } } }
      if c.rd OD.SUP_STATE = ssUnsup then c else c.setRole p 1
    else c
  | none => c

/-- The flag for suspended work of the HEARTBEAT reply: a suspended commit, a frozen timetable, a suspended activation
(R314, R320). -/
def Core.suspendedWork (c : Core) : Bool :=
  c.trav.cur.any (·.suspended) || decide (c.rd OD.TT_STATE = 3) || c.ucode.suspended

end Sys2Proof.Machine
end

