-- ==== Sys2Proof/Machine/Boot.lean ====
section
/-! DEFINITION. Resets, the boot steps and the boot record: the causes, what each reset keeps, the ring of records in MRAM,
failures, alternates, Maintenance and warm restart (R364 to R377, R402, R407, R408). -/

namespace Sys2Proof.Machine

/-! ### The boot record (R371, R372) -/

/-- The bytes of this boot's record, most significant byte first (R371). -/
def Core.bootBytes (c : Core) : List Byte :=
  let b := c.boot
  let outcome := (rangeFrom 1 14).foldl (fun v k => v * 16 + Tab.get b.outcome k 0) 0
  let body := be 4 (c.rd OD.BOOT_COUNT) ++ be 1 (c.rd OD.RESET_CAUSE) ++ be 1 (c.rd OD.BOOT_MODE) ++ be 2 b.writeN ++
    be 7 outcome ++ be 1 b.endState ++ be 14 b.ready ++ be 1 b.failStep ++ be 1 b.halfLinks ++ be 4 b.failDetail ++
    be 4 b.bootMs ++ be 4 b.failCount ++ be 2 b.altMask ++ be 14 0
  body ++ be 4 (crc32 body)

/-- A record of 64 bytes whose CRC is correct (R372). -/
def recordValid (v : Nat) : Bool := decide (crc32 (beBytes 60 (v / 2 ^ 32)) = v % 2 ^ 32)

/-- SEQ and WRITE_N of a record. -/
def recordSeq (v : Nat) : Nat := v / 2 ^ 480
def recordWriteN (v : Nat) : Nat := v / 2 ^ 448 % 2 ^ 16

/-- FAIL_COUNT, ALT_MASK and HALF_RATE_LINKS of a record. -/
def recordFail (v : Nat) : Nat := v / 2 ^ 160 % 2 ^ 32
def recordAlt (v : Nat) : Nat := v / 2 ^ 144 % 2 ^ 16
def recordHalf (v : Nat) : Nat := v / 2 ^ 256 % 2 ^ 8

/-- A slot of an entry, if it holds a valid record. -/
def Boot.slot (b : Boot) (e slot : Nat) : Option Nat :=
  match Tab.find? b.ring (2 * e + slot) with
  | some v => if recordValid v then some v else none
  | none => none

/-- Whether a record is the newer of two of one entry: that with the higher WRITE_N (R372). -/
def newer (a b : Nat) : Bool := decide (recordWriteN b < recordWriteN a)

/-- The slot that holds the newer valid copy of an entry. -/
def Boot.newSlot (b : Boot) (e : Nat) : Option Nat :=
  match b.slot e 0, b.slot e 1 with
  | some x, some y => if newer y x then some 1 else some 0
  | some _, none => some 0
  | none, some _ => some 1
  | none, none => none

/-- The record of an entry (R372). -/
def Boot.record (b : Boot) (e : Nat) : Option Nat := (b.newSlot e).bind (b.slot e)

/-- The ring head: the valid entry with the highest SEQ (R372). -/
def Boot.head (b : Boot) : Option Nat :=
  (List.range 16).foldl (fun m e =>
    match b.record e, m with
    | some v, some h => if recordSeq ((b.record h).getD 0) < recordSeq v then some e else m
    | some _, none => some e
    | none, _ => m) none

/-- SEQ of the boot that follows the records of the ring. -/
def Boot.nextSeq (b : Boot) : Nat := match b.head with
  | some h => recordSeq ((b.record h).getD 0) + 1
  | none => 1

/-- Writes this boot's record to the slot that does not hold the newer valid copy, and reads it back. Whether the write holds is a free
value of the boot and the write; where it does not, the slot holds no valid record and source 462 fires (R372, log 64). -/
def Core.writeRecord (c : Core) : Core :=
  let c := { c with boot := { c.boot with writeN := c.boot.writeN + 1 } }
  let e := c.rd OD.RECORD_HEAD
  let k := 2 * e + (if c.boot.newSlot e = some 0 then 1 else 0)
  let c := { c with boot := { c.boot with wrote := some (k, c.up) } }
  if Config.recordHolds (c.rd OD.BOOT_COUNT) c.boot.writeN then
    { c with boot := { c.boot with ring := Tab.set c.boot.ring k (beNat c.bootBytes) } }
  else ({ c with boot := { c.boot with ring := Tab.erase c.boot.ring k } } : Core).pulse 462

/-- BOOT_RECORD: the record of a ring entry, zeros when it is lost (R376). -/
def Core.bootRecord (c : Core) (e : Nat) : Nat := (c.boot.record e).getD 0

/-! ### What a reset leaves (R364) -/

/-- Objects whose value MRAM keeps through every reset: management addresses, the owner key's flag, clear codes,
calibrations but for their flags, whose reset value is 0 (R163), the record of shut-downs, POWER_AT_READY, the boot objects that one boot leaves to the next, and
MATRIX_SLICES. TIME_SOURCE among them is DEDUCED: S10 starts "the sources of TIME_SOURCE", and no rule says that it is stored
(log 55). -/
def mramObj (obj : Nat) : Bool :=
  decide (0x112002 ≤ obj ∧ obj ≤ 0x112007) || decide (0x112102 ≤ obj ∧ obj ≤ 0x112107) ||
  (decide (0x281001 ≤ obj ∧ obj ≤ 0x282401) && decide (obj ≠ OD.MON_CAL_FLAGS ∧ obj ≠ OD.SURV_CAL_FLAGS)) ||
  [OD.TIME_SOURCE, OD.OWNER_KEY_SET, OD.CLEAR_CODE, OD.SHUTDOWNS, OD.LAST_SHUTDOWN, OD.SHUTDOWN_FORM, OD.POWER_AT_READY,
    OD.LOADS, OD.BOOT_TIME_WAIT, OD.LANE_BOOT_FAILED, OD.DARK_FAIL, OD.MATRIX_SLICES].contains obj

/-- Fault status, log and first-fault record (R364). -/
def faultObj (obj : Nat) : Bool :=
  [OD.FIRST_SOURCE, OD.FIRST_SEVERITY, OD.FIRST_TIME, OD.FIRST_FRAME, OD.OVERFLOW, OD.LOG_NEXT, OD.FAULT_LOG].contains obj

/-- Objects of the drive-and-sense dies, which a warm restart does not reset, and the register slices in force, which it does not load;
it discards the packet queues into FLUSH_DROPS first (R374, R387). -/
def warmObj (obj : Nat) : Bool :=
  decide (OD.DRIVE_CODE ≤ obj ∧ obj ≤ OD.MOVE_DONE) || [OD.CEILING, OD.FLUSH_DROPS, OD.SLICES_IN_FORCE].contains obj

/-- The slot an element of the slot tables belongs to. -/
def slotOfKey (obj e : Nat) : Option Nat :=
  if obj = OD.SLOT_STATUS then some e else if obj = OD.SLOT_MAP then some (e / 512)
  else if obj = OD.SLOT_SETTINGS then some (e / 136) else none

/-- Whether a reset of a cause keeps an element. A slot that has a map is kept, verified or not (R182). -/
def Core.keeps (c : Core) (cause k : Nat) : Bool :=
  let obj := okeyObj k
  mramObj obj || (decide (3 ≤ cause) && faultObj obj) || (decide (cause = 4) && warmObj obj) ||
  (match slotOfKey obj (okeyElem k) with
    | some n => c.slotHasMap n
    | none => false)

/-- What is in progress does not last over a reset: IN_USE of a kept slot, for no timetable is restored (R181). -/
def dropInUse (p : Nat × Nat) : Nat × Nat := if okeyObj p.1 = OD.SLOT_STATUS then (p.1, setBits p.2 28 28 0) else p

/-- The module as a reset leaves it: everything is at its reset value but what MRAM, the always-on domain and, in a warm
restart, the drive-and-sense dies keep. -/
def Core.resetFor (c : Core) (cause : Nat) : Core :=
  let warm := decide (cause = 4)
  let low := !c.trav.clearDies.isEmpty
  let b := c.boot
  let alt := b.altMask - Nat.land b.altMask b.altClear
  let n : Core := { Core.reset with
    regs := (c.regs.filter (fun p => c.keeps cause p.1)).foldl (fun t p => storePut t (dropInUse p).1 (dropInUse p).2) []
    saved := c.saved
    up := c.up
    frames := c.frames
    ucode := { Core.reset.ucode with boot := c.ucode.boot, ownerKey := c.ucode.ownerKey }
    elsDark := c.elsDark
    sup := { Core.reset.sup with gapSince := some c.up }
    trav := { Core.reset.trav with clearDies := c.trav.clearDies, restore := !warm }
    faults := { Core.reset.faults with
      lines := if low ∧ 3 ≤ cause then [93] else []
      raised := if 3 ≤ cause then c.faults.raised else []
      recs := if 3 ≤ cause then c.faults.recs else []
      firstEntry := if 3 ≤ cause then c.faults.firstEntry else 0
      haltRecord := c.faults.haltRecord }
    jtag := c.jtag
    free := c.free
    result := c.result
    boot := { Core.reset.boot with
      booting := false, powered := b.powered, good := b.good, resetLow := b.resetLow, cause := cause, ring := b.ring,
      failCount := b.failCount, altMask := alt, halfLinks := if bit alt 3 then b.halfLinks else 0, held := b.held,
      pins := b.pins, warm := if warm then some c.power else none, lowTill := b.lowTill } }
  let n := if warm then n else n.set OD.RESTORE_PENDING 1
  let n := if low then (n.set OD.CLEAR_N_LEVEL 0).set OD.CLEAR_STATE 1 else n
  if low ∧ cause ≤ 2 then n.hold 93 else n

/-- The boot begins: step S01 runs; the BOOT_MODE pins have been sampled (R365, R375). -/
def Core.beginBoot (c : Core) : Core :=
  let c := ((c.set OD.RESET_CAUSE c.boot.cause).set OD.BOOT_MODE c.boot.pins).set OD.ALT_IN_FORCE c.boot.altMask
  let c := if c.boot.cause = 4 then c else c.set OD.SLICES_IN_FORCE (c.rd OD.MATRIX_SLICES)
  { c with boot := { c.boot with booting := true, startUp := c.up, stepUp := c.up, outcome := [(1, 1)] } }

/-- The numbers H - 63 to H of a replay window (R280). -/
def windowOf (h : Nat) : List Nat := (List.range 64).map (fun i => h - i)

/-- What every reset does to the rest: requests, replies and subscriptions are gone, snapshots too; keys and sequence
numbers stay, and no number is reopened (R280, R281, R291, R299). -/
def Motin.afterReset (m : Motin) : Motin :=
  { State.reset.motin with
    keys := m.keys, seqIn := m.seqIn, seqOut := m.seqOut, outbox := m.outbox
    seen := m.seqIn.map (fun p => (p.1, windowOf p.2)) }

/-- A reset of a cause; the boot begins where the dies are not held in reset. -/
def State.restart (s : State) (cause : Nat) : State :=
  let c := s.toCore.resetFor cause
  { s with toCore := if c.dead then c else c.beginBoot, copy := none, copying := none, snaps := [], snapIds := 0,
           motin := s.motin.afterReset }

/-! ### Pins and rails (R364, R400 to R408) -/

/-- POWER_ON: VDD_AUX and then PWR_GOOD_IN rise (R364). -/
def execPowerOn (bootMode : BitVec 2) (s : State) : Host.Outcome State Fault Refusal :=
  .next (State.settle
    ({ s with toCore := { s.toCore with boot := { s.toCore.boot with powered := true, good := true, lowTill := 0, pins := bootMode.toNat } } }.restart
      1))

/-- Whether a RESET_N pulse resets: not below 1 us, always from 10 us on, between the two a free value (R407, log 4). -/
def resetTakes (widthNs draw : Nat) : Bool := decide (10000 ≤ widthNs) || (decide (1000 ≤ widthNs) && bit draw 0)

/-- RESET_N low (R364): Halted ignores it; while the dies are held in reset it only adds to what holds them. While PWR_GOOD_IN, which
fell in service, is still low, the cause stays 6 (R408). -/
def State.resetN (s : State) (widthNs : Nat) : State :=
  let takes := resetTakes widthNs s.toCore.draw
  let s := if 1000 ≤ widthNs ∧ widthNs < 10000 then { s with toCore := s.toCore.drawn } else s
  if takes = false ∨ s.toCore.power = psHalted then s
  else
    let was := s.toCore.dead
    let s := { s with toCore := { s.toCore with boot := { s.toCore.boot with resetLow := true } } }
    if was then s else s.restart (if s.toCore.boot.cause = 6 ∧ s.toCore.up < s.toCore.boot.lowTill then 6 else 2)

/-- RESET_N (R364). -/
def execResetN (widthNs : Nat) (s : State) : Host.Outcome State Fault Refusal := .next (State.settle (s.resetN widthNs))

/-- RESET_N_RELEASE: RESET_N returns high; with PWR_GOOD_IN high as well the boot begins, and the BOOT_MODE pins are
sampled (R365, R408). -/
def State.resetRelease (s : State) (pins : Nat) : State :=
  if s.toCore.boot.resetLow then
    let c := { s.toCore with boot := { s.toCore.boot with resetLow := false, pins := pins } }
    { s with toCore := if c.dead then c else c.beginBoot }
  else s

/-- RESET_N_RELEASE (R408). -/
def execResetNRelease (bootMode : BitVec 2) (s : State) : Host.Outcome State Fault Refusal :=
  .next (State.settle (s.resetRelease bootMode.toNat))

/-- PWR_GOOD_IN low for a time, until which S01 waits (R364, R366, R407). The MRAM write in progress completes first. -/
def State.powerFail (s : State) (widthNs : Nat) : State :=
  if widthNs < 1000 ∨ s.toCore.dead ∨ s.toCore.power = psHalted then s
  else { s with toCore := { s.toCore with boot := { s.toCore.boot with lowTill := s.toCore.up + nsU widthNs } } }.restart 6

/-- POWER_FAIL (R364). -/
def execPowerFail (widthNs : Nat) (s : State) : Host.Outcome State Fault Refusal := .next (State.settle (s.powerFail widthNs))

/-- A write of the boot record in progress, within 45 us of its start, can be torn with VDD_AUX: a free value says whether, and its slot
then holds no valid record (R372, R402, log 64). -/
def Core.tearRecord (c : Core) : Core :=
  match c.boot.wrote with
  | some (k, t) =>
    if c.up < t + nsU 45000 then
      { c.drawn with boot := { c.boot with ring := if bit c.draw 0 then Tab.erase c.boot.ring k else c.boot.ring } }
    else c
  | none => c

/-- The registers of the always-on domain are lost with VDD_AUX: failures held there, and what the ring does not hold. -/
def Boot.fromRing (b : Boot) : Boot :=
  let v := (b.head.bind b.record).getD 0
  { b with held := none, failCount := recordFail v, altMask := recordAlt v, halfLinks := recordHalf v }

/-- VDD_AUX_LOSS: every die is held in reset (R402). -/
def execVddAuxLoss (s : State) : Host.Outcome State Fault Refusal :=
  .next (State.settle
    (let c := s.toCore.tearRecord
     { s with toCore := { c with boot := { c.boot.fromRing with powered := false, good := false } } }.restart 1))

/-! ### Restart commands (R364, R370, R373) -/

/-- A RESTART_CMD is also taken while the boot runs (R375). -/
def Core.byActiveBoot (c : Core) (p : Path) (f : Core → Core) : Core :=
  if c.power = psHalted ∨ c.isActive p.val = false then c.ends abRole else f (c.ends 0)

/-- The boundary at which a restart command takes effect (R364). -/
def Core.restartAt (c : Core) (cause : Nat) : Core :=
  if c.boot.restart.isSome then c
  else { c with boot := { c.boot with restart := some (cause, boundaryFrom (c.now + 2 * frameUnits)) } }

/-- Work that refuses a warm restart (R373). -/
def Core.warmBusy (c : Core) : Bool :=
  c.trav.cur.isSome || c.trav.copyBack || decide (c.rd OD.TT_STATE ≠ 0) || decide (c.loadState = 3) || c.fringeRunning

/-- RESTART_CMD 1 (R373). Its conditions of state, the pins and the alternates share one abort. -/
def Core.restartWarm (c : Core) : Core :=
  let alts := c.boot.altMask - bn (bit c.boot.altMask 3) * 8 - bn (bit c.boot.altMask 11) * 2048
  if (c.power ≠ psRun ∧ c.power ≠ psQuiet) ∨ c.boot.pins ≠ 0 ∨ alts ≠ 0 then c.ends abRole
  else if c.warmBusy then c.ends abRunning
  else c.restartAt 4

/-- RESTART_WARM (R373). -/
def execRestartWarm (path : Path) (s : State) : Host.Outcome State Fault Refusal :=
  s.does (fun c => c.byActiveBoot path Core.restartWarm)

/-- RESTART_CMD 2: in Maintenance every FAIL_COUNT returns to 0 (R370). -/
def Core.restartCold (c : Core) : Core :=
  let c := if c.power = psMaint ∧ c.rd OD.BOOT_STATE ≠ 0 then { c with boot := { c.boot with failCount := 0 } } else c
  c.restartAt 3

/-- RESTART_COLD (R370). -/
def execRestartCold (path : Path) (s : State) : Host.Outcome State Fault Refusal :=
  s.does (fun c => c.byActiveBoot path Core.restartCold)

/-- A write of RESTART_CMD (R376). -/
def Core.restartCmd (c : Core) (v : Nat) : Core :=
  if v = 1 then c.restartWarm else if v = 2 then c.restartCold else c.ends abValue

/-- A restart command whose boundary is reached takes effect; a warm restart discards the queues first (R364, R374). -/
def State.restartDue (s : State) : State :=
  match s.toCore.boot.restart with
  | some (cause, t) =>
    if s.toCore.now < t then s
    else if cause = 4 then { s with toCore := s.toCore.stopEngine }.restart 4
    else s.restart cause
  | none => s

/-! ### Boot steps (R366 to R369) -/

/-- Whether a step's alternate is in force in this boot (R368). -/
def Core.altNow (c : Core) (k : Nat) : Bool := bit (c.rd OD.ALT_IN_FORCE) (k - 1)

/-- Safe mode and Recovery mode of this boot (R365). -/
def Core.safeBoot (c : Core) : Bool := decide (c.rd OD.BOOT_MODE = 1)
def Core.recoveryBoot (c : Core) : Bool := decide (2 ≤ c.rd OD.BOOT_MODE)

/-- The number of S01 to S14 that OUTCOME, FAIL_COUNT and ALT_MASK hold for a step (R371). -/
def Core.setOutcome (c : Core) (k v : Nat) : Core :=
  { c with boot := { c.boot with outcome := Tab.put c.boot.outcome k v 0 } }
def failOf (v k : Nat) : Nat := bits v (2 * k - 1) (2 * k - 2)

/-- OUTCOME of a step that does not run: 5 skipped by rule, 6 skipped by BOOT_MODE; none for a step that runs (R365, R366,
R374). -/
def Core.skips (c : Core) (k : Nat) : Option Nat :=
  if k = 6 ∧ c.boot.warm.isSome then some 5
  else if k = 11 ∧ c.boot.warm.isNone ∧ c.rd OD.POWER_AT_READY ≠ 0 ∧ ¬ c.boot.fringe then some 5
  else if k = 12 ∧ ¬ c.boot.fringe ∧ c.boot.warm.getD (c.rd OD.POWER_AT_READY) ≠ psRun then some 5
  else if k = 13 ∧ c.safeBoot then some 6
  else none

/-- The next step runs; those that are skipped are recorded as such. -/
def Core.nextStep (c : Core) : Nat → Nat → Core
  | 0, _ => c
  | n + 1, k =>
    match c.skips k with
    | some o =>
      -- Safe mode skips S13, and the active set takes its reset values (R365)
      let c := if k = 13 then { c with act := [], shd := [] } else c
      Core.nextStep (c.setOutcome k o) n (k + 1)
    | none =>
      let c := (c.set OD.BOOT_STEP k).setOutcome k 1
      -- S10 starts the sources of TIME_SOURCE: the source in use is selected (R44, R366)
      { (if k = 10 then c.selectSource else c) with boot := { c.boot with stepUp := c.up } }

/-- The boot ends in Maintenance: BOOT_STATE 2 by failure, 3 by BOOT_MODE (R365, R369). -/
def Core.endMaint (c : Core) (state : Nat) : Core :=
  { c.set OD.BOOT_STATE state with boot := { c.boot with booting := false, endState := 4 } }

/-- A step fails (R368, R369): recorded, and a self-restart follows, or Maintenance at the third failure. The flag is
whether it restarts. The links that failed S04 are trained at half rate next time. -/
def Core.failStep (c : Core) (k detail links : Nat) : Core × Bool :=
  let n := min 3 (failOf c.boot.failCount k + 1)
  let c := c.setOutcome k 4
  let c := { c with boot := { c.boot with
    failCount := setBits c.boot.failCount (2 * k - 1) (2 * k - 2) n
    altMask := setBits c.boot.altMask (k - 1) (k - 1) 1
    failStep := k, failDetail := detail
    halfLinks := if k = 4 then Nat.lor c.boot.halfLinks links else c.boot.halfLinks
    held := if k ≤ 2 then some (k, detail) else c.boot.held } }
  let c := c.pulse 463
  let c := if n = 3 then (c.endMaint 2).pulse 464 else c
  let c := if 4 ≤ k then c.writeRecord else c
  (c, decide (n < 3))

/-! What each step does when it passes (R366). -/

/-- S02: records that cannot be recovered take their factory defaults under the scrub; those of the boot image and of the owner key, which
objects 250xh stand for, are then empty. -/
def Core.stepMram (c : Core) (r : BootReport) : Core :=
  if c.altNow 2 then
    let c := { c with regs := c.regs.filter (fun p => !r.lost.contains (okeyObj p.1))
                      saved := c.saved.filter (fun p => !r.lost.contains (okeyObj p.1))
                      ucode := { c.ucode with
                        boot := if r.lost.contains OD.UCODE_IMAGE then none else c.ucode.boot
                        ownerKey := if r.lost.contains OD.OWNER_KEY then none else c.ucode.ownerKey }
                      faults := { c.faults with haltRecord := if r.lost.contains OD.HALT_RECORD then 0 else c.faults.haltRecord } }
    let c := if r.lost.contains OD.OWNER_KEY then c.set OD.OWNER_KEY_SET 0 else c
    if r.keyLost then c.set OD.KEY_RECOVERED 1 else c
  else c

/-- S03: the ring head is found, and this boot's entry is made, of which the copies of an earlier boot are no part; under the alternate a
new ring is started at entry 0. -/
def Core.stepRecord (c : Core) : Core :=
  let b := c.boot
  let lost := (List.range 16).countP (fun e => (b.record e).isNone)
  let e := if c.altNow 3 then 0 else match b.head with
    | some h => (h + 1) % 16
    | none => 0
  let ring := if c.altNow 3 then [] else Tab.erase (Tab.erase b.ring (2 * e)) (2 * e + 1)
  let c := { c with boot := { c.boot with ring := ring } }
  let c := ((c.set OD.BOOT_COUNT b.nextSeq).set OD.RECORD_HEAD e).set OD.RECORD_LOST lost
  match b.held with
  | some (k, d) => { c with boot := { c.boot with failStep := k, failDetail := d, held := none } }
  | none => c

/-- S04: the links are in service. -/
def Core.stepLinks (c : Core) (half : Nat) : Core :=
  [0, 1, 2, 3].foldl (fun (c : Core) d =>
    let c := c.linkReturn d 4 (bit c.boot.halfLinks d || bit half d)
    c.setLink d { c.link d with releaseDue := false }) c

/-- S05: the clear codes are applied, but in a warm restart. -/
def Core.stepSense (c : Core) : Core :=
  if c.boot.warm.isSome then c
  else (storeListed c.regs OD.CLEAR_CODE).foldl (fun (c : Core) p => c.driveTo p.1 p.2) c

/-- S06: the marks of this pass, or those of the last one under the alternate. -/
def Core.stepDark (c : Core) (marked : List Nat) : Core :=
  if c.altNow 6 then c
  else
    let c := { c with regs := c.regs.filter (fun p => decide (okeyObj p.1 ≠ OD.DARK_FAIL)) }
    (marked.filter (· < 9728)).foldl (fun (c : Core) ch => c.wr OD.DARK_FAIL ch 1) c

/-- S07: under the alternate the factory calibration is loaded, and a full fringe calibration is pending. -/
def Core.stepCal (c : Core) : Core :=
  if c.altNow 7 then
    { c with regs := c.regs.filter (fun p => !(decide (OD.MON_GAIN ≤ okeyObj p.1 ∧ okeyObj p.1 ≤ OD.MON_OFFSET) ||
        decide (OD.SURV_GAIN ≤ okeyObj p.1 ∧ okeyObj p.1 ≤ OD.SURV_OFFSET) ||
        decide (OD.FRINGE_TABLE ≤ okeyObj p.1 ∧ okeyObj p.1 ≤ OD.DRIVE_TABLE)))
             boot := { c.boot with fringe := true } }
  else c

/-- S08: the boot image, none for the factory image. -/
def Core.bootImage (c : Core) : Option (List Nat) := if c.safeBoot || c.altNow 8 then none else c.ucode.boot

/-- Abort and LOAD_DETAIL of S08's check under R94 to R97; the selection is S09's to check. -/
def Core.stepImageCheck (c : Core) : Nat × Nat :=
  match c.bootImage with
  | none => (0, 0)
  | some img => let r := c.verify img; if r.1 = abSelection then (0, 0) else r

/-- S08 passes: the image runs. The boot image of MRAM stays what it is (R98). -/
def Core.stepImage (c : Core) : Core :=
  match c.bootImage with
  | some img => { c.install img with ucode := { c.ucode with active := some img } }
  | none => { c with ucode := { c.ucode with active := none } }

/-- Whether the loop selections of the record are used: not in Safe mode or under the alternate of S09. -/
def Core.loopsFactory (c : Core) : Bool := c.safeBoot || c.altNow 9

/-- The active-set record as this boot restores it: factory selections and sets 0 to 5 under S09's alternate, packet
objects at reset values under S11's. -/
def Core.restoreSet (c : Core) : Tab Nat :=
  c.saved.filter (fun p =>
    let obj := okeyObj p.1
    !(c.loopsFactory && (decide (obj = OD.LOOP_SELECT) || (decide (obj = OD.COEF_SET) && decide (okeyElem p.1 < 240)))) &&
    !(c.boot.pktReset && decide (0x310000 ≤ obj ∧ obj < 0x370000)))

/-- S09's check under R91. -/
def Core.stepLoopsBad (c : Core) : Bool := !c.loopsFactory && (firstMismatch c.saved c.progNow c.filledNow).isSome

/-- S09: every loop enters Parked, or Hold with cause 011b in a warm restart (R374). -/
def Core.stepLoops (c : Core) : Core :=
  if c.boot.warm.isSome then
    { c with loops := (List.range 9216).map (fun te =>
        (te, { Loop.reset with st := .hold, rep := .hold, cause := causeLink, code := c.driven te })) }
  else c

/-- S11: the packet objects of the record go into both sets. -/
def Core.stepPacket (c : Core) : Core :=
  let c := { c with boot := { c.boot with pktReset := c.altNow 11 } }
  let pkt := c.restoreSet.filter (fun p => decide (0x310000 ≤ okeyObj p.1 ∧ okeyObj p.1 < 0x370000))
  { c with act := pkt, shd := pkt }

/-- S12: a lane that fails is set in LANE_BOOT_FAILED; under the alternate the lanes set there are not trained. -/
def Core.stepLanes (c : Core) (failed : List Nat) : Core :=
  let tried := (List.range 128).filter (fun k => !(c.altNow 12 && decide (c.rd OD.LANE_BOOT_FAILED k = 1)))
  tried.foldl (fun (c : Core) k => c.wr OD.LANE_BOOT_FAILED k (bn (failed.contains k))) c

/-- The settings of a set implement its map (R183). -/
def setVerifies (st : Tab Nat) : Bool :=
  let m : Tab Nat := storeListed st OD.CONN_MAP
  (firstConflict [] (circuits m)).isNone && (circuits m).all (fun p => decide ((pathOf (setWords st) p.1).2 = p.2))

/-- S13: the record goes into both sets; under the alternate they take their reset values. In a warm restart every loop
leaves Hold. -/
def Core.stepRestore (c : Core) : Core :=
  let st := if c.altNow 13 then [] else c.restoreSet
  let c := { c.set OD.SHADOW_SOLVED 1 with act := st, shd := st }
  if c.boot.warm.isSome then c.mapLoops (fun _ => true) (fun _ l => l.unhold) else c

/-- S14: the power state that POWER_AT_READY names, or the one a warm restart began in; Safe mode ends in Maintenance
(R365, R374). -/
def Core.stepReady (c : Core) : Core :=
  let c := { c with boot := { c.boot with ready := if c.timeState = tsFree then 0 else time64 c.now } }
  if c.safeBoot then c.endMaint 3
  else
    let st := c.boot.warm.getD (c.rd OD.POWER_AT_READY)
    let c := (c.set OD.BOOT_STATE 1).set OD.POWER_STATE st
    let c := { c with boot := { c.boot with booting := false, endState := st } }
    let c := c.startGrace
    if st = psRun then c.startEngine else c

/-- Whether the check of a step fails, and FAIL_DETAIL. -/
def Core.stepFails (c : Core) (k : Nat) (r : BootReport) : Option Nat :=
  let bad := if r.pass then none else some r.detail
  match k with
  | 2 => if c.altNow 2 ∨ (r.lost.isEmpty ∧ r.keyLost = false) then bad else some r.detail
  | 4 => if r.failedLinks = 0 then bad else some r.detail
  | 6 => if c.altNow 6 then none else if 16 < r.marked.eraseDups.length then some r.detail else bad
  | 7 => if c.altNow 7 then none else bad
  | 8 => if c.bootImage.isNone then none
         else if c.stepImageCheck.1 = 0 then bad else some (if c.stepImageCheck.2 = 0 then c.stepImageCheck.1 else c.stepImageCheck.2)
  | 9 => if c.stepLoopsBad then some abSelection else bad
  | 3 => if c.boot.head.isSome then none else bad
  | 10 => none
  | 11 => if c.altNow 11 then none else bad
  | 12 => none
  | 13 => if c.altNow 13 then none else if setVerifies c.saved then bad else some abVerify
  | 14 => none
  | _ => bad

/-- What a step that passes leaves. -/
def Core.stepAction (c : Core) (k : Nat) (r : BootReport) : Core :=
  match k with
  | 1 => { c with faults := { c.faults with preS01 := false } }
  | 2 => c.stepMram r
  | 3 => c.stepRecord
  | 4 => c.stepLinks r.halfLinks.toNat
  | 5 => c.stepSense
  | 6 => c.stepDark r.marked
  | 7 => c.stepCal
  | 8 => c.stepImage
  | 9 => c.stepLoops
  | 11 => c.stepPacket
  | 12 => c.stepLanes (r.failedLanes.filter (· < 128))
  | 13 => c.stepRestore
  | 14 => c.stepReady
  | _ => c

/-- OUTCOME of a step that passes: 3 by its alternate (R371). Safe mode uses the alternates of S08 and S09. -/
def Core.passCode (c : Core) (k : Nat) (r : BootReport) : Nat :=
  if (c.altNow k ∧ k ∈ [2, 3, 4, 6, 7, 8, 9, 11, 12, 13]) ∨ (c.safeBoot ∧ (k = 8 ∨ k = 9)) ∨ (k = 12 ∧ ¬ r.failedLanes.isEmpty)
  then 3 else 2

/-- In a warm restart a lane that fails at S12 needs the alternate of S12, which the restart does not hold (R374). -/
def Core.lanesNeedAlt (c : Core) (k : Nat) (r : BootReport) : Bool :=
  decide (k = 12) && c.boot.warm.isSome && !c.altNow 12 && !r.failedLanes.isEmpty

/-- A step passes: its FAIL_COUNT returns to 0, the record is written from S03 on, and the next step runs. -/
def Core.passStep (c : Core) (k : Nat) (r : BootReport) : Core :=
  let c := (c.stepAction k r).setOutcome k (c.passCode k r)
  let c := { c with boot := { c.boot with
    failCount := setBits c.boot.failCount (2 * k - 1) (2 * k - 2) 0
    altMask := if k = 12 ∧ ¬ r.failedLanes.isEmpty then setBits c.boot.altMask 11 11 1 else c.boot.altMask } }
  let c := if k = 3 ∧ c.recoveryBoot then
      ((rangeFrom 4 11).foldl (fun (c : Core) j => c.setOutcome j 6) c).endMaint 3
    else if k = 14 ∨ c.lanesNeedAlt k r then c
    else c.nextStep 14 (k + 1)
  let c := if 3 ≤ k then c.writeRecord else c
  if k = 12 ∧ c.boot.fringe then { c.fringeStart with boot := { c.boot with fringe := false } } else c

/-- Whether the step that runs can end: S10 waits for Locked or for BOOT_TIME_WAIT, S13 for the fringe calibration of
S07 (R366). -/
def Core.stepDue (c : Core) (k : Nat) : Bool :=
  c.boot.booting && decide (c.boot.lowTill ≤ c.up) && decide (c.power ≠ psHalted) && decide (c.rd OD.BOOT_STATE = 0) &&
  (decide (k ≠ 10) || decide (c.timeState = tsLocked) || decide (c.boot.stepUp + nsU (c.rd OD.BOOT_TIME_WAIT) ≤ c.up)) &&
  !(decide (13 ≤ k) && c.fringeRunning)

/-- The key record is lost: slots 1 to 3 are empty, slot 0 holds its factory key, and every sequence number is raised
above any that was used (R366, S02). -/
def Motin.keysLost (m : Motin) (count : Nat) : Motin :=
  let n := 2 ^ 62 + 2 ^ 40 * count
  let up := fun (t : Tab Nat) => (List.range 4).foldl (fun t k => Tab.set t k (max n (Tab.get t k 0))) t
  { m with keys := [], seqIn := up m.seqIn, seqOut := up m.seqOut
           seen := (up m.seqIn).map (fun p => (p.1, windowOf p.2)) }

/-- The abort of a write to LANE_BOOT_FAILED (R376). -/
def laneRetrainCheck (v : Nat) : Nat := if v = 0 then 0 else abValue

/-- LANE_RETRAIN: a write of 0 retrains the lane at the next boundary (R376). -/
def execLaneRetrain (path : Path) (lane : Lane) (value : BitVec 8) (s : State) : Host.Outcome State Fault Refusal :=
  s.does (fun c => c.byActive path (fun c => c.rwWrite OD.LANE_BOOT_FAILED lane.val value.toNat (laneRetrainCheck value.toNat)))

end Sys2Proof.Machine
end

