-- ==== Sys2Proof/Machine/Views.lean ====
section
/-! DEFINITION. The objects that the module computes when they are read: fabric states, loops, ports, stores, gates, faults,
roles and the rest; and the present value of every object (R287). -/

namespace Sys2Proof.Machine

/-! ### Fabric (R48 to R61) -/

/-- LOW of an input: lit and below LOW_POWER_LEVEL, of an external port at the fabric side of its coupling (R52). -/
def Core.inputLow (c : Core) (i : Nat) : Bool :=
  let x := c.input i
  x.lit && decide (x.power - (if i < 384 then Config.couplingLoss i else 0 : Nat) < toSigned 16 (c.rd OD.LOW_POWER_LEVEL))

/-- INPUT_STATE (R61). -/
def Core.inputState (c : Core) (i : Nat) : Nat :=
  let x := c.input i
  bn x.lit + 2 * bn (c.inputLow i) + 4 * bn x.high + 8 * bn x.above

/-- The elements of an assigned output's path: both of each cell, and its VOA (R46). -/
def Core.pathElements (c : Core) (o : Nat) : List Nat :=
  (pathOf (setWords c.act) (entryInput (mapEntry c.act o))).1.flatMap (fun k => [2 * k, 2 * k + 1]) ++ [voaTe o]

/-- An element on whose state the isolation guarantee can rest: Locked, or in unexpired Coast (R3). -/
def Core.holdsIso (c : Core) (te : Nat) : Bool :=
  let l := c.loop te
  decide (l.rep = .locked) || (decide (l.rep = .coast) && !l.expired)

/-- ISO_OK of an output (R53, R58). -/
def Core.isoOk (c : Core) (o : Nat) : Bool :=
  let e := mapEntry c.act o
  if isDark e then
    decide ((c.loop (voaTe o)).rep = .parked) && decide (c.driven (voaTe o) = c.clearCode (voaTe o))
  else
    let cells := (pathOf (setWords c.act) (entryInput e)).1
    let near := cells.flatMap (fun k => let p := cellInputs (setWords c.act) k; [p.1, p.2])
    (c.pathElements o).all c.holdsIso && !c.inputLow (entryInput e) &&
      near.all (fun i => !(c.input i).high && !(c.input i).above) && decide (c.power = psRun ∨ c.power = psQuiet)

/-- OUTPUT_STATE (R61). -/
def Core.outputState (c : Core) (o : Nat) : Nat :=
  let e := mapEntry c.act o
  let dark := isDark e
  let coast := !dark && (c.pathElements o).any (fun te => decide ((c.loop te).rep = .coast))
  let cls := if dark then 0 else if entryInput e < 384 then 1 else 2
  cls + 4 * bn (!dark && (c.input (entryInput e)).lit) + 8 * bn coast + 16 * bn (c.isoOk o) + 32 * bn (eqShort c.act o)

/-- How many of 512 meet a condition. -/
def count512 (f : Nat → Bool) : Nat := (List.range 512).countP f

/-- Outputs not Dark in a set. -/
def circuitsOf (st : Tab Nat) : Nat := (storeListed st OD.CONN_MAP).countP (fun p => !isDark p.2)

/-! ### Loops (R71 to R84) -/

/-- LOOP_DRIFT, 2^-24 rad/s or dB/s: d converted by the scale of R69 (R74), 0.125 rad or 32 dB for a full-scale u of 32768. -/
def Core.loopDrift (c : Core) (te : Nat) : Int := idivFree ((c.loop te).d * (if te < 8704 then 64 else 16384)) (2 ^ 40)

/-- NOT_CURRENT: elements whose calibration is not current (R145, R163). -/
def Core.staleElements (c : Core) : Nat := (List.range 9216).countP (fun te => !c.calCurrent te)

/-! ### Stores, gates, classification -/

/-- GATE_STATE (R274). -/
def Core.gateWordOf (c : Core) (p : Nat) : Nat :=
  c.listGates p % 256 + 256 * (c.openGates p % 256) + 65536 * bn (c.gatePending p c.now) + 2 ^ 22 * (c.gateAt p c.now).1

/-- Entries of the stash among used positions (R242). -/
def stashUsed (l : List Nat) : Nat := l.countP (fun p => decide (262144 ≤ p))

/-- SHAPER_CREDIT, truncated toward zero (R274). -/
def Core.creditNow (c : Core) (k : Nat) : Int := Int.tdiv (c.credit k) (shaperUnit (c.shaperCfg k))

/-! ### The active set as a stream (R297, R315) -/

/-- Elements of an object. -/
def ObjRow.size (r : ObjRow) : Nat := if r.count = 0 then 1 else r.count

/-- The record of an RWS object, or of the cell settings, in a set: reference, byte length, value. -/
def setRecord (st : Tab Nat) (r : ObjRow) : List Byte :=
  be 4 (r.key * 256) ++ be 4 (r.size * r.ty.bytes) ++ (List.range r.size).flatMap (fun e => be r.ty.bytes (storeGet st (okey r.key e)))

/-- The pages that hold RWS objects, in ascending index. -/
def setPages : List Nat := [0x20, 0x21, 0x22, 0x23, 0x24, 0x25, 0x26, 0x27, 0x28, 0x30, 0x31, 0x32, 0x33, 0x34, 0x35, 0x36]

/-- Every record of the active set, in ascending index and subindex. -/
def setStream (st : Tab Nat) : List Byte :=
  setPages.flatMap (fun p => (Dict.page p).flatMap (fun r =>
    if r.access = .rws ∨ r.key = OD.ACTIVE_SETTINGS then setRecord st r else []))

/-- MODULE_DIGEST: of the set that the last executed traverse brought in; before the first, of the active set as it stands (R315,
log 7). -/
def Core.moduleDigest (c : Core) : List Byte := sha256 (setStream (c.sup.digested.getD c.act))

/-- OD 1400h.01 to .08 in their wire forms, 66 bytes (R297). -/
def Core.commitRecord (c : Core) : List Byte :=
  be 4 (0x140000 * 256) ++ be 4 66 ++ be 1 (c.rd OD.SET_STATE) ++ be 14 (c.rd OD.PENDING_T) ++ be 4 (c.rd OD.COMMIT_ID) ++
    be 14 (c.rd OD.BEGIN_AT) ++ be 14 (c.rd OD.CANCEL_BY) ++ be 14 (c.rd OD.LAST_T) ++ be 1 (c.rd OD.LAST_RESULT) ++
    be 4 (c.rd OD.LAST_RESULT_ID)

/-- The stream of an export (R297). -/
def Core.exportStream (c : Core) : List Byte := setStream c.act ++ c.commitRecord

/-! ### The value of every object -/

/-- The objects of the fabric and the maps that are computed. -/
def Core.viewFabric (c : Core) (obj e : Nat) : Option Nat :=
  match obj with
  | 0x200101 => some (count512 (fun i => (c.input i).lit))
  | 0x200102 => some (count512 (fun o => bit (c.outputState o) 2))
  | 0x200103 => some (512 - circuitsOf c.act)
  | 0x200104 => some (count512 c.isoOk)
  | 0x200105 => some (count512 c.inputLow)
  | 0x200106 => some (count512 (fun i => (c.input i).high || (c.input i).above))
  | 0x200107 => some (count512 (fun o => eqShort c.act o))
  | 0x201001 => some (ofSigned 16 (c.meanPower e))
  | 0x201101 => some (ofSigned 16 (c.meanPower (512 + e)))
  | 0x201201 => some (c.inputState e)
  | 0x201301 => some (c.outputState e)
  | 0x201501 => some (c.pathDelay e)
  | 0x210104 => some (circuitsOf c.act)
  | 0x210105 => some (circuitsOf c.shd)
  | 0x210201 => some (setWords c.act e)
  | 0x210301 => some (setWords c.shd e)
  | 0x221201 => some (c.glide e).phase
  | _ => none

/-- The objects of loops, monitors and calibration that are computed. -/
def Core.viewLoops (c : Core) (obj e : Nat) : Option Nat :=
  match obj with
  | 0x240101 => some (c.loopState e)
  | 0x240501 => some (ofSigned 32 (c.loop e).meas)
  | 0x240601 => some (ofSigned 32 (c.loop e).spShown)
  | 0x240701 => some (ofSigned 32 (c.loopDrift e))
  | 0x240801 => some (ofSigned 16 (c.loop e).u)
  | 0x270001 => some c.ovldChannels
  | 0x270101 => some (c.monShown e).1
  | 0x270201 => some (c.monShown e).2.1
  | 0x28010A => some c.staleElements
  | _ => none

/-- A counter of occurrences that no command stands for (R378). -/
def Core.unseen (c : Core) (obj e : Nat) : Nat := Tab.get c.test.unseen (okey obj e) 0

/-- The objects of the packet engine that are computed. -/
def Core.viewPackets (c : Core) (obj e : Nat) : Option Nat :=
  match obj with
  | 0x300001 => some c.enabledPorts.length
  | 0x300002 => some (c.enabledPorts.countP (fun p => (c.port p).up))
  | 0x300201 => some (c.laneState e)
  | 0x300301 => if 6 ≤ e % 8 then some (c.unseen obj e) else none
  | 0x320001 => some (classUsed c.act).length
  | 0x320002 => some (classUsed c.shd).length
  | 0x320003 => some (stashUsed (classUsed c.act))
  | 0x320004 => some (stashUsed (classUsed c.shd))
  | 0x320005 => some (bn c.classFrozen)
  | 0x330001 => some (393216 - c.cellsUsed)
  | 0x330002 => some c.sharedSize
  | 0x330003 => some c.sharedUsed
  | 0x330004 => some c.reserveNow
  | 0x330401 => some (c.depth e)
  | 0x341101 => some (ofSigned 32 (c.creditNow e))
  | 0x350301 => some (if gateOn c.act e then gateCycle c.act e else 0)
  | 0x350401 => some ((c.gateWindow (e / 8) (e % 8)).getD (2 ^ 64 - 1))
  | 0x350501 => some (c.gateWordOf e)
  | _ => none

/-- The objects of supervision, time, faults, boot and test that are computed. -/
def Core.viewSystem (c : Core) (obj e : Nat) : Option Nat :=
  match obj with
  | 0x120001 => some c.activePath
  | 0x120004 => some ((c.reg? 0).map (·.role) |>.getD 0)
  | 0x120005 => some ((c.reg? 1).map (·.role) |>.getD 0)
  | 0x120006 => some ((c.reg? 0).map (·.supId) |>.getD 0)
  | 0x120007 => some ((c.reg? 1).map (·.supId) |>.getD 0)
  | 0x12000C => some (beNat c.moduleDigest)
  | 0x12000D => some (c.rd OD.TRAVERSES)
  | 0x130001 => some (time64 c.now)
  | 0x130006 => some c.holdoverElapsed
  | 0x130009 => some c.frameIx
  | 0x400001 => some c.faultTop
  | 0x400008 => some c.faults.haltRecord
  | 0x400105 => some (bn c.faultN)
  | 0x400301 => some (c.groupStatus e)
  | 0x400401 => some (c.groupLive e)
  | 0x420201 => some (c.bootRecord e)
  | 0x430001 => some ((storeListed c.regs OD.PERF_CONFIG).countP (fun p => bit p.2 31))
  | 0x430201 =>
    let ev := perfEvent (c.rd OD.PERF_CONFIG e)
    if ev = 0x0C ∨ ev = 0x0E then some (c.unseen obj e) else none
  | 0x433101 => some (c.unseen obj e)
  | 0x440201 => some (c.chkShown e)
  | _ => none

/-- The page of an object decides where it is computed. -/
def Core.view (c : Core) (obj e : Nat) : Option Nat :=
  match obj / 0x10000 with
  | 0x20 | 0x21 | 0x22 => c.viewFabric obj e
  | 0x24 | 0x27 | 0x28 => c.viewLoops obj e
  | 0x30 | 0x32 | 0x33 | 0x34 | 0x35 => c.viewPackets obj e
  | 0x12 | 0x13 | 0x40 | 0x42 | 0x43 | 0x44 => c.viewSystem obj e
  | _ => none

/-- The present value of an element of an object: RWS objects in the active set (R287). -/
def Core.value (c : Core) (r : ObjRow) (e : Nat) : Nat :=
  (match r.access with
    | .rws => c.rdA r.key e
    | _ => match c.view r.key e with
      | some v => v
      | none => c.rd r.key e) % 256 ^ r.ty.bytes

end Sys2Proof.Machine
end

