-- ==== Sys2Proof/Machine/Objects.lean ====
section
/-! DEFINITION. Reading and writing one object, as every message, every command of its own row and the raw window do it: the
checks in their order, the object's own rule, and where the value goes (R286 to R288, R302 to R304, R308). -/

namespace Sys2Proof.Machine

/-! ### Keys (R282) -/

/-- What a key slot holds that nothing has written: slot 0 the module's own key from manufacture, slots 1 to 3 nothing. -/
def keyDflt (slot : Nat) : Nat := if slot = 0 then Config.factory OD.KEY_0 0 % 2 ^ 256 else 0

/-- The key in a slot. -/
def Motin.key (m : Motin) (slot : Nat) : Nat := Tab.get m.keys slot (keyDflt slot)

/-- Whether a slot holds a key; slot 0 always does. -/
def Motin.keyValid (m : Motin) (slot : Nat) : Bool := slot == 0 || m.key slot != 0

/-- A key takes effect: its slot's H returns to 0 and its record is empty (R280, R282). -/
def Motin.setKey (m : Motin) (slot v : Nat) : Motin :=
  { m with keys := Tab.put m.keys slot v (keyDflt slot), seqIn := Tab.erase m.seqIn slot, seen := Tab.erase m.seen slot }

/-! ### The raw window (R302, R303) -/

/-- Pages of the dictionary that the raw window shows. -/
def rawPages : List Nat :=
  [0x10, 0x11, 0x12, 0x13, 0x14, 0x20, 0x21, 0x22, 0x23, 0x24, 0x25, 0x26, 0x27, 0x28, 0x30, 0x31, 0x32, 0x33, 0x34, 0x35, 0x36,
    0x40, 0x41, 0x42, 0x43, 0x44]

/-- Key slots and the boot record do not decode (R303). -/
def rawShown (obj : Nat) : Bool := !(decide (0x111001 ≤ obj ∧ obj ≤ 0x111004) || decide (obj = OD.BOOT_RECORD))

/-- Words per element: a result record spans six, a TIME64 four (R23, R138). -/
def rawWords (r : ObjRow) : Nat :=
  match r.ty with
  | .octet 20 => 6
  | .time64 => 4
  | t => (t.bytes + 3) / 4

/-- An element's value as one number, its word at the lowest address lowest (R23, R138). -/
def rawImage (r : ObjRow) (v : Nat) : Nat :=
  match r.ty with
  | .octet 20 => v / 2 ^ 128 + v % 2 ^ 16 * 2 ^ 32 + v / 2 ^ 16 % 2 ^ 112 * 2 ^ 80
  | .time64 => v * 2 ^ 16
  | _ => v

/-- The value of an element whose words are written; a TIME64 has a reserved lower half-word. -/
def rawValue (r : ObjRow) (v : Nat) : Nat :=
  match r.ty with
  | .time64 => if v % 2 ^ 16 = 0 then v / 2 ^ 16 else 2 ^ 112
  | _ => v

/-- The objects that the raw window shows, each with its first word address: in ascending index, behind gaps that are free (log 47). -/
def rawPlace : List ObjRow → Nat → List (Nat × ObjRow)
  | [], _ => []
  | r :: l, a => let b := a + Config.rawGap r.key % 4096; (b, r) :: rawPlace l (b + r.size * rawWords r)

/-- The raw window's address map (R302, R303). -/
def rawMap : List (Nat × ObjRow) := rawPlace ((rawPages.flatMap Dict.page).filter (fun r => rawShown r.key)) 0

/-- The object, element and word that an address belongs to. -/
def rawFind (a : Nat) : Option (ObjRow × Nat × Nat) :=
  let hit := rawMap.find? (fun x => decide (x.1 ≤ a ∧ a < x.1 + x.2.size * rawWords x.2))
  hit.map (fun x => (x.2, (a - x.1) / rawWords x.2, (a - x.1) % rawWords x.2))

/-- RAW_ADDR and RAW_WORDS for what RAW_LOCATE names; FFFF_FFFFh where it is not addressable (R302). -/
def rawLocated (loc : Nat) : Nat × Nat :=
  match rawMap.find? (fun x => decide (x.2.key = loc / 256)) with
  | some x => (x.1, rawWords x.2)
  | none => (0xFFFFFFFF, 0)

/-- A RAW_LOCATE of a path comes into force, and RAW_ADDR and RAW_WORDS with it (R302). -/
def Core.locateApply (c : Core) (p v : Nat) : Core :=
  let x := rawLocated v
  ((c.wr OD.RAW_LOCATE p v).wr OD.RAW_ADDR p x.1).wr OD.RAW_WORDS p x.2

/-! ### Reading -/

/-- The objects of the Motin engine and the snapshots, as a path sees them. -/
def State.viewMotin (s : State) (p obj e : Nat) : Option Nat :=
  match obj with
  | 0x111005 => some ((List.range 4).foldl (fun v k => v + bn (s.motin.keyValid k) * 2 ^ k) 0)
  | 0x111101 => some (Tab.get s.motin.seqIn e 0)
  | 0x111201 => some (Tab.get s.motin.seqOut e 0)
  | 0x431001 => some ((s.copy.map (·.1)).getD 0)
  | 0x431002 => some (((s.copy.map (·.2.1)).map time64).getD 0)
  | 0x431003 => some s.snaps.length
  | 0x431101 => some (((s.snaps[e]?).map (fun x => time64 x.2)).getD 0)
  | 0x430201 =>
    let w := s.toCore.rd OD.PERF_CONFIG e
    if bit w 31 ∧ perfEvent w = 0x0B then some (count64 (s.toCore.rd OD.PERF_COUNT e) (Tab.get s.motin.handled (perfQual w) 0)) else none
  | 0x4F0001 => some (s.toCore.rd OD.RAW_LOCATE p)
  | 0x4F0002 => some (s.toCore.rd OD.RAW_ADDR p)
  | 0x4F0003 => some (s.toCore.rd OD.RAW_WORDS p)
  | 0x4F0004 => some (s.toCore.rd OD.RAW_DECODE_ERR p)
  | _ => none

/-- The value that a selector reads: 00b the active set or present value, 01b the shadow set, 10b the snapshot copy, zeros
where none has run since reset (R288, R291). -/
def State.valueOf (s : State) (p : Nat) (r : ObjRow) (e sel : Nat) : Nat :=
  if sel = 1 then s.toCore.rdS r.key e
  else if sel = 2 then
    match s.copy with
    | some x => x.2.2.value r e
    | none => 0
  else match s.viewMotin p r.key e with
    | some v => v % 256 ^ r.ty.bytes
    | none => s.toCore.value r e

/-- The bytes of a value on the wire; a STRING has no bytes before its first character (R286). -/
def wireBytes (t : Ty) (v : Nat) : List Byte :=
  match t with
  | .str n => (beBytes n v).dropWhile (· == 0)
  | t => beBytes t.bytes v

/-- Whether an object can be read with a selector (R288). -/
def selectorReads (r : ObjRow) (sel : Nat) : Bool :=
  decide (sel = 0) || (decide (sel = 1) && decide (r.access = .rws)) || (decide (sel = 2) && (bankOf r.key 0).isSome)

/-- The abort of a reference that names no object or subindex (R301). -/
def noObject (obj : Nat) : Nat := if Dict.hasIndex obj then abNoSub else abNoObject

/-- The abort of a read of an object by reference; `table` says by which transfer (R287, R288, R292, R301). -/
def readAbort (ref : Nat) (table : Bool) : Nat :=
  match Dict.find? (ref / 256) with
  | none => noObject (ref / 256)
  | some r =>
    if table ≠ decide (r.count ≠ 0) then abTransfer
    else if selectorReads r (ref % 256) = false then abSelector
    else if r.access = .wo then abNotReadable
    else 0

/-- A read of an RC object clears it in the same instant; PEAK_USED starts again from the cells in use (R274, R287). -/
def Core.readClear (c : Core) (p obj e : Nat) : Core :=
  if obj = OD.PEAK_USED then c.set obj c.cellsUsed
  else if obj = OD.RAW_DECODE_ERR then c.wr obj p 0
  else c.wr obj e 0

/-- A read of an element reads its word: inverted check bits show (R342). -/
def Core.eccElem (c : Core) (r : ObjRow) (e sel : Nat) : Core :=
  c.eccRead (fun k => decide (sel ≠ 2) && decide (markObj k = r.key) && (decide (shadowMark ≤ k) == decide (sel = 1)) &&
    (decide (markElem k = e) || (decide (r.key = settingsObj ∧ markCell ≤ markElem k) && decide ((markElem k - markCell) / 32 = e))))

/-- An element is read with a selector: its value, and the state with an RC object cleared; a snapshot read clears nothing. -/
def State.readElem (s : State) (p : Nat) (r : ObjRow) (e sel : Nat) : State × Nat :=
  let s := { s with toCore := s.toCore.eccElem r e sel }
  let v := s.valueOf p r e sel
  if r.access = .rc ∧ sel = 0 then ({ s with toCore := s.toCore.readClear p r.key e }, v) else (s, v)

/-- A word is read in the raw window: a wide register's first word latches the others for the path (R138, R303). -/
def State.rawRead (s : State) (p a : Nat) : State × Nat :=
  match rawFind a with
  | some (r, e, w) =>
    if r.access = .wo then ({ s with toCore := s.toCore.drawn }, s.toCore.draw % 2 ^ 32)
    else
      let s := { s with toCore := s.toCore.eccElem r e 0 }
      let v := rawImage r (s.valueOf p r e 0)
      if rawWords r = 1 then (s, v)
      else if w = 0 then
        let rest := (List.range (rawWords r - 1)).map (fun i => v / 2 ^ (32 * (i + 1)) % 2 ^ 32)
        ({ s with motin := { s.motin with rawLatch := Tab.set s.motin.rawLatch p rest } }, v % 2 ^ 32)
      else (s, (Tab.get s.motin.rawLatch p []).getD (w - 1) 0)
  | none =>
    if Config.rawOther a then ({ s with toCore := s.toCore.drawn }, s.toCore.draw % 2 ^ 32)
    else ({ s with toCore := s.toCore.wr OD.RAW_DECODE_ERR p 1 }, 0)

/-! ### Writing: the objects' own rules -/

/-- Whether a value has the form of its type (R286). -/
def Ty.admits (t : Ty) (v : Nat) : Bool :=
  match t with
  | .bool => decide (v ≤ 1)
  | .f32 => decide (bits v 30 23 ≠ 255)
  | .time64 => time64Valid v
  | _ => true

/-- Whether a value lies in the range its object's table gives. -/
def Rng.admits (g : Rng) (t : Ty) (v : Nat) : Bool :=
  match g with
  | .any => true
  | .nat lo hi => decide (lo ≤ v ∧ v ≤ hi)
  | .int lo hi => decide (lo ≤ toSigned (8 * t.bytes) v ∧ toSigned (8 * t.bytes) v ≤ hi)

/-- The abort of a write to GLIDE_PROFILE: an element that is not positive and finite, a reserved element that is not 0, or a
profile whose 25 dB ramp lies outside 1 ms to 10,000 ms (R208). -/
def Core.glideProfileCheck (c : Core) (e v : Nat) : Nat :=
  let w := fun j => if 4 * (e / 4) + j = e then v else c.rdNext OD.GLIDE_PROFILE (4 * (e / 4) + j)
  if e % 4 = 3 then (if v = 0 then 0 else abValue)
  else match f32Pos (w 0), f32Pos (w 1), f32Pos (w 2) with
    | some x, some y, some z =>
      -- a limit below the model's unit of 2^-64 gives a ramp far beyond t_ramp
      let t := rampUnits db25 x y z
      if 0 < x ∧ 0 < y ∧ 0 < z ∧ nsU 1000000 ≤ t ∧ t ≤ nsU 10000000000 then 0 else abValue
    | _, _, _ => abValue

/-- The abort of a write to a coefficient set's word (R83). -/
def coefCheck (w v : Nat) : Nat :=
  if w = 0 then
    (if bits v 15 11 ≠ 0 ∨ bits v 7 3 ≠ 0 ∨ bits v 10 8 = 6 ∨ bits v 2 0 = 0 ∨ bits v 2 0 = 7 then abValue else 0)
  else if 38 ≤ w then (if v = 0 then 0 else abValue)
  else if 7 ≤ w ∧ (w - 7) % 6 = 0 then (if bits v 15 2 = 0 then 0 else abValue)
  else 0

/-- The abort of a write to LOOP_LIMITS (R83). -/
def limitsCheck (v : Nat) : Nat :=
  if toSigned 16 (bits v 47 32) ≤ toSigned 16 (bits v 63 48) ∨ bits v 31 16 = 0 ∨ bits v 15 0 = 0 ∨ 20000 < bits v 15 0
  then abValue else 0

/-- Accepts a write to the shadow set, or ends with an abort (R287). -/
def Core.rwsWrite (c : Core) (obj e v abort : Nat) : Core := if abort = 0 then c.wrS obj e v else c.ends abort

/-- Time and the connection maps (pages 13h to 23h); none where the access right alone decides. -/
def Core.writeLow (c : Core) (_p obj e v : Nat) : Option Core :=
  if obj = OD.STEP_ACCEPT then some (c.stepAccept v)
  else if obj = OD.TIME_SET then some (c.timeSet v)
  else if obj = OD.TRANSPORT_1302 ∨ obj = OD.DELAY_MECH_1302 then
    some (c.rwWrite obj e v (if c.rd OD.PTP_ENABLE_1302 = 1 then abRunning else 0))
  else if obj = OD.TRANSPORT_1302 + 256 ∨ obj = OD.DELAY_MECH_1302 + 256 then
    some (c.rwWrite obj e v (if c.rd (OD.PTP_ENABLE_1302 + 256) = 1 then abRunning else 0))
  else if obj = OD.COMMIT_CANCEL then some (c.commitCancel v)
  else if obj = OD.UNLIT_THRESHOLD then
    some (c.rwWrite obj e v (if toSigned 16 (c.rdNext OD.LIT_THRESHOLD) - 100 < toSigned 16 v then abValue else 0))
  else if obj = OD.CONN_MAP then some (c.mapWrite e v)
  else if obj = OD.SOLVE_CMD then
    -- a command object completes before the next object is handled (R290); what its reads fire comes first (R186, R326)
    let c := c.solveStart v
    some (if c.result = 0 then (c.collect 4).solveEnd else c)
  else if obj = OD.SLOT_MAP then some (c.slotWrite false e v)
  else if obj = OD.SLOT_SETTINGS then some (c.slotWrite true e v)
  else if obj = OD.SLOT_CMD then
    some (if bits v 11 6 ≠ 0 then c.ends abValue
      else match bits v 15 12 with
        | 1 => c.slotVerify (bits v 5 0) | 2 => c.slotLoad (bits v 5 0) | 3 => c.slotSave (bits v 5 0)
        | 4 => c.slotErase (bits v 5 0) | _ => c.ends abValue)
  else if obj = OD.GLIDE_PROFILE then some (c.rwWrite obj e v (c.glideProfileCheck e v))
  else if obj = OD.TT_CMD then some (c.ttCmd v)
  else if obj / 0x10000 = 0x23 then
    some (c.rwWrite obj e v (if obj = OD.TT_BASE ∧ ¬ isBoundary (ofTime64 v) then abValue else c.ttWriteCheck obj e v))
  else none

/-- A sequence's objects (R131 to R139). -/
def Core.writeSeq (c : Core) (obj e v : Nat) : Option Core :=
  let q := obj / 256 - 0x2720
  let k := obj / 256 - 0x2728
  if 0x2720 ≤ obj / 256 ∧ obj / 256 ≤ 0x2723 then
    (match obj % 256 with
    | 1 => some (c.seqEnableWrite q v)
    | 6 => some (c.seqStart q v)
    | 12 => none
    | sub => some (c.rwWrite obj e v (c.seqCheck q sub v)))
  else if 0x2728 ≤ obj / 256 ∧ obj / 256 ≤ 0x272B then some (c.rwWrite obj e v (c.seqCheck k 0 v))
  else none

/-- Loops, microcode, drive, survey and calibration (pages 24h to 28h). -/
def Core.writeMid (c : Core) (_p obj e v : Nat) : Option Core :=
  if obj = OD.HOLD_CLEAR then some (c.holdClear v)
  else if obj = OD.LOOP_SELECT then some (c.rwsWrite obj e v (if c.filledNow (bits v 15 12) then 0 else abValue))
  else if obj = OD.LOOP_LIMITS then some (c.rwsWrite obj e v (limitsCheck v))
  else if obj = OD.COEF_SET then 
    some (let r := coefCheck (e % 40) v
      if r ≠ 0 then c.ends r else (c.wrS obj e v).eccWrite 4 (shadowMark + okey obj e))
  else if obj = OD.UCODE_IMAGE then some (c.imageWrite e v)
  else if obj = OD.LOAD_CMD then some (if v = 3 then c.loadAbandon else c.loadVerify (v == 2))
  else if obj = OD.ACTIVATE_AT then some (c.activateAtWrite v)
  else if obj = OD.OWNER_KEY then some (c.ownerKeyWrite v)
  else if obj = OD.OWNER_KEY_CLEAR then some (c.ownerKeyClear v)
  else if obj = OD.DEGLITCH_NS then
    some (c.rwWrite obj e v (if v % 20 = 0 then 0 else abValue))
  else if obj = OD.CLEAR_CODE then some (c.rwWrite obj e v (c.clearCodeCheck e v))
  else if obj = OD.CEILING then some (c.rwWrite obj e v (c.ceilingCheck e v))
  else if obj = OD.INJECT_REQUEST then some (c.inject v)
  else if obj = OD.FRINGE_CAL_CMD then some (c.fringeCmd v)
  else if obj = OD.CAL_REQUEST then some (c.calRequest v)
  else if obj = OD.CAL_MAPS ∨ obj = OD.CAL_MAP_COUNT then
    some (c.rwWrite obj e v (if c.power ≠ psMaint then abRole else if c.fringeRunning then abRunning
      else if obj = OD.CAL_MAPS ∧ entryValid v = false then abValue else 0))
  else c.writeSeq obj e v

/-- The packet engine (pages 30h to 36h). -/
def Core.writePacket (c : Core) (_p obj e v : Nat) : Option Core :=
  if obj = OD.PORT_CONFIG then some (c.rwWrite obj e v (c.portCheck e v))
  else if obj = OD.CLASS_CMD then some (c.classCmd v)
  else if obj = OD.CLASS_STAGE then some (c.rwWrite obj e v (if entryAllowed v then 0 else abValue))
  else if obj = OD.CLASS_TABLE then some (c.classWrite e v)
  else if obj = OD.FLOW_CMD then some (c.flowCmd v)
  else if obj / 0x10000 = 0x31 ∨ obj / 0x10000 = 0x32 then
    let r := c.ingressCheck obj e v
    some (if r ≠ 0 then c.ends r else c.putIngress obj e v)
  else if obj / 0x10000 = 0x35 then
    let r := c.egressCheck obj e v
    some (if r ≠ 0 then c.ends r else if obj = OD.GATE_LIST then (c.wrS obj e v).egressWritten (2 ^ 48 + okey obj e) else c.wrS obj e v)
  else some (c.rwWrite obj e v (c.egressCheck obj e v))

/-- Faults, power, start-up, counters and test (pages 40h to 44h). -/
def Core.writeHigh (c : Core) (_p obj e v : Nat) : Option Core :=
  if obj = OD.PIN_REARM then some (c.pinRearm v)
  else if obj = OD.CLEAR_SOURCE then some (c.clearSource v)
  else if obj = OD.FIRST_CLEAR then some (c.firstClear v)
  else if obj = OD.SOURCE_CONFIG then some (c.rwWrite obj e v (c.sourceConfigCheck e v))
  else if obj = OD.ECC_INJECT then some (c.eccInject v)
  else if obj = OD.POWER_CMD then some (c.powerCmd v)
  else if obj = OD.ZONE_LEVELS then some (c.rwWrite obj e v (zoneLevelsCheck e v))
  else if obj = OD.ZONE_OVERRIDE then some (c.rwWrite obj e v (c.overrideCheck e v))
  else if obj = OD.RESTART_CMD then some (c.restartCmd v)
  else if obj = OD.ALT_CLEAR then
    some (if bits v 15 14 ≠ 0 then c.ends abValue else { c with boot := { c.boot with altClear := Nat.lor c.boot.altClear v } })
  else if obj = OD.LANE_BOOT_FAILED then some (c.rwWrite obj e v (laneRetrainCheck v))
  else if obj = OD.WRAP_CLEAR then some (c.wrapClear v)
  else if obj = OD.PERF_CONFIG then some (c.rwWrite obj e v (perfCheck v))
  else if obj = OD.BW_WINDOW then some (c.rwWrite obj e v (if v = 0 ∨ 1000000 % v ≠ 0 then abValue else 0))
  else if obj = OD.BW_PEAK_CLEAR then some (if v = 1 then c.bwPeaks else c.ends abValue)
  else if obj = OD.MATRIX_SLICES then some (c.rwWrite obj e v (if v < 256 then 0 else abValue))
  else if obj = OD.TEST_CLEAR then some (c.testClear v)
  else if obj = OD.TEST_INJECT then some (c.testInject v)
  else if obj = OD.TEST_CONFIG then some (c.rwWrite obj e v (c.testCheck e v))
  else if obj = OD.PROVE_CMD then some (c.proveCmd v)
  else none

/-- An accepted value goes where the object's chapter and its access right send it (R287). -/
def Core.writeObj (c : Core) (p : Nat) (r : ObjRow) (e v : Nat) : Core :=
  let obj := r.key
  let own := match obj / 0x10000 with
    | 0x13 | 0x14 | 0x20 | 0x21 | 0x22 | 0x23 => c.writeLow p obj e v
    | 0x24 | 0x25 | 0x26 | 0x27 | 0x28 => c.writeMid p obj e v
    | 0x30 | 0x31 | 0x32 | 0x33 | 0x34 | 0x35 | 0x36 => c.writePacket p obj e v
    | 0x40 | 0x41 | 0x42 | 0x43 | 0x44 => c.writeHigh p obj e v
    | _ => none
  match own with
  | some c => c
  | none => if r.access = .rws then c.wrS obj e v else c.defer obj e v

/-! ### Writing: the checks of every write -/

/-- A write to a key slot: accepted only under slot 0, and slot 0 is never erased; it takes effect after the reply (R282). -/
def State.writeKey (s : State) (auth slot v : Nat) : State :=
  if auth ≠ 0 then { s with toCore := s.toCore.ends abRole }
  else if slot = 0 ∧ v = 0 then { s with toCore := s.toCore.ends abValue }
  else { s with toCore := s.toCore.ends 0, motin := { s.motin with keyWrites := s.motin.keyWrites ++ [(slot, v)] } }

/-- Whether an object is an address, a prefix or a gateway of a path (R311). -/
def addrObj (obj : Nat) : Bool := decide (0x112002 ≤ obj ∧ obj ≤ 0x112007) || decide (0x112102 ≤ obj ∧ obj ≤ 0x112107)

/-- A value is written to an element: its type, its range, the set lock, then the object's own rule; the result tells the
abort (R23, R286, R287, R311; the order is the model's, log 36). -/
def State.writeVal (s : State) (p auth : Nat) (r : ObjRow) (e v : Nat) : State :=
  let core := fun c => { s with toCore := c }
  -- in any other state every write of DEGLITCH_NS is refused (R106)
  if r.key = OD.DEGLITCH_NS ∧ s.toCore.power ≠ psDormant ∧ s.toCore.power ≠ psMaint then core (s.toCore.ends abRunning)
  else if r.ty.admits v = false ∨ r.range.admits r.ty v = false then core (s.toCore.ends abValue)
  else if r.access = .rws ∧ s.toCore.shadowLocked then core (s.toCore.ends abRunning)
  else if 0x111001 ≤ r.key ∧ r.key ≤ 0x111004 then s.writeKey auth (r.key - 0x111001) v
  else if addrObj r.key then
    { s with toCore := s.toCore.ends 0, motin := { s.motin with addrWrites := s.motin.addrWrites ++ [(okey r.key e, v)] } }
  else if r.key = OD.RAW_LOCATE then
    core (if v % 256 = 0 then (s.toCore.ends 0).defer OD.RAW_LOCATE p v else s.toCore.ends abValue)
  else core ((s.toCore.ends 0).writeObj p r e v)

/-- The abort of a write of an object by reference before its value is looked at (R287, R288, R292, R301). -/
def writeAbort (ref : Nat) (table : Bool) : Nat :=
  match Dict.find? (ref / 256) with
  | none => noObject (ref / 256)
  | some r =>
    if table ≠ decide (r.count ≠ 0) then abTransfer
    else if ref % 256 ≠ 0 then abSelector
    else match r.access with
      | .ro | .rc | .const => abNotWritable
      | _ => 0

/-- Key writes and address writes take effect once the reply has been sent (R282, R311). -/
def State.afterReply (s : State) : State :=
  let m := s.motin.keyWrites.foldl (fun m p => m.setKey p.1 p.2) s.motin
  let c := s.motin.addrWrites.foldl (fun (c : Core) p => { c with regs := storePut c.regs p.1 p.2 }) s.toCore
  { s with toCore := c, motin := { m with keyWrites := [], addrWrites := [] } }

/-- A word is written in the raw window: the word at the lowest address writes the element, with the words written before it,
as a WRITE of the object would; an address that decodes without an object takes a write in Maintenance only; where nothing
decodes the word is discarded (R304). -/
def State.rawWrite (s : State) (p auth a w : Nat) : State :=
  let core := fun c => { s with toCore := c }
  let done := fun (t : State) => if t.toCore.result = 0 then t else { t with toCore := t.toCore.inc OD.RAW_REFUSED }
  match rawFind a with
  | some (r, e, i) =>
    let held := Tab.get s.motin.rawHold p []
    if i ≠ 0 then { s with toCore := s.toCore.ends 0, motin := { s.motin with rawHold := Tab.set s.motin.rawHold p (Tab.set held a w) } }
    else
      let word := fun k => (Tab.find? held (a + k)).getD (s.toCore.draw % 2 ^ 32)
      let v := rawValue r ((List.range (rawWords r - 1)).foldl (fun v k => v + word (k + 1) * 2 ^ (32 * (k + 1))) w)
      let rest := held.filter (fun h => !(decide (a < h.1 ∧ h.1 < a + rawWords r)))
      let full := (List.range (rawWords r - 1)).all (fun k => (Tab.find? held (a + (k + 1))).isSome)
      let s := { s with toCore := if full then s.toCore else s.toCore.drawn,
                        motin := { s.motin with rawHold := Tab.set s.motin.rawHold p rest } }
      let ab := match r.access with
        | .ro | .rc | .const => abNotWritable
        | _ => if 256 ^ r.ty.bytes ≤ v then abValue else 0
      done (if ab ≠ 0 then { s with toCore := s.toCore.ends ab } else s.writeVal p auth r e v)
  | none =>
    if Config.rawOther a then done (core (if s.toCore.power = psMaint then s.toCore.ends 0 else s.toCore.ends abRole))
    else core ((s.toCore.wr OD.RAW_DECODE_ERR p 1).ends 0)

end Sys2Proof.Machine
end

