-- ==== Sys2Proof/Machine/Motin.lean ====
section
/-! DEFINITION. The Motin engine: datagrams, replies and the reply cache, and the meaning of every message (R276 to R300); the
commands that write keys, addresses and the raw window; subscriptions; and the decision of takeovers. -/

namespace Sys2Proof.Machine

/-! ### Sending (R276, R277, R279, R281) -/

/-- A whole message: header, body and tag. -/
def message (key type slot seq id result : Nat) (body : List Byte) : List Byte :=
  let m := be 1 1 ++ be 1 type ++ be 2 (40 + body.length) ++ be 1 slot ++ be 3 0 ++ be 8 seq ++ be 4 id ++ be 4 result ++ body
  m ++ (hmacSha256 (be 32 key) m).take 16

/-- Sends a message under the next number of its key slot. -/
def Motin.send (m : Motin) (p : Nat) (to_ : NetAddr) (slot type id result : Nat) (body : List Byte) : Motin :=
  let seq := Tab.get m.seqOut slot 0 + 1
  { m with seqOut := Tab.put m.seqOut slot seq 0
           outbox := ⟨p, to_, slot, seq, message (m.key slot) type slot seq id result body⟩ :: m.outbox }

/-- Sends a message. While a path's pattern generator runs it replaces the path's stream: the message takes its number, and nothing goes
out (R390, log 31). -/
def State.send (s : State) (p : Nat) (to_ : NetAddr) (slot type id result : Nat) (body : List Byte) : State :=
  let m := s.motin.send p to_ slot type id result body
  { s with motin := if bit (s.toCore.rd OD.TEST_CONFIG (144 + p)) 31 then { m with outbox := s.motin.outbox } else m }

/-- The replies a path keeps (R285). -/
def Motin.kept (m : Motin) (p : Nat) : List Kept := Tab.get m.cache p []

/-- Answers a request and keeps the reply among the last 32 of its path (R277, R285). -/
def State.answer (s : State) (p : Nat) (r : Request) (result : Nat) (body : List Byte) : State :=
  let k : Kept := ⟨r.type + 128, r.id, r.body, result, body, s.toCore.up⟩
  let s := s.send p r.from_ r.keySlot (r.type + 128) r.id result body
  { s with motin := { s.motin with cache := Tab.set s.motin.cache p ((k :: s.motin.kept p).take 32) } }

/-- Refuses a request as a whole with an empty body; a malformed one is counted (R278, R420). -/
def State.refuse (s : State) (p : Nat) (r : Request) (code : Nat) : State :=
  let s := s.answer p r code []
  if code = abBody ∨ code = abType then { s with toCore := s.toCore.inc OD.MALFORMED_1100 } else s

/-! ### Receiving (R278, R280, R284, R285) -/

/-- The highest number accepted under a slot. -/
def Motin.high (m : Motin) (slot : Nat) : Nat := Tab.get m.seqIn slot 0

/-- The numbers of a slot's window that have been seen. -/
def Motin.seenOf (m : Motin) (slot : Nat) : List Nat := Tab.get m.seen slot []

/-- Whether the replay check passes a number: 0 never, above H always, within H - 63 to H once (R280). -/
def Motin.fresh (m : Motin) (slot seq : Nat) : Bool :=
  decide (seq ≠ 0) && (decide (m.high slot < seq) ||
    (decide (m.high slot < seq + 64) && !(m.seenOf slot).contains seq))

/-- An accepted number: H moves up to it, and it joins the window's record (R280). -/
def Motin.note (m : Motin) (slot seq : Nat) : Motin :=
  let h := max (m.high slot) seq
  { m with seqIn := Tab.put m.seqIn slot h 0
           seen := Tab.put m.seen slot ((seq :: m.seenOf slot).filter (fun n => decide (h < n + 64))) [] }

/-- The queue of a path. -/
def Motin.queue (m : Motin) (p : Nat) : List Request := Tab.get m.queues p []

/-- Sets the queue of a path. -/
def Motin.setQueue (m : Motin) (p : Nat) (l : List Request) : Motin := { m with queues := Tab.put m.queues p l [] }

/-- Whether a TYPE is that of a request (R283). -/
def requestType (t : Nat) : Bool := (decide (1 ≤ t ∧ t ≤ 11)) || decide (t = 13)

/-- Whether the management paths serve messages: from the end of S03 on (R375). -/
def Core.serving (c : Core) : Bool := !c.dead && (c.passed 3 || decide (c.rd OD.BOOT_STATE ≠ 0))

/-- The kept reply that a request repeats, if any (R285). -/
def Motin.repeats (m : Motin) (p : Nat) (r : Request) : Option Kept :=
  (m.kept p).find? (fun k => k.id == r.id && k.body == r.body)

/-- A kept reply is sent again, under a new number (R285). -/
def State.resend (s : State) (p : Nat) (r : Request) (k : Kept) : State :=
  let s := s.send p r.from_ r.keySlot k.type k.id k.result k.reply
  { s with toCore := s.toCore.inc OD.CACHE_HITS }

/-- An authenticated message that is no replay: an EVENT is discarded, a kept reply sent again, an unknown TYPE refused, a
full queue refused, anything else queued (R278, R283 to R285). -/
def State.enqueue (s : State) (p : Nat) (r : Request) : State :=
  if r.type = 12 then { s with toCore := s.toCore.inc OD.MALFORMED_1100 }
  else match s.motin.repeats p r with
  | some k => s.resend p r k
  | none =>
    if requestType r.type = false then s.refuse p { r with type := r.type % 128 } abType
    else if 8 ≤ (s.motin.queue p).length then
      let s := s.send p r.from_ r.keySlot (r.type + 128) r.id abBusy []
      { s with toCore := s.toCore.inc OD.BUSY }
    else { s with motin := s.motin.setQueue p (s.motin.queue p ++ [r]) }

/-- A datagram that carries an authenticated message refreshes the subscription of its sender (R299). -/
def Motin.refresh (m : Motin) (p : Nat) (src : NetAddr) (slot up : Nat) : Motin :=
  { m with subs := m.subs.map (fun u =>
      if u.2.path = p ∧ u.2.addr = src ∧ u.2.keySlot = slot then (u.1, { u.2 with lastSeen := up }) else u) }

/-- Whether a path has the address family of a source: IPv4 addresses are the numbers below 2^32. A family whose address is all zeros is
disabled, but the link-local IPv6 address is always there, for sources in fe80::/10 (R311, log 58). -/
def Core.hears (c : Core) (p : Nat) (src : NetAddr) : Bool :=
  if src.ip < 2 ^ 32 then c.rd (0x112002 + 0x100 * p) != 0
  else c.rd (0x112005 + 0x100 * p) != 0 || decide (src.ip / 2 ^ 118 = 0x3FA)

/-- The five checks of a datagram in their order, and what follows (R276, R278 to R280). -/
def State.datagram (s : State) (p : Nat) (src : NetAddr) (bs : List Byte) : State :=
  let n := bs.length
  let slot := fieldAt bs 4 1 % 4
  let seq := fieldAt bs 8 8
  let core := fun c => { s with toCore := c }
  if s.toCore.serving = false ∨ s.toCore.hears p src = false then s
  else if n < 40 ∨ 1232 < n ∨ fieldAt bs 2 2 ≠ n ∨ fieldAt bs 0 1 ≠ 1 then core (s.toCore.inc OD.MALFORMED_1100)
  else if s.motin.keyValid slot = false ∨
      (hmacSha256 (be 32 (s.motin.key slot)) (bs.take (n - 16))).take 16 ≠ bs.drop (n - 16) then
    core ((s.toCore.inc OD.AUTH_FAILS).pulse (448 + p))
  else if s.motin.fresh slot seq = false then core ((s.toCore.inc OD.REPLAYS).pulse (450 + p))
  else
    let m := (s.motin.note slot seq).refresh p src slot s.toCore.up
    { s with motin := m }.enqueue p
      ⟨fieldAt bs 1 1, fieldAt bs 5 1, fieldAt bs 16 4, slice bs 24 (n - 40), src, slot⟩

/-- MOTIN_DATAGRAM (R278). -/
def execMotinDatagram (path : Path) (at_ : Nat) (source : NetAddr) (bytes : List Byte) (s : State) :
    Host.Outcome State Fault Refusal :=
  .next (if s.toCore.dead then s
    else State.settle (State.datagram { s with toCore := s.toCore.advance at_ } path.val source bytes))

/-! ### Handling one message (R283, R284, R339, R375, R420) -/

/-- Whether the sender of a request is the active supervisor: the path's registration is active and has its address and key
slot (R283, R312). -/
def Core.fromActive (c : Core) (p : Nat) (r : Request) : Bool :=
  match c.reg? p with
  | some x => x.role == 2 && x.ip == r.from_.ip && x.keySlot == r.keySlot
  | none => false

/-- Message types that only the active supervisor may send (R283). -/
def activeOnly (t : Nat) : Bool := t == 2 || t == 4 || t == 5 || t == 6

/-- A WRITE whose objects are all RESTART_CMD (R375). -/
def restartOnly (r : Request) : Bool :=
  let n := fieldAt r.body 0 1
  r.type == 2 && (List.range n).all (fun i => fieldAt r.body (4 + 12 * i) 3 == OD.RESTART_CMD) && n != 0

/-- Whether the module serves a request in its state: every type in Run to Dormant and in Maintenance, fewer in Halted and
until the boot has ended (R339, R375). -/
def Core.serves (c : Core) (r : Request) : Bool :=
  if c.power = psHalted then [1, 3, 7, 11].contains r.type
  else if c.rd OD.BOOT_STATE = 0 then [1, 3, 7, 10, 11, 13].contains r.type || restartOnly r
  else true

/-- The objects of a WRITE body: references with the bytes of their values; none where the body does not fit (R289). -/
def writeItems : Nat → List Byte → Option (List (Nat × List Byte))
  | 0, bs => if bs.isEmpty then some [] else none
  | n + 1, bs =>
    let len := fieldAt bs 4 2
    let pad := (len + 3) / 4 * 4
    if bs.length < 8 + pad then none
    else (writeItems n (bs.drop (8 + pad))).map (fun l => (fieldAt bs 0 4, slice bs 8 len) :: l)

/-- The abort of a request whose body does not fit its TYPE, or whose COUNT is out of range (R278, R289). -/
def bodyAbort (r : Request) : Nat :=
  let n := r.body.length
  let count := fieldAt r.body 0 1
  match r.type with
  | 1 => if n < 4 ∨ count = 0 then abBody else if 32 < count then abCount else if n = 4 + 4 * count then 0 else abBody
  | 2 => if n < 4 ∨ count = 0 then abBody else if 32 < count then abCount
         else if (writeItems count (r.body.drop 4)).isSome then 0 else abBody
  | 3 => if n = 12 then 0 else abBody
  | 4 => if 12 ≤ n ∧ n = 12 + fieldAt r.body 8 2 * fieldAt r.body 10 2 then 0 else abBody
  | 5 => if n = 16 then 0 else abBody
  | 6 => if n = 16 then 0 else abBody
  | 7 => if n = 12 then 0 else abBody
  | 8 => if n = 36 then 0 else abBody
  | 9 => if n = 8 then 0 else abBody
  | 10 => if n = 8 then 0 else abBody
  | 11 => if 4 ≤ n ∧ n = 4 + 4 * fieldAt r.body 1 1 then 0 else abBody
  | 13 => if n = 8 then 0 else abBody
  | _ => abType

/-- The full body of a reply that the module's state refuses: the references stand, everything else is 0 (R420). -/
def refusedBody (r : Request) : List Byte :=
  match r.type with
  | 2 => be 1 (fieldAt r.body 0 1) ++ be 3 0 ++
      ((writeItems (fieldAt r.body 0 1) (r.body.drop 4)).getD []).flatMap (fun x => be 4 x.1 ++ be 4 abRole)
  | 4 => slice r.body 0 4 ++ be 4 abRole ++ be 8 0
  | 5 | 6 => be 20 0
  | 8 => be 40 0
  | 9 => be 16 0
  | _ => be 4 0

/-- Whether the engine takes its next message from a path: it has one, and it is its turn where both have (R284). -/
def Motin.turnOf (m : Motin) (p : Nat) : Bool := (m.queue (1 - p)).isEmpty || m.turn == p

/-- The engine takes the head of a path's queue: the other path has the next turn, and the request counts as handled (R284,
R381). -/
def Motin.take (m : Motin) (p : Nat) (rest : List Request) : Motin :=
  { m.setQueue p rest with turn := 1 - p, handled := Tab.put m.handled p (Tab.get m.handled p 0 + 1) 0 }

/-- The engine takes the request at the head of a path's queue, if it has the command's TYPE, and handles it whole: a reply kept since
it arrived, body and COUNT, then the sender, then the module's state, then the message's own rules (R283 to R285, R420).
DESIGN CHOICE (log 55): this is the instant of acceptance of a message, from which the leads of R41 and a TIME_SET of R37 count, and
not the instant at which its datagram passed the checks of R278. -/
def State.serve (s : State) (p type : Nat) (handle : Request → State → State) : State :=
  match s.motin.queue p with
  | [] => s
  | r :: rest =>
    if r.type ≠ type ∨ s.motin.turnOf p = false then s
    else
      let s := { s with motin := s.motin.take p rest }
      let s := match s.motin.repeats p r with
        | some k => s.resend p r k
        | none =>
        if bodyAbort r ≠ 0 then s.refuse p r (bodyAbort r)
        else if activeOnly type && !s.toCore.fromActive p r then s.refuse p r abRole
        else if s.toCore.serves r = false then s.answer p r abRole (refusedBody r)
        else handle r s
      s.afterReply

/-- A command that takes one message. -/
abbrev State.serves (s : State) (p type : Nat) (handle : Request → State → State) : Host.Outcome State Fault Refusal :=
  .next (if s.toCore.dead then s else State.settle (s.serve p type handle))

/-! ### READ and WRITE (R289 to R291) -/

/-- The SNAP_ID of the copy in force, 0 if no snapshot has run since reset (R291). -/
def State.snapId (s : State) : Nat := (s.copy.map (·.1)).getD 0

/-- Zeros that fill bytes up to a multiple of 4. -/
def padded (bs : List Byte) : List Byte := bs ++ List.replicate ((4 - bs.length % 4) % 4) 0

/-- The bytes that a reference adds to a READ reply. -/
def State.readSize (s : State) (p ref : Nat) : Nat :=
  if readAbort ref false ≠ 0 then 12
  else match Dict.find? (ref / 256) with
    | some r => 12 + (padded (wireBytes r.ty (s.valueOf p r 0 (ref % 256)))).length
    | none => 12

/-- One object of a READ: the state after it, and its part of the reply (R289). -/
def State.readOne (s : State) (p ref : Nat) : State × List Byte :=
  let a := readAbort ref false
  if a ≠ 0 then (s, be 4 ref ++ be 4 a ++ be 4 0)
  else match Dict.find? (ref / 256) with
    | some r =>
      let x := s.readElem p r 0 (ref % 256)
      let v := wireBytes r.ty x.2
      (x.1, be 4 ref ++ be 4 0 ++ be 2 v.length ++ be 2 0 ++ padded v)
    | none => (s, [])

/-- The references of a READ body. -/
def readRefs (r : Request) : List Nat := (List.range (fieldAt r.body 0 1)).map (fun i => fieldAt r.body (4 + 4 * i) 4)

/-- A READ: its objects in order, or nothing at all where the reply would be too large (R289 to R291). -/
def State.read (s : State) (p : Nat) (r : Request) : State :=
  let refs := readRefs r
  if 1232 < 48 + refs.foldl (fun n x => n + s.readSize p x) 0 then s.refuse p r abReplySize
  else
    let x := refs.foldl (fun (x : State × List Byte) ref =>
      let y := x.1.readOne p ref
      (y.1, x.2 ++ y.2)) (s, [])
    x.1.answer p r 0 (be 4 s.snapId ++ be 1 refs.length ++ be 3 0 ++ x.2)

/-- READ (R289). -/
def execRead (path : Path) (s : State) : Host.Outcome State Fault Refusal :=
  s.serves path.val 1 (fun r s => s.read path.val r)

/-- One object of a WRITE: its abort is left as the result (R287, R288). -/
def State.writeOne (s : State) (p auth ref : Nat) (v : List Byte) : State :=
  let a := writeAbort ref false
  if a ≠ 0 then { s with toCore := s.toCore.ends a }
  else match Dict.find? (ref / 256) with
    | some r =>
      if v.length ≠ r.ty.bytes then { s with toCore := s.toCore.ends abLength } else s.writeVal p auth r 0 (beNat v)
    | none => s

/-- The objects of a WRITE in order, each on its own; after a refusal with STOP set the rest is not attempted (R290). -/
def State.writeAll (p auth : Nat) (stop : Bool) : List (Nat × List Byte) → State → List Byte → State × List Byte
  | [], s, out => (s, out)
  | (ref, v) :: l, s, out =>
    let s := s.writeOne p auth ref v
    let out := out ++ be 4 ref ++ be 4 s.toCore.result
    if stop && s.toCore.result != 0 then (s, out ++ l.flatMap (fun x => be 4 x.1 ++ be 4 abNotAttempted))
    else State.writeAll p auth stop l s out

/-- A WRITE (R290). -/
def State.write (s : State) (p : Nat) (r : Request) : State :=
  let items := (writeItems (fieldAt r.body 0 1) (r.body.drop 4)).getD []
  let x := State.writeAll p r.keySlot (r.flags % 2 == 1) items s []
  x.1.answer p r 0 (be 1 items.length ++ be 3 0 ++ x.2)

/-- WRITE (R290). -/
def execWrite (path : Path) (s : State) : Host.Outcome State Fault Refusal :=
  s.serves path.val 2 (fun r s => s.write path.val r)

/-! ### Tables (R292 to R294) -/

/-- Elements of a table read in ascending order. -/
def State.readElems (p : Nat) (row : ObjRow) (sel : Nat) : Nat → Nat → State → List Byte → State × List Byte
  | 0, _, s, out => (s, out)
  | n + 1, e, s, out =>
    let x := if row.key = OD.RAW_WINDOW then s.rawRead p e else s.readElem p row e sel
    State.readElems p row sel n (e + 1) x.1 (out ++ be row.ty.bytes x.2)

/-- A READ_TABLE: the elements of one segment, as many as are asked for, exist and fit (R292, R293). -/
def State.readTable (s : State) (p : Nat) (r : Request) : State :=
  let ref := fieldAt r.body 0 4
  let off := fieldAt r.body 4 4
  let want := fieldAt r.body 8 2
  let no := fun a => s.answer p r 0 (be 4 s.snapId ++ be 4 ref ++ be 4 a ++ be 12 0)
  let a := readAbort ref true
  if a ≠ 0 then no a
  else match Dict.find? (ref / 256) with
    | some row =>
      if row.count ≤ off then no abOffset
      else
        let fit := 1168 / row.ty.bytes
        let n := min (min (if want = 0 then fit else want) fit) (row.count - off)
        let x := State.readElems p row (ref % 256) n off s []
        x.1.answer p r 0 (be 4 s.snapId ++ be 4 ref ++ be 4 0 ++ be 4 row.count ++ be 4 off ++ be 2 n ++ be 2 row.ty.bytes ++ x.2)
    | none => s

/-- READ_TABLE (R292). -/
def execReadTable (path : Path) (s : State) : Host.Outcome State Fault Refusal :=
  s.serves path.val 3 (fun r s => s.readTable path.val r)

/-- Elements written in ascending order up to the first refusal: the state and how many were written (R294). -/
def State.writeElems (p auth : Nat) (row : ObjRow) : List (List Byte) → Nat → State → Nat → State × Nat
  | [], _, s, done => (s, done)
  | v :: l, e, s, done =>
    let s := if row.key = OD.RAW_WINDOW then s.rawWrite p auth e (beNat v) else s.writeVal p auth row e (beNat v)
    if s.toCore.result ≠ 0 then (s, done) else State.writeElems p auth row l (e + 1) s (done + 1)

/-- The abort of a WRITE_TABLE as a whole (R287, R288, R292). -/
def tableAbort (ref off count size : Nat) : Nat :=
  let a := writeAbort ref true
  if a ≠ 0 then a
  else match Dict.find? (ref / 256) with
    | some row => if size ≠ row.ty.bytes then abLength else if row.count ≤ off ∨ row.count < off + count then abOffset else 0
    | none => 0

/-- A WRITE_TABLE (R292, R294). -/
def State.writeTable (s : State) (p : Nat) (r : Request) : State :=
  let ref := fieldAt r.body 0 4
  let off := fieldAt r.body 4 4
  let count := fieldAt r.body 8 2
  let size := fieldAt r.body 10 2
  let a := tableAbort ref off count size
  let out := fun (s : State) a done => s.answer p r 0 (be 4 ref ++ be 4 a ++ be 4 off ++ be 2 done ++ be 2 0)
  if a ≠ 0 then out s a 0
  else match Dict.find? (ref / 256) with
    | some row =>
      let vs := (List.range count).map (fun i => slice r.body (12 + size * i) size)
      let x := State.writeElems p r.keySlot row vs off { s with toCore := s.toCore.ends 0 } 0
      out x.1 x.1.toCore.result x.2
    | none => s

/-- WRITE_TABLE (R294). -/
def execWriteTable (path : Path) (s : State) : Host.Outcome State Fault Refusal :=
  s.serves path.val 4 (fun r s => s.writeTable path.val r)

/-! ### COMMIT and SNAP (R190, R295) -/

/-- The instant a TIME64 field asks for; an invalid one is no frame boundary (R23, R24). -/
def askedInstant (v : Nat) : Instant :=
  if time64Valid v then ofTime64 v else ofTime64 v / frameUnits * frameUnits + 1

/-- A COMMIT (R190, R295). -/
def State.commitMsg (s : State) (p : Nat) (r : Request) : State :=
  let c := s.toCore.commit p (askedInstant (fieldAt r.body 0 14))
  let s := { s with toCore := c }
  if c.result = 0 then s.answer p r 0 (be 4 (c.rd OD.COMMIT_ID) ++ be 14 (c.rd OD.BEGIN_AT) ++ be 2 0)
  else s.answer p r c.result (be 20 0)

/-- COMMIT (R190). -/
def execCommit (path : Path) (s : State) : Host.Outcome State Fault Refusal :=
  s.serves path.val 5 (fun r s => s.commitMsg path.val r)

/-- A snapshot put in its place, earliest first. -/
def insertSnap (x : Nat × Instant) : List (Nat × Instant) → List (Nat × Instant)
  | [] => [x]
  | y :: l => if x.2 < y.2 then x :: y :: l else y :: insertSnap x l

/-- A request for a snapshot: its SNAP_ID and its instant, or an abort (R41, R295). -/
def State.snapAt (s : State) (v : Nat) : State × Nat × Nat × Instant :=
  let t := if v = 0 then boundaryFrom (s.toCore.now + 2 * frameUnits) else askedInstant v
  if s.toCore.timeState = tsFree then (s, abFree, 0, 0)
  else if isBoundary t = false ∨ s.toCore.now + 86400 * secondUnits < t then (s, abValue, 0, 0)
  else if t < s.toCore.now + 2 * frameUnits then (s, abLead, 0, 0)
  else match s.snaps.find? (fun x => x.2 == t) with
    | some x => (s, 0, x.1, t)
    | none =>
      if 4 ≤ s.snaps.length then (s, abResource, 0, 0)
      else ({ s with snapIds := s.snapIds + 1, snaps := insertSnap (s.snapIds + 1, t) s.snaps }, 0, s.snapIds + 1, t)

/-- A SNAP (R295). -/
def State.snapMsg (s : State) (p : Nat) (r : Request) : State :=
  let x := s.snapAt (fieldAt r.body 0 14)
  if x.2.1 = 0 then x.1.answer p r 0 (be 4 x.2.2.1 ++ be 14 (time64 x.2.2.2) ++ be 2 0) else x.1.answer p r x.2.1 (be 20 0)

/-- SNAP (R295). -/
def execSnap (path : Path) (s : State) : Host.Outcome State Fault Refusal :=
  s.serves path.val 6 (fun r s => s.snapMsg path.val r)

/-- The copy that every bank has finished comes into force (R385). -/
def State.snapDone (s : State) : State :=
  match s.copying with
  | some x => { s with copy := some x, copying := none }
  | none => s

/-- SNAPSHOT_COPY_DONE (R385). -/
def execSnapshotCopyDone (s : State) : Host.Outcome State Fault Refusal :=
  .next (if s.toCore.dead then s else s.snapDone)

/-! ### Supervision messages (R296, R312 to R321) -/

/-- The role that a sender holds: that of the registration with its path, address and key slot, and its SUPERVISOR_ID where
the message carries one (R312, R319). -/
def Core.roleOf (c : Core) (p : Nat) (r : Request) (id : Option Nat) : Nat :=
  match c.reg? p with
  | some x => if x.ip = r.from_.ip ∧ x.keySlot = r.keySlot ∧ (id.getD x.supId) = x.supId then x.role else 0
  | none => 0

/-- The body of a HEARTBEAT reply (R296). -/
def Core.beatBody (c : Core) (role : Nat) : List Byte :=
  let flags := c.rd OD.UNSYNCHRONIZED + 2 * bn (decide (c.rd OD.SUP_STATE = ssUnsup)) + 4 * bn c.suspendedWork
  be 1 role ++ be 1 c.power ++ be 1 flags ++ be 1 0 ++ be 14 (time64 c.now) ++ be 2 0 ++ be 4 (c.rd OD.COMMIT_ID) ++
    be 1 (c.rd OD.SET_STATE) ++ be 1 (c.rd OD.TT_STATE) ++ be 2 0

/-- A HEARTBEAT: a PERIOD outside 10 to 1,000 ms is refused and changes nothing (R296, R312). -/
def State.beat (s : State) (p : Nat) (r : Request) : State :=
  let id := fieldAt r.body 0 8
  let period := fieldAt r.body 8 2
  if period < 10 ∨ 1000 < period then s.answer p r abValue (s.toCore.beatBody (s.toCore.roleOf p r (some id)))
  else
    let c := (s.toCore.heartbeat p r.from_.ip r.keySlot id period).1
    { s with toCore := c }.answer p r 0 (c.beatBody (c.roleOf p r (some id)))

/-- HEARTBEAT (R312). -/
def execHeartbeat (path : Path) (s : State) : Host.Outcome State Fault Refusal :=
  s.serves path.val 7 (fun r s => s.beat path.val r)

/-- A STATE_DIGEST: MATCH, and what the roles make of it where the sender is registered (R315, R316). -/
def State.digestMsg (s : State) (p : Nat) (r : Request) : State :=
  let basis := fieldAt r.body 32 4
  let mine := s.toCore.moduleDigest
  let now := s.toCore.rd OD.TRAVERSES
  let matched := if basis ≠ now then 2 else if slice r.body 0 32 = mine then 0 else 1
  let own := (s.toCore.reg? p).any (fun x => x.ip == r.from_.ip && x.keySlot == r.keySlot)
  let c := if own then s.toCore.recordDigest p basis matched else s.toCore
  { s with toCore := c }.answer p r 0 (be 1 matched ++ be 3 0 ++ mine ++ be 4 now)

/-- STATE_DIGEST (R315). -/
def execStateDigest (path : Path) (s : State) : Host.Outcome State Fault Refusal :=
  s.serves path.val 8 (fun r s => s.digestMsg path.val r)

/-- The body of an EXPORT reply (R297). -/
def exportBody (id total off done : Nat) (data : List Byte) : List Byte :=
  be 4 id ++ be 4 total ++ be 4 off ++ be 2 data.length ++ be 1 done ++ be 1 0 ++ data

/-- An EXPORT: a new one ends the path's earlier one; the stream is there from the next boundary on; a traverse since the copy
ends it; its last byte completes it (R297, R321). -/
def State.exportMsg (s : State) (p : Nat) (r : Request) : State :=
  let id := fieldAt r.body 0 4
  let off := fieldAt r.body 4 4
  let own := (s.toCore.reg? p).any (fun x => x.ip == r.from_.ip && x.keySlot == r.keySlot)
  let set := fun (s : State) e => { s with motin := { s.motin with exports := e } }
  if id = 0 then
    let n := s.motin.exportIds + 1
    let s := { s with motin := { s.motin with exportIds := n, exports := Tab.set s.motin.exports p ⟨n, none, 0, true, r.from_.ip, r.keySlot⟩ } }
    s.answer p r 0 (exportBody n 0 off 0 [])
  else match Tab.find? s.motin.exports p with
    | none => s.answer p r abValue (exportBody id 0 off 0 [])
    | some x =>
      if x.id ≠ id then s.answer p r abValue (exportBody id 0 off 0 [])
      else match x.stream with
        | none => s.answer p r 0 (exportBody id 0 off 0 [])
        | some bs =>
          if s.toCore.rd OD.TRAVERSES ≠ x.basis then
            (set s (Tab.erase s.motin.exports p)).answer p r abSuperseded (exportBody id 0 off 0 [])
          else if bs.length ≤ off then s.answer p r abOffset (exportBody id bs.length off 0 [])
          else
            let d := slice bs off 1152
            if off + d.length < bs.length then s.answer p r 0 (exportBody id bs.length off 0 d)
            else
              let c := if x.counts then s.toCore.exportDone p x.basis r.from_.ip r.keySlot own else s.toCore
              (set { s with toCore := c } (Tab.erase s.motin.exports p)).answer p r 0 (exportBody id bs.length off 1 d)

/-- EXPORT (R297). -/
def execExport (path : Path) (s : State) : Host.Outcome State Fault Refusal :=
  s.serves path.val 9 (fun r s => s.exportMsg path.val r)

/-- A TAKEOVER: a claim that stands is answered once it is decided, any other at once (R319). -/
def State.takeoverMsg (s : State) (p : Nat) (r : Request) : State :=
  let x := s.toCore.takeover p r.from_.ip r.keySlot (fieldAt r.body 0 8)
  let s := { s with toCore := x.1 }
  if x.2 then { s with motin := { s.motin with takeovers := s.motin.takeovers ++ [(p, s.toCore.frames, r)] } }
  else s.answer p r 0 (be 1 (s.toCore.roleOf p r none) ++ be 3 0)

/-- TAKEOVER (R319). -/
def execTakeover (path : Path) (s : State) : Host.Outcome State Fault Refusal :=
  s.serves path.val 10 (fun r s => s.takeoverMsg path.val r)

/-- The claims of every frame that has ended are decided, and their requests answered with the role after the decision. -/
def State.decideTakeovers (s : State) : State :=
  let due := s.motin.takeovers.filter (fun x => decide (x.2.1 < s.toCore.frames))
  let s := s.exportsAfter { s with toCore := s.toCore.takeoverDecision }
  let s := { s with motin := { s.motin with takeovers := s.motin.takeovers.filter (fun x => decide (s.toCore.frames ≤ x.2.1)) } }
  due.foldl (fun (s : State) x => s.answer x.1 x.2.2 0 (be 1 (s.toCore.roleOf x.1 x.2.2 none) ++ be 3 0)) s

/-- TAKEOVER_DECISION (R319). -/
def execTakeoverDecision (s : State) : Host.Outcome State Fault Refusal :=
  .next (if s.toCore.dead then s else State.settle s.decideTakeovers)

/-- ROLE_CHANGE, after the claims of the frame that ended (R317 to R319). -/
def State.roleChange (s : State) : State :=
  let s := if s.toCore.sup.claims.any (fun x => decide (x.2.1 < s.toCore.frames)) then s.decideTakeovers else s
  { s with toCore := s.toCore.roleChange }

/-- ROLE_CHANGE (R317, R318). -/
def execRoleChange (s : State) : Host.Outcome State Fault Refusal :=
  .next (if s.toCore.dead then s else State.settle s.roleChange)

/-! ### Subscriptions (R299) -/

/-- The slot of the subscriber with a path, address and key slot. -/
def Motin.subOf (m : Motin) (p : Nat) (r : Request) : Option Nat :=
  (List.find? (fun u => decide (u.2.path = p ∧ u.2.addr = r.from_ ∧ u.2.keySlot = r.keySlot)) m.subs).map (·.1)

/-- The first of the eight places that holds no subscriber. -/
def Motin.freeSub (m : Motin) : Option Nat := (List.range 8).find? (fun k => (Tab.find? m.subs k).isNone)

/-- Sets the subscribers; SUBSCRIBERS counts them (R306). -/
def State.setSubs (s : State) (t : Tab Subscriber) : State :=
  { s with toCore := s.toCore.set OD.SUBSCRIBERS t.length, motin := { s.motin with subs := t } }

/-- The indices of a SUBSCRIBE body. -/
def subIndices (r : Request) : List Nat := (List.range (fieldAt r.body 1 1)).map (fun i => fieldAt r.body (4 + 4 * i) 2)

/-- A sender's indices become a list: a new subscriber takes a free place, one without any index gives its place up; an abort
where a limit would be passed (R299). -/
def State.subscribeTo (s : State) (p : Nat) (r : Request) (l : List Nat) : State × Nat :=
  if 32 < l.length then (s, abResource)
  else match s.motin.subOf p r with
    | some k =>
      if l.isEmpty then (s.setSubs (Tab.erase s.motin.subs k), 0)
      else match Tab.find? s.motin.subs k with
        | some u => (s.setSubs (Tab.set s.motin.subs k { u with indices := l }), 0)
        | none => (s, 0)
    | none =>
      if l.isEmpty then (s, 0)
      else match s.motin.freeSub with
        | some k => (s.setSubs (Tab.set s.motin.subs k ⟨p, r.from_, r.keySlot, l, 0, 0, [], s.toCore.up⟩), 0)
        | none => (s, abResource)

/-- The indices in force for a sender. -/
def Motin.indicesOf (m : Motin) (p : Nat) (r : Request) : List Nat :=
  (((m.subOf p r).bind (Tab.find? m.subs)).map (·.indices)).getD []

/-- A SUBSCRIBE (R299); one with too many indices is refused with its full body (R420). -/
def State.subscribeMsg (s : State) (p : Nat) (r : Request) : State :=
  let old := s.motin.indicesOf p r
  let new := subIndices r
  let x := if 32 < fieldAt r.body 1 1 then (s, abCount) else match fieldAt r.body 0 1 with
    | 1 => s.subscribeTo p r (old ++ new.eraseDups.filter (fun i => !old.contains i))
    -- FFFFh stands for every index
    | 2 => s.subscribeTo p r (old.filter (fun i => !new.contains i && !new.contains 0xFFFF))
    | 3 => s.subscribeTo p r []
    | 4 => (s, 0)
    | _ => (s, abValue)
  let l := x.1.motin.indicesOf p r
  x.1.answer p r x.2 (be 1 l.length ++ be 3 0 ++ l.flatMap (fun i => be 2 i ++ be 2 0))

/-- SUBSCRIBE (R299). -/
def execSubscribe (path : Path) (s : State) : Host.Outcome State Fault Refusal :=
  s.serves path.val 11 (fun r s => s.subscribeMsg path.val r)

/-- A subscription lapses after 60 s without an authenticated message from its subscriber (R299). -/
def State.lapse (s : State) (k : Nat) : State :=
  match Tab.find? s.motin.subs k with
  | some u => if u.lastSeen + 60 * secondUnits ≤ s.toCore.up then s.setSubs (Tab.erase s.motin.subs k) else s
  | none => s

/-- SUBSCRIPTION_LAPSE (R299). -/
def execSubscriptionLapse (subscriber : Fin 8) (s : State) : Host.Outcome State Fault Refusal :=
  .next (if s.toCore.dead then s else s.lapse subscriber.val)

/-! ### ABORT and the reply cache (R285, R298) -/

/-- Whether two requests come from one sender (R283). -/
def sameOrigin (x y : Request) : Bool := x.from_.ip == y.from_.ip && x.keySlot == y.keySlot

/-- An ABORT: removes a queued request of its sender, which is then answered, or ends the sender's export (R283, R298). -/
def State.abortMsg (s : State) (p : Nat) (r : Request) : State :=
  let id := fieldAt r.body 0 4
  let out := fun (s : State) code found => s.answer p r code (be 1 found ++ be 3 0)
  match fieldAt r.body 4 1 with
  | 1 =>
    match (s.motin.queue p).find? (fun x => x.id == id && sameOrigin x r) with
    | some x =>
      let s := { s with motin := s.motin.setQueue p ((s.motin.queue p).erase x) }
      out (s.refuse p x abNotAttempted) 0 1
    | none => out s 0 0
  | 2 =>
    if (Tab.find? s.motin.exports p).any (fun x => x.ip == r.from_.ip && x.keySlot == r.keySlot) then
      out { s with motin := { s.motin with exports := Tab.erase s.motin.exports p } } 0 1
    else out s 0 0
  | _ => out s abValue 0

/-- ABORT (R298). -/
def execAbort (path : Path) (s : State) : Host.Outcome State Fault Refusal :=
  s.serves path.val 13 (fun r s => s.abortMsg path.val r)

/-- Kept replies of 10 s and more leave the cache (R285). -/
def State.cacheExpire (s : State) (p : Nat) : State :=
  let l := (s.motin.kept p).filter (fun k => decide (s.toCore.up < k.at_ + 10 * secondUnits))
  { s with motin := { s.motin with cache := Tab.put s.motin.cache p l [] } }

/-- REPLY_CACHE_EXPIRE (R285). -/
def execReplyCacheExpire (path : Path) (s : State) : Host.Outcome State Fault Refusal :=
  .next (if s.toCore.dead then s else s.cacheExpire path.val)

/-! ### Writes with a row of their own -/

/-- A write of the supervisor of a path outside a message: its key slot is that of the path's registration, and it is done
with its reply (R282, R283, R311, R339, R375). -/
def State.byPath (s : State) (p : Nat) (f : Nat → State → State) : State :=
  if s.toCore.power = psHalted ∨ s.toCore.rd OD.BOOT_STATE = 0 ∨ s.toCore.isActive p = false then
    { s with toCore := s.toCore.ends abRole }
  else (f (((s.toCore.reg? p).map (·.keySlot)).getD 0) { s with toCore := s.toCore.ends 0 }).afterReply

/-- A command that is such a write. -/
abbrev State.writes (s : State) (p : Nat) (f : Nat → State → State) : Host.Outcome State Fault Refusal :=
  .next (if s.toCore.dead then s else State.settle (s.byPath p f))

/-- KEY_WRITE (R282). -/
def execKeyWrite (path : Path) (slot : Fin 4) (value : BitVec 256) (s : State) : Host.Outcome State Fault Refusal :=
  s.writes path.val (fun auth s => s.writeKey auth slot.val value.toNat)

/-- A write of an element by object number: the checks of a WRITE or a WRITE_TABLE, then the value (R287, R292). -/
def State.writeReg (s : State) (p auth obj e v : Nat) : State :=
  let table := decide (((Dict.find? obj).map (·.count)).getD 0 ≠ 0)
  let a := writeAbort (obj * 256) table
  let core := fun c => { s with toCore := c }
  if a ≠ 0 then core (s.toCore.ends a)
  else match Dict.find? obj with
    | some r =>
      if 256 ^ r.ty.bytes ≤ v then core (s.toCore.ends abLength)
      else if r.size ≤ e then core (s.toCore.ends abOffset)
      else if r.key = OD.RAW_WINDOW then s.rawWrite p auth e v
      else s.writeVal p auth r e v
    | none => s

/-- MGT_ADDRESS_WRITE (R311). -/
def execMgtAddressWrite (path port : Path) (sub value : Nat) (s : State) : Host.Outcome State Fault Refusal :=
  s.writes path.val (fun auth s =>
    if 2 ≤ sub ∧ sub ≤ 7 then s.writeReg path.val auth (mgtObj port.val sub) 0 value
    else { s with toCore := s.toCore.ends abNoSub })

/-- REGISTER_WRITE (R287). -/
def execRegisterWrite (path : Path) (object element value : Nat) (s : State) : Host.Outcome State Fault Refusal :=
  s.writes path.val (fun auth s => s.writeReg path.val auth object element value)

/-- RAW_WINDOW_WRITE (R304). -/
def execRawWindowWrite (path : Path) (address word : BitVec 32) (s : State) : Host.Outcome State Fault Refusal :=
  s.writes path.val (fun auth s => s.writeReg path.val auth OD.RAW_WINDOW address.toNat word.toNat)

/-- RAW_LOCATE_WRITE (R302). -/
def execRawLocateWrite (path : Path) (value : BitVec 32) (s : State) : Host.Outcome State Fault Refusal :=
  s.writes path.val (fun auth s => s.writeReg path.val auth OD.RAW_LOCATE 0 value.toNat)

end Sys2Proof.Machine
end

