-- ==== Sys2Proof/Machine/Frame.lean ====
section
/-! DEFINITION. The frame boundary in the order of R21, and the step of module time (R7, R21, R38 to R40). -/

namespace Sys2Proof.Machine

/-! ### Step 2: RW writes (R7) -/

/-- A profile value of GLIDE_PROFILE comes into force, and its 25 dB ramp with it (R208). -/
def Core.glideApply (c : Core) (e v : Nat) : Core :=
  let c := c.wr OD.GLIDE_PROFILE e v
  let w := fun j => f32Pos (c.rd OD.GLIDE_PROFILE (4 * (e / 4) + j))
  match w 0, w 1, w 2 with
  | some x, some y, some z => c.wr OD.GLIDE_RAMP_TIME (e / 4) (rampUnits db25 x y z / unitsPerNs)
  | _, _, _ => c

/-- A PORT_CONFIG entry comes into force: a port that it disables loses its queues (R229, R273). -/
def Core.portApply (c : Core) (p v : Nat) : Core :=
  let c := if c.portEnabled p ∧ ¬ portOn v then
      let c := if (c.port p).up then c.occur 6 p else c
      (c.flushPort p).setPort p PortRec.reset
    else if portOn v ∧ ¬ c.portEnabled p then c.restartHold p else c
  c.wr OD.PORT_CONFIG p v

/-- An accepted write that this boundary does not apply yet: BW_WINDOW waits for a whole second, a retraining for Run
(R376, R382). -/
def Core.waits (c : Core) (k : Nat) : Bool :=
  (decide (okeyObj k = OD.BW_WINDOW) && decide (c.now % secondUnits ≠ 0)) ||
  (decide (okeyObj k = OD.LANE_BOOT_FAILED) && decide (c.power ≠ psRun))

/-- One accepted RW write takes effect (R7, R287); a new BW_WINDOW ends the last window of the old one first (R382). -/
def Core.apply (c : Core) (k v : Nat) : Core :=
  let obj := okeyObj k
  let e := okeyElem k
  if obj = OD.SOURCE_CONFIG then c.sourceConfigApply e v
  else if obj = OD.RAW_LOCATE then c.locateApply e v
  else if obj = OD.TIME_SOURCE then c.timeSourceApply v
  else if obj = OD.PPS_OUT_MODE then c.ppsModeApply v
  else if obj = OD.PTP_ENABLE_1302 then c.ptpEnableApply 0 v
  else if obj = OD.PTP_ENABLE_1302 + 256 then c.ptpEnableApply 1 v
  else if obj = OD.QUEUE_CONFIG then (c.queueApply e v).egressWritten k
  else if obj = OD.METER_CONFIG then (c.meterApply e v).egressWritten k
  else if obj = OD.SHAPER_CONFIG then (c.shaperApply e v).egressWritten k
  else if obj = OD.BUF_PROFILE then (c.wr obj e v).bufferChanged
  else if obj = OD.PORT_CONFIG then c.portApply e v
  else if obj = OD.GLIDE_PROFILE then c.glideApply e v
  else if obj = OD.PERF_CONFIG then c.perfApply e v
  else if obj = OD.TEST_CONFIG then c.testApply e v
  else if obj = OD.BW_WINDOW then ((c.bwEnd 0).set obj v).bwPeaks
  else if obj % 256 = 1 ∧ 0x2720 ≤ obj / 256 ∧ obj / 256 ≤ 0x2723 then c.seqEnableApply (obj / 256 - 0x2720) v
  else c.wr obj e v

/-- Every RW write accepted before the boundary takes effect, in order (R7, R21). -/
def Core.applyWrites (c : Core) : Core :=
  c.pend.foldl (fun (c : Core) p =>
    if c.waits p.1 then { c with pend := c.pend ++ [p] } else c.apply p.1 p.2) { c with pend := [] }

/-! ### The parts of a boundary -/

/-- What the frame that ends leaves: its slots are over; samples, counters of locked checkers and of what no command stands for. -/
def Core.frameEnds (c : Core) : Core :=
  let c := ((c.slotsEnd.advanceTo c.frameEnd).sampleFrame).chkCountAll.countUnseen
  { c with frames := c.frames + 1, pkt := { c.pkt with epoch := 0 } }

/-- What a loop reports from a boundary on: its state; a cause only in Hold, and no expired Coast after the transition to
Acquire (R72, R75). -/
def Loop.publish (l : Loop) : Loop :=
  if l.leaving then l
  else { l with rep := l.st, cause := if l.st = .hold then l.cause else 0
                expired := l.expired && decide (l.st = .coast ∨ l.st = .hold) }

/-- The states that loops report from this boundary on (R72). -/
def Core.publish (c : Core) : Core := c.mapLoops (fun _ => true) (fun _ l => l.publish)

/-- The configuration set that a boundary leaves active: that of a traverse which executes at it, where one does (R99). -/
def Core.setAfter (c : Core) : Tab Nat :=
  match c.trav.cur with
  | some k => if k.suspended ∨ k.linkFailed ∨ c.now < k.t then c.act else c.newSet k
  | none => c.act

/-- Step 2 of R21: writes, calibration values, changes of power state, microcode, which acts before a traverse at the same
boundary and is checked against the set that the boundary leaves active (R99). -/
def Core.stepTwo (c : Core) : Core :=
  let c := (c.applyWrites.calApply).trimFrame.fringeBoundary
  let c := c.injectBoundary.proveBoundary.slewStep
  let c := if c.time.lockAtBoundary then
      { c.setTimeState tsLocked with time := { (c.setTimeState tsLocked).time with lockAtBoundary := false } } else c
  let c := c.releaseBoundary.powerBegin
  c.activate c.setAfter

/-- Step 3 of R21: the sets swap where a traverse names the boundary, the elements of a following transition of the timetable
freeze, coefficient commits (R20, R80, R187, R215). -/
def Core.stepThree (c : Core) : Core :=
  let c := c.traverseBegin.freeze
  let lanes := (c.trav.cur.map (·.lanes)).getD []
  let d := c.commitAt.ttAt.traverseBegin.freeze
  let ran := decide (d.rd OD.TRAVERSES ≠ c.rd OD.TRAVERSES)
  let d := if ran then (d.gatesSwap c.act c.listGatesBefore).proveInterrupt lanes else d
  let d := if d.pwr.coefFrom.isSome then d.coefCommits d.act else d
  let d := d.thawBoundary
  [0, 1, 2, 3].foldl (fun (d : Core) k => (d.linkBoundary k).ovldBoundary k) d

/-- Step 4 of R21: gate lists and ports under the configuration now active. -/
def Core.stepFour (c : Core) : Core :=
  c.enabledPorts.foldl (fun (c : Core) p => ((c.portBoundary p).tryUp p).gateEdges p) c.gatesStart

/-- Steps 2 to 5 of R21. -/
def Core.boundary (c : Core) : Core := (c.publish.stepTwo.stepThree.stepFour).timeTriggers.loopEdges

/-- The requests handled in the frame that ends join the performance counters that count them (R381). -/
def State.countHandled (s : State) : State :=
  { s with toCore := s.motin.handled.foldl (fun (c : Core) p => c.occur 0x0B p.1 p.2) s.toCore, motin := { s.motin with handled := [] } }

/-- Step 1 of R21: a SNAP that names the boundary copies the banks as they stood just before it, the label of the frame among them
(R383). -/
def State.snapStep (s : State) : State :=
  match s.snaps.find? (fun x => decide (x.2 = s.toCore.now)) with
  | some x => { s with copying := some (x.1, x.2, { s.toCore with now := s.toCore.now - 1 }), snaps := s.snaps.filter (fun y => y.1 != x.1) }
  | none => s

/-- Exports that wait take their copy of the active set (R297). -/
def State.exportCopies (s : State) : State :=
  if s.motin.exports.all (fun p => p.2.stream.isSome) then s
  else
    let bs := s.toCore.exportStream
    let n := s.toCore.rd OD.TRAVERSES
    { s with motin := { s.motin with exports := s.motin.exports.map (fun p =>
        if p.2.stream.isSome then p else (p.1, { p.2 with stream := some bs, basis := n })) } }

/-! ### Events (R300) -/

/-- The body of an EVENT message. -/
def eventBody (seq lost : Nat) (e : Event) : List Byte :=
  be 4 seq ++ be 2 (min lost 0xFFFF) ++ be 2 e.kind ++ be 4 (e.origin * 256) ++ be 14 (time64 e.time) ++ be 2 e.data.length ++ e.data

/-- One event goes out to a subscriber. -/
def State.sendEvent (s : State) (k : Nat) (e : Event) : State :=
  match Tab.find? s.motin.subs k with
  | some u =>
    let s := s.send u.path u.addr u.keySlot 12 0 0 (eventBody (u.seq + 1) u.lost e)
    { s with toCore := s.toCore.inc64 OD.EVENTS_SENT
             motin := { s.motin with subs := Tab.set s.motin.subs k { u with seq := u.seq + 1, lost := 0, queue := u.queue.drop 1 } } }
  | none => s

/-- Every event that waits goes out, subscriber by subscriber (log 40). -/
def State.sendEvents (s : State) : State :=
  s.motin.subs.foldl (fun (s : State) p => p.2.queue.foldl (fun s e => s.sendEvent p.1 e) s) s

/-- The next frame boundary: a restart that is due takes place of everything else, once the events that wait are sent; otherwise the steps of R21 in their order
(R21, R364). -/
def State.frame (s : State) : State :=
  let s := { s with toCore := s.toCore.frameEnds }
  if s.toCore.boot.restart.any (fun x => decide (x.2 ≤ s.toCore.now)) then s.sendEvents.restartDue
  else
    let s := s.countHandled.snapStep
    ({ s with toCore := s.toCore.boundary } : State).exportCopies

/-- FRAME_BOUNDARY (R21). -/
def execFrameBoundary (s : State) : Host.Outcome State Fault Refusal :=
  .next (if s.toCore.dead then s else s.frame.settle.sendEvents)

/-! ### The step of module time (R38 to R40) -/

/-- What a step does to the module: the label of the next boundary changes by the step, work in a skipped interval is
cancelled, the remainder is slewed. -/
def Core.timeStep (c : Core) (d : Int) : Core :=
  let was := c.frameEnd
  let rest := c.time.slew
  let c := c.gatesStart
  let c := { c with now := ((c.now : Int) + d).toNat, time := { c.time with dueStep := none } }
  let c := (c.inc OD.STEP_COUNT).emit 3 OD.STEP_COUNT (be 8 (ofSigned 64 d))
  let c := (c.setTimeState tsAcquiring).slew rest
  let c := if c.trav.cur.any (fun k => k.slot.isNone && !k.suspended && decide (was ≤ k.t ∧ k.t < c.frameEnd)) then c.endCommit 3 else c
  (((c.shiftStamps d).ttTimeStep).shiftStaged d).triggersStep was

/-- TIME_STEP: where a step is due it is applied at the end of the frame, before the boundary (R38 to R40). -/
def State.timeStep (s : State) : State :=
  match s.toCore.time.dueStep with
  | none => s
  | some d =>
    let was := s.toCore.frameEnd
    let c := s.toCore.timeStep d
    let skipped := fun (x : Nat × Instant) => decide (was ≤ x.2 ∧ x.2 < c.frameEnd)
    -- a skipped SNAP is reported by the source of a skipped commit, once for each (R39; the spec names no form, log 55)
    { s with toCore := (s.snaps.filter skipped).foldl (fun (c : Core) _ => c.pulse 261) c
             snaps := s.snaps.filter (fun x => !skipped x) }

/-- TIME_STEP (R38). -/
def execTimeStep (s : State) : Host.Outcome State Fault Refusal :=
  .next (if s.toCore.dead then s else s.timeStep.settle)

end Sys2Proof.Machine
end

