-- ==== Sys2Proof/Machine/BootStep.lean ====
section
/-! DEFINITION. The ends of the boot steps: what passes, what fails, and the self-restart that follows (R366, R368, R369, R374,
R375). -/

namespace Sys2Proof.Machine

/-- BOOT_STEP_END: the running step ends (R366). A step that fails sends its events, and then a self-restart follows (R368, R375);
a warm restart in which S12 needs its alternate restarts too, and counts no failure (R374). -/
def State.bootStep (s : State) (r : BootReport) : State :=
  let k := s.toCore.rd OD.BOOT_STEP
  if s.toCore.stepDue k = false then s
  else
    let c := { s.toCore with boot := { s.toCore.boot with bootMs := s.toCore.boot.bootMs + r.tookMs } }
    match c.stepFails k r with
    | some d =>
      let f := c.failStep k d r.failedLinks.toNat
      let s := { s with toCore := f.1.collect 4 }
      -- a firing that enters Halted leaves it only by power-on (R364)
      if f.2 ∧ s.toCore.power ≠ psHalted then s.settle.sendEvents.restart 5 else s
    | none =>
      let keys := decide (k = 2) && c.altNow 2 && r.keyLost
      let t := { s with toCore := c.passStep k r
                        motin := if keys then s.motin.keysLost c.boot.nextSeq else s.motin }
      if c.lanesNeedAlt k r then t.settle.sendEvents.restart 5 else t

/-- BOOT_STEP_END (R366). -/
def execBootStepEnd (report : BootReport) (s : State) : Host.Outcome State Fault Refusal :=
  .next (if s.toCore.dead then s else State.settle (s.bootStep report))

/-- S10 ends when BOOT_TIME_WAIT has elapsed, in whatever time state it finds (R366). -/
def State.bootTimeWait (s : State) : State :=
  let c := s.toCore
  if c.rd OD.BOOT_STEP = 10 ∧ c.boot.stepUp + nsU (c.rd OD.BOOT_TIME_WAIT) ≤ c.up then
    s.bootStep ⟨true, false, [], 0, 0, 0, [], [], (c.up - c.boot.stepUp) / nsU 1000000⟩
  else s

/-- BOOT_TIME_WAIT_EXPIRE (R366). -/
def execBootTimeWaitExpire (s : State) : Host.Outcome State Fault Refusal :=
  .next (if s.toCore.dead then s else State.settle s.bootTimeWait)

end Sys2Proof.Machine
end

