-- ==== Sys2Proof/Machine/Dispatch.lean ====
section
/-! DEFINITION. The commands and their meanings, one arm each. -/

namespace Sys2Proof.Machine

def exec (i : Instr) (s : State) : Host.Outcome State Fault Refusal :=
  match i with
  | .frameBoundary => Sys2Proof.Machine.execFrameBoundary s
  | .caboose coach cycles => Sys2Proof.Machine.execCaboose coach cycles s
  | .cabooseOverrun coach learned => Sys2Proof.Machine.execCabooseOverrun coach learned s
  | .loopSlot te => Sys2Proof.Machine.execLoopSlot te s
  | .slotOverrun coach => Sys2Proof.Machine.execSlotOverrun coach s
  | .endLoop coach => Sys2Proof.Machine.execEndLoop coach s
  | .ldm coach => Sys2Proof.Machine.execLdm coach s
  | .nrm coach => Sys2Proof.Machine.execNrm coach s
  | .phs coach => Sys2Proof.Machine.execPhs coach s
  | .err coach => Sys2Proof.Machine.execErr coach s
  | .biq coach => Sys2Proof.Machine.execBiq coach s
  | .sat coach => Sys2Proof.Machine.execSat coach s
  | .ffw coach => Sys2Proof.Machine.execFfw coach s
  | .prf coach => Sys2Proof.Machine.execPrf coach s
  | .fel coach => Sys2Proof.Machine.execFel coach s
  | .dth coach => Sys2Proof.Machine.execDth coach s
  | .cst coach => Sys2Proof.Machine.execCst coach s
  | .drv coach => Sys2Proof.Machine.execDrv coach s
  | .jmp coach => Sys2Proof.Machine.execJmp coach s
  | .loopLock te => Sys2Proof.Machine.execLoopLock te s
  | .acquireTimeout te => Sys2Proof.Machine.execAcquireTimeout te s
  | .followingErrorTrip te => Sys2Proof.Machine.execFollowingErrorTrip te s
  | .coastExpiry te => Sys2Proof.Machine.execCoastExpiry te s
  | .loopSaturationTimeout te => Sys2Proof.Machine.execLoopSaturationTimeout te s
  | .unobservableTimeout te => Sys2Proof.Machine.execUnobservableTimeout te s
  | .litStateChange input => Sys2Proof.Machine.execLitStateChange input s
  | .monitorResult channel word => Sys2Proof.Machine.execMonitorResult channel word s
  | .monitorResultMissing channel => Sys2Proof.Machine.execMonitorResultMissing channel s
  | .linkSamplesMissing link => Sys2Proof.Machine.execLinkSamplesMissing link s
  | .stagingEntry die entry => Sys2Proof.Machine.execStagingEntry die entry s
  | .deglitchLoad te => Sys2Proof.Machine.execDeglitchLoad te s
  | .codeApply te => Sys2Proof.Machine.execCodeApply te s
  | .linkFlitReplay link => Sys2Proof.Machine.execLinkFlitReplay link s
  | .linkDown link => Sys2Proof.Machine.execLinkDown link s
  | .linkReturn link lanes half => Sys2Proof.Machine.execLinkReturn link lanes half s
  | .linkRestoreSnap link => Sys2Proof.Machine.execLinkRestoreSnap link s
  | .ptpSync path at_ origin correction => Sys2Proof.Machine.execPtpSync path at_ origin correction s
  | .ptpAnnounce path dataset utcOffset => Sys2Proof.Machine.execPtpAnnounce path dataset utcOffset s
  | .ptpDelayResp path received correction => Sys2Proof.Machine.execPtpDelayResp path received correction s
  | .ptpDelayReqSend path => Sys2Proof.Machine.execPtpDelayReqSend path s
  | .ptpPdelayReq path at_ => Sys2Proof.Machine.execPtpPdelayReq path at_ s
  | .ptpPdelayResp path at_ received sent correction => Sys2Proof.Machine.execPtpPdelayResp path at_ received sent correction s
  | .ptpUnsupportedMessage path => Sys2Proof.Machine.execPtpUnsupportedMessage path s
  | .ppsInEdge rising at_ => Sys2Proof.Machine.execPpsInEdge rising at_ s
  | .ppsOutRise => Sys2Proof.Machine.execPpsOutRise s
  | .ppsOutFall => Sys2Proof.Machine.execPpsOutFall s
  | .lossTimeout => Sys2Proof.Machine.execLossTimeout s
  | .slewEnd => Sys2Proof.Machine.execSlewEnd s
  | .timeStep => Sys2Proof.Machine.execTimeStep s
  | .timeSet path value => Sys2Proof.Machine.execTimeSet path value s
  | .stepAccept path value => Sys2Proof.Machine.execStepAccept path value s
  | .timeSourceWrite path value => Sys2Proof.Machine.execTimeSourceWrite path value s
  | .motinDatagram path at_ source bytes => Sys2Proof.Machine.execMotinDatagram path at_ source bytes s
  | .read path => Sys2Proof.Machine.execRead path s
  | .write path => Sys2Proof.Machine.execWrite path s
  | .readTable path => Sys2Proof.Machine.execReadTable path s
  | .writeTable path => Sys2Proof.Machine.execWriteTable path s
  | .commit path => Sys2Proof.Machine.execCommit path s
  | .snap path => Sys2Proof.Machine.execSnap path s
  | .heartbeat path => Sys2Proof.Machine.execHeartbeat path s
  | .stateDigest path => Sys2Proof.Machine.execStateDigest path s
  | .export_ path => Sys2Proof.Machine.execExport path s
  | .takeover path => Sys2Proof.Machine.execTakeover path s
  | .subscribe path => Sys2Proof.Machine.execSubscribe path s
  | .abort path => Sys2Proof.Machine.execAbort path s
  | .subscriptionLapse subscriber => Sys2Proof.Machine.execSubscriptionLapse subscriber s
  | .replyCacheExpire path => Sys2Proof.Machine.execReplyCacheExpire path s
  | .keyWrite path slot value => Sys2Proof.Machine.execKeyWrite path slot value s
  | .mgtAddressWrite path port sub value => Sys2Proof.Machine.execMgtAddressWrite path port sub value s
  | .registerWrite path object element value => Sys2Proof.Machine.execRegisterWrite path object element value s
  | .rawWindowWrite path address word => Sys2Proof.Machine.execRawWindowWrite path address word s
  | .rawLocateWrite path value => Sys2Proof.Machine.execRawLocateWrite path value s
  | .holdClear path value => Sys2Proof.Machine.execHoldClear path value s
  | .ucodeImageWrite path element word => Sys2Proof.Machine.execUcodeImageWrite path element word s
  | .loadVerify path => Sys2Proof.Machine.execLoadVerify path s
  | .loadVerifyArm path => Sys2Proof.Machine.execLoadVerifyArm path s
  | .loadAbandon path => Sys2Proof.Machine.execLoadAbandon path s
  | .ucodeVerifyEnd => Sys2Proof.Machine.execUcodeVerifyEnd s
  | .activateAtWrite path value => Sys2Proof.Machine.execActivateAtWrite path value s
  | .ownerKeyWrite path value => Sys2Proof.Machine.execOwnerKeyWrite path value s
  | .ownerKeyClear path value => Sys2Proof.Machine.execOwnerKeyClear path value s
  | .ceilingWrite path te value => Sys2Proof.Machine.execCeilingWrite path te value s
  | .clearCodeWrite path te value => Sys2Proof.Machine.execClearCodeWrite path te value s
  | .clearNAssert widthNs => Sys2Proof.Machine.execClearNAssert widthNs s
  | .clearNRelease => Sys2Proof.Machine.execClearNRelease s
  | .hvOvervoltage dies => Sys2Proof.Machine.execHvOvervoltage dies s
  | .elsLightLoss fiber => Sys2Proof.Machine.execElsLightLoss fiber s
  | .surveyScan => Sys2Proof.Machine.execSurveyScan s
  | .surveyConversionDone converter result ovld clip => Sys2Proof.Machine.execSurveyConversionDone converter result ovld clip s
  | .surveyConversionStart converter at_ => Sys2Proof.Machine.execSurveyConversionStart converter at_ s
  | .surveyTrigEdge rising at_ => Sys2Proof.Machine.execSurveyTrigEdge rising at_ s
  | .seqStart path seq value => Sys2Proof.Machine.execSeqStart path seq value s
  | .seqEnableWrite path seq value => Sys2Proof.Machine.execSeqEnableWrite path seq value s
  | .injectRequest path value => Sys2Proof.Machine.execInjectRequest path value s
  | .fringeCalCmd path value => Sys2Proof.Machine.execFringeCalCmd path value s
  | .fringeCalEnd result unreached => Sys2Proof.Machine.execFringeCalEnd result unreached s
  | .calRequest path value => Sys2Proof.Machine.execCalRequest path value s
  | .trimStart te bin => Sys2Proof.Machine.execTrimStart te bin s
  | .trimRunEnd te bin pair run => Sys2Proof.Machine.execTrimRunEnd te bin pair run s
  | .monSweepStart => Sys2Proof.Machine.execMonSweepStart s
  | .tenderOverlapStart group channel => Sys2Proof.Machine.execTenderOverlapStart group channel s
  | .tenderRunEnd group run => Sys2Proof.Machine.execTenderRunEnd group run s
  | .surveyCalStart converter => Sys2Proof.Machine.execSurveyCalStart converter s
  | .surveyCalEnd converter run => Sys2Proof.Machine.execSurveyCalEnd converter run s
  | .calNotCurrent te => Sys2Proof.Machine.execCalNotCurrent te s
  | .mapEntryWrite path output value => Sys2Proof.Machine.execMapEntryWrite path output value s
  | .solveCmd path value => Sys2Proof.Machine.execSolveCmd path value s
  | .colSolveEnd => Sys2Proof.Machine.execColSolveEnd s
  | .slotWrite path settings element value => Sys2Proof.Machine.execSlotWrite path settings element value s
  | .slotVerify path slot => Sys2Proof.Machine.execSlotVerify path slot s
  | .slotLoad path slot => Sys2Proof.Machine.execSlotLoad path slot s
  | .slotSave path slot => Sys2Proof.Machine.execSlotSave path slot s
  | .slotErase path slot => Sys2Proof.Machine.execSlotErase path slot s
  | .commitCancel path value => Sys2Proof.Machine.execCommitCancel path value s
  | .glideRampDownStart output => Sys2Proof.Machine.execGlideRampDownStart output s
  | .traverseBegin => Sys2Proof.Machine.execTraverseBegin s
  | .copyBackDone => Sys2Proof.Machine.execCopyBackDone s
  | .retiredSetRelease => Sys2Proof.Machine.execRetiredSetRelease s
  | .guardOpen => Sys2Proof.Machine.execGuardOpen s
  | .guardMinEnd => Sys2Proof.Machine.execGuardMinEnd s
  | .guardRelockTimeout => Sys2Proof.Machine.execGuardRelockTimeout s
  | .ttArm path => Sys2Proof.Machine.execTtArm path s
  | .ttStop path => Sys2Proof.Machine.execTtStop path s
  | .ttReplace path => Sys2Proof.Machine.execTtReplace path s
  | .ttResume path => Sys2Proof.Machine.execTtResume path s
  | .ttTrace path => Sys2Proof.Machine.execTtTrace path s
  | .portConfigWrite path port value => Sys2Proof.Machine.execPortConfigWrite path port value s
  | .laneLock lane at_ => Sys2Proof.Machine.execLaneLock lane at_ s
  | .laneLockLoss lane => Sys2Proof.Machine.execLaneLockLoss lane s
  | .upHoldExpire port => Sys2Proof.Machine.execUpHoldExpire port s
  | .packetReceive port at_ frame => Sys2Proof.Machine.execPacketReceive port at_ frame s
  | .packetPass port => Sys2Proof.Machine.execPacketPass port s
  | .packetSecondPass pipe => Sys2Proof.Machine.execPacketSecondPass pipe s
  | .egressSchedule port at_ => Sys2Proof.Machine.execEgressSchedule port at_ s
  | .frameTxComplete port at_ => Sys2Proof.Machine.execFrameTxComplete port at_ s
  | .refillEpoch epoch => Sys2Proof.Machine.execRefillEpoch epoch s
  | .gateEntryChange port at_ => Sys2Proof.Machine.execGateEntryChange port at_ s
  | .portDownFlush port => Sys2Proof.Machine.execPortDownFlush port s
  | .queueConfigWrite path queue value => Sys2Proof.Machine.execQueueConfigWrite path queue value s
  | .classInsert path => Sys2Proof.Machine.execClassInsert path s
  | .classDelete path => Sys2Proof.Machine.execClassDelete path s
  | .classLookupShadow path => Sys2Proof.Machine.execClassLookupShadow path s
  | .classLookupActive path => Sys2Proof.Machine.execClassLookupActive path s
  | .classClear path => Sys2Proof.Machine.execClassClear path s
  | .classTableWrite path position value => Sys2Proof.Machine.execClassTableWrite path position value s
  | .flowClear path context => Sys2Proof.Machine.execFlowClear path context s
  | .flowClearAll path => Sys2Proof.Machine.execFlowClearAll path s
  | .bwWindowEnd at_ => Sys2Proof.Machine.execBwWindowEnd at_ s
  | .bwPeakClear path value => Sys2Proof.Machine.execBwPeakClear path value s
  | .faultSourceFire lines => Sys2Proof.Machine.execFaultSourceFire lines s
  | .clearSource path value => Sys2Proof.Machine.execClearSource path value s
  | .firstClear path value => Sys2Proof.Machine.execFirstClear path value s
  | .pinRearm path value => Sys2Proof.Machine.execPinRearm path value s
  | .faultPulseEnd => Sys2Proof.Machine.execFaultPulseEnd s
  | .sourceConfigWrite path source value => Sys2Proof.Machine.execSourceConfigWrite path source value s
  | .eccInject path value => Sys2Proof.Machine.execEccInject path value s
  | .throttleStep => Sys2Proof.Machine.execThrottleStep s
  | .stagedReleaseSteps => Sys2Proof.Machine.execStagedReleaseSteps s
  | .zoneOverrideWrite path zone value => Sys2Proof.Machine.execZoneOverrideWrite path zone value s
  | .powerCmdRun path => Sys2Proof.Machine.execPowerCmdRun path s
  | .powerCmdQuiet path => Sys2Proof.Machine.execPowerCmdQuiet path s
  | .powerCmdDormant path => Sys2Proof.Machine.execPowerCmdDormant path s
  | .powerChangeComplete => Sys2Proof.Machine.execPowerChangeComplete s
  | .rateGraceEnd path => Sys2Proof.Machine.execRateGraceEnd path s
  | .mgtLinkChange path rate => Sys2Proof.Machine.execMgtLinkChange path rate s
  | .heartbeatTimeout path => Sys2Proof.Machine.execHeartbeatTimeout path s
  | .digestFailureDeclare => Sys2Proof.Machine.execDigestFailureDeclare s
  | .roleChange => Sys2Proof.Machine.execRoleChange s
  | .takeoverDecision => Sys2Proof.Machine.execTakeoverDecision s
  | .powerOn bootMode => Sys2Proof.Machine.execPowerOn bootMode s
  | .resetN widthNs => Sys2Proof.Machine.execResetN widthNs s
  | .powerFail widthNs => Sys2Proof.Machine.execPowerFail widthNs s
  | .restartWarm path => Sys2Proof.Machine.execRestartWarm path s
  | .restartCold path => Sys2Proof.Machine.execRestartCold path s
  | .bootStepEnd report => Sys2Proof.Machine.execBootStepEnd report s
  | .bootTimeWaitExpire => Sys2Proof.Machine.execBootTimeWaitExpire s
  | .laneRetrain path lane value => Sys2Proof.Machine.execLaneRetrain path lane value s
  | .snapshotCopyDone => Sys2Proof.Machine.execSnapshotCopyDone s
  | .wrapClear path value => Sys2Proof.Machine.execWrapClear path value s
  | .perfConfigWrite path counter value => Sys2Proof.Machine.execPerfConfigWrite path counter value s
  | .testConfigWrite path point value => Sys2Proof.Machine.execTestConfigWrite path point value s
  | .testInject path value => Sys2Proof.Machine.execTestInject path value s
  | .testClear path value => Sys2Proof.Machine.execTestClear path value s
  | .proveStart path value => Sys2Proof.Machine.execProveStart path value s
  | .proveStop path value => Sys2Proof.Machine.execProveStop path value s
  | .proveTimeExpire => Sys2Proof.Machine.execProveTimeExpire s
  | .checkerLock point bits at_ => Sys2Proof.Machine.execCheckerLock point bits at_ s
  | .checkerLockLoss point bits errors => Sys2Proof.Machine.execCheckerLockLoss point bits errors s
  | .elsLightReturn fiber => Sys2Proof.Machine.execElsLightReturn fiber s
  | .resetNRelease bootMode => Sys2Proof.Machine.execResetNRelease bootMode s
  | .vddAuxLoss => Sys2Proof.Machine.execVddAuxLoss s
  | .tckEdge rising tms tdi trstN pins => Sys2Proof.Machine.execTckEdge rising tms tdi trstN pins s

end Sys2Proof.Machine
end

