-- ==== Sys2Proof/Safety.lean ====
section
/-! DEFINITION. The terms that claims about the machine use: when a state has nothing to settle, when a path's commands
are served, and the invariants of the Motin engine. -/

namespace Sys2Proof

/-! ### Kinds of commands -/

/-- The path of the supervisor whose write or command a row is; none for messages, events, and the two restart commands, which
the boot also takes (R283, R375). -/
def Instr.sender : Instr → Option Path
  | .timeSet p _ | .stepAccept p _ | .timeSourceWrite p _ | .keyWrite p _ _ | .mgtAddressWrite p _ _ _
  | .registerWrite p _ _ _ | .rawWindowWrite p _ _ | .rawLocateWrite p _ | .holdClear p _ | .ucodeImageWrite p _ _
  | .loadVerify p | .loadVerifyArm p | .loadAbandon p | .activateAtWrite p _ | .ownerKeyWrite p _
  | .ownerKeyClear p _ | .ceilingWrite p _ _ | .clearCodeWrite p _ _ | .seqStart p _ _ | .seqEnableWrite p _ _
  | .injectRequest p _ | .fringeCalCmd p _ | .calRequest p _ | .mapEntryWrite p _ _ | .solveCmd p _
  | .slotWrite p _ _ _ | .slotVerify p _ | .slotLoad p _ | .slotSave p _ | .slotErase p _ | .commitCancel p _
  | .ttArm p | .ttStop p | .ttReplace p | .ttResume p | .ttTrace p | .portConfigWrite p _ _ | .queueConfigWrite p _ _
  | .classInsert p | .classDelete p | .classLookupShadow p | .classLookupActive p | .classClear p
  | .classTableWrite p _ _ | .flowClear p _ | .flowClearAll p | .bwPeakClear p _ | .clearSource p _ | .firstClear p _
  | .pinRearm p _ | .sourceConfigWrite p _ _ | .eccInject p _ | .zoneOverrideWrite p _ _ | .powerCmdRun p
  | .powerCmdQuiet p | .powerCmdDormant p | .laneRetrain p _ _ | .wrapClear p _ | .perfConfigWrite p _ _
  | .testConfigWrite p _ _ | .testInject p _ | .testClear p _ | .proveStart p _ | .proveStop p _ => some p
  | _ => none

/-- Rows that act on pins, rails and the test access port, which are there while the dies are held in reset (R402, R408). -/
def Instr.onPins : Instr → Bool
  | .powerOn _ | .resetN _ | .resetNRelease _ | .powerFail _ | .vddAuxLoss | .clearNAssert _ | .clearNRelease | .tckEdge _ _ _ _ _
  | .elsLightLoss _ | .elsLightReturn _ => true
  | _ => false

/-- Rows that may write an object, and with it a key (R282). -/
def Instr.mayWriteKey : Instr → Bool
  | .write _ | .writeTable _ | .keyWrite _ _ _ | .registerWrite _ _ _ _ | .rawWindowWrite _ _ _ => true
  | _ => false

end Sys2Proof

namespace Sys2Proof.Machine

/-- No line waits for the collector, reported or forced, and no event for its subscribers: every command leaves its state so unless the
reactions of R333 raise lines for longer than the collector's cycles of one command. -/
abbrev State.Calm (s : State) : Prop := (s.toCore.faults.raised = [] ∧ s.toCore.faults.forcing = []) ∧ s.toCore.events = []

/-- The dies run (R364), no line or event waits, and no word carries an error injected for a test (R342). -/
abbrev State.Live (s : State) : Prop := s.toCore.dead = false ∧ s.Calm ∧ s.toCore.faults.eccWords = []

/-- Commands of a path are executed: the dies run, the boot has ended, the state is not Halted, and the path's supervisor is
the active one (R283, R339, R375). -/
abbrev State.Serves (s : State) (p : Path) : Prop :=
  s.Live ∧ s.toCore.power ≠ psHalted ∧ s.toCore.rd OD.BOOT_STATE ≠ 0 ∧ s.toCore.isActive p.val = true

/-- The Motin engine takes a path's next request: the dies run, it is the path's turn, no kept reply answers the request, the
module serves it in its state, its body fits its TYPE, and no write waits for a reply (R278, R284, R285, R339, R375). -/
abbrev State.Takes (s : State) (p : Path) (r : Request) (rest : List Request) : Prop :=
  s.Live ∧ s.motin.queue p.val = r :: rest ∧ s.motin.turnOf p.val = true ∧ bodyAbort r = 0 ∧ s.toCore.serves r = true ∧
  s.motin.repeats p.val r = none ∧ s.motin.keyWrites = [] ∧ s.motin.addrWrites = []

/-- The state once the engine has taken the head of a path's queue: the other path has the next turn (R284). -/
abbrev State.taken (s : State) (p : Path) (rest : List Request) : State :=
  { s with motin := s.motin.take p.val rest }

/-- An object whose accepted write has no effect at the boundary but its new value (R7). -/
def plainObj (obj : Nat) : Bool :=
  !([OD.SOURCE_CONFIG, OD.RAW_LOCATE, OD.TIME_SOURCE, OD.PPS_OUT_MODE, OD.PTP_ENABLE_1302, OD.PTP_ENABLE_1302 + 256, OD.QUEUE_CONFIG, OD.METER_CONFIG,
    OD.SHAPER_CONFIG, OD.BUF_PROFILE, OD.PORT_CONFIG, OD.GLIDE_PROFILE, OD.PERF_CONFIG, OD.TEST_CONFIG, OD.BW_WINDOW,
    OD.LANE_BOOT_FAILED, OD.SEQ_ENABLE_2720, OD.SEQ_ENABLE_2720 + 256, OD.SEQ_ENABLE_2720 + 512,
    OD.SEQ_ENABLE_2720 + 768].contains obj)

/-- Nothing is in progress that a frame boundary would move on: no loop and no coach program runs, no link is in service, no
traverse, release, replacement, calibration, proving run, slew, load, restart or change of power state waits, no element was found
out of date, no port is enabled, no sequence and no performance counter is set up, and nobody subscribes or exports. -/
abbrev State.AtRest (s : State) : Prop :=
  s.Live ∧ s.loops = [] ∧ s.links = [] ∧ s.trav.cur = none ∧ s.trav.release = none ∧ s.trav.thaw = [] ∧ s.trav.owed = [] ∧
  s.pwr.target = none ∧ s.pwr.coefFrom = none ∧ s.cal.items = [] ∧ s.cal.writes = [] ∧
  s.cal.fringe = none ∧ s.cal.notCurrent = [] ∧ s.tt.replace = none ∧ (∀ x ∈ s.coaches, x.2.running = false) ∧ s.test.prove = none ∧ s.test.since = [] ∧
  s.time.slewing = false ∧ s.time.lockAtBoundary = false ∧ s.ucode.armed = none ∧ s.pkt.gates = [] ∧
  s.toCore.enabledPorts = [] ∧ s.survey.seqs = [] ∧ storeListed s.regs OD.PERF_CONFIG = [] ∧ s.faults.lines = [] ∧
  s.boot.restart = none ∧ s.motin.exports = [] ∧ s.motin.subs = []

/-! ### The Motin engine's bounds -/

/-- A path's queue holds at most 8 requests (R284). -/
def Motin.QueuesBounded (m : Motin) : Prop := ∀ p, (m.queue p).length ≤ 8

/-- A subscriber's queue holds at most 256 events (R300). -/
def Motin.EventsBounded (m : Motin) : Prop := ∀ k u, (k, u) ∈ m.subs → u.queue.length ≤ 256

/-- Snapshots scheduled at most 4 at a time (R295). -/
def State.SnapsBounded (s : State) : Prop := s.snaps.length ≤ 4

/-- Every message sent carries a number of its key slot that the module has used, and two messages of one slot never carry
the same number: the newest carries the highest (R281). -/
def Motin.Numbered (m : Motin) : Prop :=
  (∀ x ∈ m.outbox, 0 < x.seq ∧ x.seq ≤ Tab.get m.seqOut x.keySlot 0) ∧
  m.outbox.Pairwise (fun x y => x.keySlot = y.keySlot → y.seq < x.seq)

/-- The bounds of the Motin engine and of the snapshots (R284, R285, R295, R300). -/
def State.Bounded (s : State) : Prop :=
  s.motin.QueuesBounded ∧ (∀ p, (s.motin.kept p).length ≤ 32) ∧ s.motin.EventsBounded ∧ s.SnapsBounded

/-- No key and no address waits for a reply between two commands (R282, R311). -/
def Motin.NoneWaits (m : Motin) : Prop := m.keyWrites = [] ∧ m.addrWrites = []

/-- At most one path's registration is active (R313). -/
def Core.OneActive (c : Core) : Prop := ¬ (c.isActive 0 = true ∧ c.isActive 1 = true)

end Sys2Proof.Machine
end

