-- ==== Sys2Proof/WellFormed.lean ====
section
/-! DEFINITION. The operands that the table of operations and events admits: a command is well formed when every operand
whose type is wider than its field stays inside the field. -/

namespace Sys2Proof

/-- An instant given as a position in the present frame, in ns (R8). -/
abbrev inFrame (at_ : Nat) : Prop := at_ < frameNs

/-- What a fault report may name: a source, loops, lanes and entries of the module's stores (R326, R336). -/
def FaultReport.wf (r : FaultReport) : Bool :=
  decide (r.source < 512) && r.loops.all (fun t => decide (t < 9216)) && r.lanes.all (fun k => decide (k < 128)) &&
    r.items.all (fun k => decide (k < 2 ^ 49) && (decide (r.source ≠ 257) || decide (k < 64)))

/-- What a boot step's self-checks may name: monitor channels and lanes of the module, each link at most once (R366). -/
def BootReport.wf (r : BootReport) : Bool :=
  r.marked.all (fun k => decide (k < 9728)) && r.failedLanes.all (fun k => decide (k < 128)) && decide (r.detail < 65536) &&
    decide (r.failedLinks &&& r.halfLinks = 0)

/-- Every operand of the command lies in its field. -/
def Instr.wf : Instr → Bool
  | .frameBoundary => true
  | .caboose _ cycles => decide (cycles ≤ 1448)
  | .cabooseOverrun _ _ => true
  | .loopSlot _ => true
  | .slotOverrun _ => true
  | .endLoop _ => true
  | .ldm _ => true
  | .nrm _ => true
  | .phs _ => true
  | .err _ => true
  | .biq _ => true
  | .sat _ => true
  | .ffw _ => true
  | .prf _ => true
  | .fel _ => true
  | .dth _ => true
  | .cst _ => true
  | .drv _ => true
  | .jmp _ => true
  | .loopLock _ => true
  | .acquireTimeout _ => true
  | .followingErrorTrip _ => true
  | .coastExpiry _ => true
  | .loopSaturationTimeout _ => true
  | .unobservableTimeout _ => true
  | .litStateChange _ => true
  | .monitorResult _ _ => true
  | .monitorResultMissing _ => true
  | .linkSamplesMissing _ => true
  | .stagingEntry _ _ => true
  | .deglitchLoad _ => true
  | .codeApply _ => true
  | .linkFlitReplay _ => true
  | .linkDown _ => true
  | .linkReturn _ _ _ => true
  | .linkRestoreSnap _ => true
  | .ptpSync _ at_ _ _ => decide (inFrame at_)
  | .ptpAnnounce _ dataset _ => decide (dataset.priority1 < 256 ∧ dataset.clockClass < 256 ∧ dataset.accuracy < 256 ∧ dataset.variance < 65536 ∧
      dataset.priority2 < 256 ∧ dataset.identity < 2 ^ 64 ∧ dataset.steps < 65536)
  | .ptpDelayResp _ _ _ => true
  | .ptpDelayReqSend _ => true
  | .ptpPdelayReq _ at_ => decide (inFrame at_)
  | .ptpPdelayResp _ at_ _ _ _ => decide (inFrame at_)
  | .ptpUnsupportedMessage _ => true
  | .ppsInEdge _ at_ => decide (inFrame at_)
  | .ppsOutRise => true
  | .ppsOutFall => true
  | .lossTimeout => true
  | .slewEnd => true
  | .timeStep => true
  | .timeSet _ _ => true
  | .stepAccept _ _ => true
  | .timeSourceWrite _ _ => true
  | .motinDatagram _ at_ source bytes => decide (inFrame at_ ∧ source.ip < 2 ^ 128 ∧ source.port < 65536 ∧ bytes.length ≤ 65507)
  | .read _ => true
  | .write _ => true
  | .readTable _ => true
  | .writeTable _ => true
  | .commit _ => true
  | .snap _ => true
  | .heartbeat _ => true
  | .stateDigest _ => true
  | .export_ _ => true
  | .takeover _ => true
  | .subscribe _ => true
  | .abort _ => true
  | .subscriptionLapse _ => true
  | .replyCacheExpire _ => true
  | .keyWrite _ _ _ => true
  | .mgtAddressWrite _ _ sub value => decide (sub ≤ 12 ∧ value < 2 ^ 128)
  | .registerWrite _ object element value => decide (object < 2 ^ 24 ∧ element < 2 ^ 20 ∧ value < 2 ^ 512)
  | .rawWindowWrite _ _ _ => true
  | .rawLocateWrite _ _ => true
  | .holdClear _ _ => true
  | .ucodeImageWrite _ element _ => decide (element < 4440)
  | .loadVerify _ => true
  | .loadVerifyArm _ => true
  | .loadAbandon _ => true
  | .ucodeVerifyEnd => true
  | .activateAtWrite _ _ => true
  | .ownerKeyWrite _ _ => true
  | .ownerKeyClear _ _ => true
  | .ceilingWrite _ _ _ => true
  | .clearCodeWrite _ _ _ => true
  | .clearNAssert _ => true
  | .clearNRelease => true
  | .hvOvervoltage _ => true
  | .elsLightLoss _ => true
  | .surveyScan => true
  | .surveyConversionDone _ _ _ _ => true
  | .surveyConversionStart _ at_ => decide (inFrame at_)
  | .surveyTrigEdge _ at_ => decide (inFrame at_)
  | .seqStart _ _ _ => true
  | .seqEnableWrite _ _ _ => true
  | .injectRequest _ _ => true
  | .fringeCalCmd _ _ => true
  | .fringeCalEnd _ _ => true
  | .calRequest _ _ => true
  | .trimStart _ bin => decide (33 ≤ bin.val ∧ bin.val % 2 = 1)
  | .trimRunEnd _ _ _ _ => true
  | .monSweepStart => true
  | .tenderOverlapStart _ _ => true
  | .tenderRunEnd _ _ => true
  | .surveyCalStart _ => true
  | .surveyCalEnd _ _ => true
  | .calNotCurrent _ => true
  | .mapEntryWrite _ _ _ => true
  | .solveCmd _ _ => true
  | .colSolveEnd => true
  | .slotWrite _ settings element value => if settings then decide (element < 8704) else decide (element < 32768 ∧ value.toNat < 65536)
  | .slotVerify _ _ => true
  | .slotLoad _ _ => true
  | .slotSave _ _ => true
  | .slotErase _ _ => true
  | .commitCancel _ _ => true
  | .glideRampDownStart _ => true
  | .traverseBegin => true
  | .copyBackDone => true
  | .retiredSetRelease => true
  | .guardOpen => true
  | .guardMinEnd => true
  | .guardRelockTimeout => true
  | .ttArm _ => true
  | .ttStop _ => true
  | .ttReplace _ => true
  | .ttResume _ => true
  | .ttTrace _ => true
  | .portConfigWrite _ _ _ => true
  | .laneLock _ at_ => decide (inFrame at_)
  | .laneLockLoss _ => true
  | .upHoldExpire _ => true
  | .packetReceive _ at_ frame => decide (inFrame at_ ∧ 0 < frame.length ∧ frame.length < 65536)
  | .packetPass _ => true
  | .packetSecondPass _ => true
  | .egressSchedule _ at_ => decide (inFrame at_)
  | .frameTxComplete _ at_ => decide (inFrame at_)
  | .refillEpoch _ => true
  | .gateEntryChange _ at_ => decide (inFrame at_)
  | .portDownFlush _ => true
  | .queueConfigWrite _ _ _ => true
  | .classInsert _ => true
  | .classDelete _ => true
  | .classLookupShadow _ => true
  | .classLookupActive _ => true
  | .classClear _ => true
  | .classTableWrite _ _ _ => true
  | .flowClear _ _ => true
  | .flowClearAll _ => true
  | .bwWindowEnd at_ => decide (inFrame at_)
  | .bwPeakClear _ _ => true
  | .faultSourceFire lines => lines.all FaultReport.wf
  | .clearSource _ _ => true
  | .firstClear _ _ => true
  | .pinRearm _ _ => true
  | .faultPulseEnd => true
  | .sourceConfigWrite _ _ _ => true
  | .eccInject _ _ => true
  | .throttleStep => true
  | .stagedReleaseSteps => true
  | .zoneOverrideWrite _ _ _ => true
  | .powerCmdRun _ => true
  | .powerCmdQuiet _ => true
  | .powerCmdDormant _ => true
  | .powerChangeComplete => true
  | .rateGraceEnd _ => true
  | .mgtLinkChange _ rate => [0, 10, 100, 1000].contains rate.toNat
  | .heartbeatTimeout _ => true
  | .digestFailureDeclare => true
  | .roleChange => true
  | .takeoverDecision => true
  | .powerOn _ => true
  | .resetN _ => true
  | .powerFail _ => true
  | .restartWarm _ => true
  | .restartCold _ => true
  | .bootStepEnd report => report.wf
  | .bootTimeWaitExpire => true
  | .laneRetrain _ _ _ => true
  | .snapshotCopyDone => true
  | .wrapClear _ _ => true
  | .perfConfigWrite _ _ _ => true
  | .testConfigWrite _ _ _ => true
  | .testInject _ _ => true
  | .testClear _ _ => true
  | .proveStart _ _ => true
  | .proveStop _ _ => true
  | .proveTimeExpire => true
  | .checkerLock _ _ at_ => decide (inFrame at_)
  | .checkerLockLoss _ bits errors => decide (errors ≤ bits)
  | .elsLightReturn _ => true
  | .resetNRelease _ => true
  | .vddAuxLoss => true
  | .tckEdge _ _ _ _ _ => true

end Sys2Proof
end

