-- ==== Sys2Proof/Certificates/Slice0/Obligations.lean ====
section
/-! DEFINITION. The statements for the provers: what the commands of the block do, where they complete and what they leave
alone, and what holds of every step. -/

open Sys2Proof Sys2Proof.Machine

/-- For every state whose queue begins with a command, the step answers what the command answers on the state with the rest of
the queue; on an empty queue the step changes nothing (DESIGN CHOICE, log 3). The table gives no command bits, so no word
spells a command and fetching one changes nothing (log 12). (R7, R284) -/
def Obligations.StepRunsTheFrontCommand : Prop :=
  (∀ (s : State) (i : Instr) (rest : List Instr), s.pending = i :: rest → step s = exec i { s with pending := rest }) ∧
  (∀ s : State, s.pending = [] → step s = .next s) ∧
  (∀ (s : State) (nbits w : Nat), decodeTableWord nbits w = none ∧ s.withFetchWord nbits w = s)

/-- After reset, with a queue that is empty, every output of both sets is Dark, the boot runs with BOOT_STATE 0, module time is
in Free, no supervisor is registered, no request waits and no message has been sent, and FAULT_N is held; the bounds of the
engine, the numbering of messages, the empty reply buffers and the single active registration hold. (The time state and the
reset values the spec does not give are the model's choice, log 6.) (R25, R166, R284, R287, R313, R326, R364, R365) -/
def Obligations.ResetLeavesTheInvariants : Prop :=
  State.reset.pending = [] ∧ (∀ o : Fin 512, State.reset.rdA OD.CONN_MAP o = 0x8000 ∧ State.reset.rdS OD.CONN_MAP o = 0x8000) ∧
  State.reset.rd OD.BOOT_STATE = 0 ∧ State.reset.boot.booting = true ∧ State.reset.timeState = tsFree ∧
  (∀ p, State.reset.toCore.reg? p = none) ∧ (∀ p, State.reset.motin.queue p = []) ∧ State.reset.motin.outbox = [] ∧
  State.reset.faults.preS01 = true ∧ State.reset.Bounded ∧ State.reset.motin.Numbered ∧ State.reset.motin.NoneWaits ∧
  State.reset.toCore.OneActive

/-- For every command and every state, running the command answers a next state, never a fault and never a refusal, and the
commands that wait behind it are unchanged, in number and in order. (That commands stand in one queue put there from outside
is the model's choice, log 1; that an ill-formed command completes too, log 41; R7 and R284 speak of object writes and of
the paths' queues.) (R7, R284) -/
def Obligations.EveryCommandAnswersAndKeepsTheQueue : Prop :=
  ∀ (i : Instr) (s : State), ∃ t : State, exec i s = .next t ∧ t.pending = s.pending

/-- In a live state, each write or command row of a path, in Halted, until the boot has ended, or while the path's supervisor is
not the active one, answers the next state in which its result is 0604_0011h and everything else is as it was; RESTART_CMD 1
and 2 do so in Halted or while the path's supervisor is not the active one. (R283, R308, R339, R375) -/
def Obligations.OnlyTheActiveSupervisorWrites : Prop :=
  (∀ (i : Instr) (p : Path) (s : State), i.sender = some p → s.Live →
    (s.power = psHalted ∨ s.rd OD.BOOT_STATE = 0 ∨ s.toCore.isActive p.val = false) →
    exec i s = .next { s with result := 0x06040011 }) ∧
  (∀ (p : Path) (s : State), s.Live → (s.power = psHalted ∨ s.toCore.isActive p.val = false) →
    exec (.restartWarm p) s = .next { s with result := 0x06040011 } ∧
    exec (.restartCold p) s = .next { s with result := 0x06040011 })

/-- In a state in which the dies are held in reset, every command that does not act on the pins, the rails or the test access
port answers the same state. (R364, R402, R408) -/
def Obligations.DiesHeldInResetTakeNoCommand : Prop :=
  ∀ (i : Instr) (s : State), s.toCore.dead = true → i.onPins = false → exec i s = .next s

/-- For every state in which each message sent carries a number of its key slot that is positive, at most the slot's last
number, and above every earlier message's of the slot, every step answers a state in which this still holds, and no slot's
last number has become smaller. A message that is sent takes the number after its slot's last one, and no other slot's
number changes; a restart and a key write change no slot's last number. (R281) -/
def Obligations.MessagesAreNumberedStrictly : Prop :=
  (∀ s t : State, step s = .next t → s.motin.Numbered →
    t.motin.Numbered ∧ ∀ slot, Tab.get s.motin.seqOut slot 0 ≤ Tab.get t.motin.seqOut slot 0) ∧
  (∀ (m : Motin) (p : Nat) (to_ : NetAddr) (slot type id result : Nat) (body : List Byte),
    let n := Tab.get m.seqOut slot 0 + 1
    (m.send p to_ slot type id result body).outbox = ⟨p, to_, slot, n, message (m.key slot) type slot n id result body⟩ :: m.outbox ∧
    Tab.get (m.send p to_ slot type id result body).seqOut slot 0 = n ∧
    (∀ j, j ≠ slot → Tab.get (m.send p to_ slot type id result body).seqOut j 0 = Tab.get m.seqOut j 0)) ∧
  (∀ (m : Motin) (slot v : Nat), m.afterReset.seqOut = m.seqOut ∧ (m.setKey slot v).seqOut = m.seqOut)

/-- For every state in which no key and no address waits for a reply, every step answers a state in which none waits; and if the
command at the front is not one of the five rows that may write a key, then every number that a key slot would accept
afterwards it would have accepted before, and the highest number accepted under a slot has not become smaller. (R280, R282,
R311, R364) -/
def Obligations.NoStepReopensASequenceNumber : Prop :=
  ∀ s t : State, step s = .next t → s.motin.NoneWaits →
    t.motin.NoneWaits ∧
    ((∀ i rest, s.pending = i :: rest → i.mayWriteKey = false) →
      ∀ slot n, (t.motin.fresh slot n = true → s.motin.fresh slot n = true) ∧ s.motin.high slot ≤ t.motin.high slot)

/-- For every state in which a path's queue holds at most 8 requests, a path keeps at most 32 replies, a subscriber's queue
holds at most 256 events and at most 4 snapshots are scheduled, every step answers a state in which this still holds. (R284,
R285, R295, R300) -/
def Obligations.QueuesStayBounded : Prop :=
  ∀ s t : State, step s = .next t → s.Bounded → t.Bounded

/-- For every state in which the registrations of the two paths are not both active, every step answers a state in which they
are not both active: not by a registration, a failure, the end of a gap, a takeover, an export or a restart. (R313, R317,
R318, R319) -/
def Obligations.AtMostOneRegistrationIsActive : Prop :=
  ∀ s t : State, step s = .next t → s.toCore.OneActive → t.toCore.OneActive

/-- For every key slot with highest accepted number H and record of the numbers seen: 0 is not accepted; a number above H is;
one from H - 63 to H is, exactly if the record does not have it; no other is. An accepted number moves H up to it if it is
above, is not accepted again, and changes no other slot. A datagram from a source whose address family the path has, well
formed and authentic, with a number that is not accepted counts in REPLAYS and moves no number. After a reset H is as it was
and none of the numbers up to H is accepted (the record of seen numbers is filled: the model's reading, log 30); a write to
the slot resets H to 0 and clears its record. (The family by the source's number is the model's, log 58.) (R280) -/
def Obligations.EachSequenceNumberIsAcceptedOnce : Prop :=
  (∀ (m : Motin) (slot n : Nat),
    let h := m.high slot
    m.fresh slot 0 = false ∧ (h < n → m.fresh slot n = true) ∧
    (n ≠ 0 → n ≤ h → h < n + 64 → (m.fresh slot n = true ↔ n ∉ m.seenOf slot)) ∧ (n + 64 ≤ h → m.fresh slot n = false) ∧
    (m.note slot n).high slot = max h n ∧ (m.note slot n).fresh slot n = false ∧
    (∀ j, j ≠ slot → (m.note slot n).high j = m.high j ∧ (m.note slot n).seenOf j = m.seenOf j) ∧
    m.afterReset.high slot = h ∧ (n ≤ h → m.afterReset.fresh slot n = false) ∧
    (∀ v, (m.setKey slot v).high slot = 0 ∧ (m.setKey slot v).seenOf slot = [])) ∧
  (∀ (s : State) (p : Path) (at_ : Nat) (src : NetAddr) (bs : List Byte), s.Live → (s.toCore.advance at_).serving = true →
    (s.toCore.advance at_).hears p.val src = true →
    let n := bs.length
    let slot := fieldAt bs 4 1 % 4
    (40 ≤ n ∧ n ≤ 1232 ∧ fieldAt bs 2 2 = n ∧ fieldAt bs 0 1 = 1) → s.motin.keyValid slot = true →
    (hmacSha256 (be 32 (s.motin.key slot)) (bs.take (n - 16))).take 16 = bs.drop (n - 16) →
    s.motin.fresh slot (fieldAt bs 8 8) = false →
    ∃ u : State, exec (.motinDatagram p at_ src bs) s = .next (State.settle u) ∧ u.motin = s.motin ∧
      u.rd OD.REPLAYS = count32 ((s.toCore.advance at_).rd OD.REPLAYS) 1)

/-- In a state that serves the path, with no line or event waiting, each of these commands answers a next state: CEILING_WRITE
with a value from the clear code and the code in force (unless Parked) up to the factory ceiling; CLEAR_CODE_WRITE with a
value up to the ceiling, 0 for a VOA; PORT_CONFIG_WRITE that disables a port with a legal frame size and hold;
SOURCE_CONFIG_WRITE of a defined source without FORCE, with legal fields; ZONE_OVERRIDE_WRITE of 0; LANE_RETRAIN with 0. In
that state the write has joined the writes that the next boundary applies, the command's result is success, and everything
else is as it was. (R7, R107, R115, R343, R349, R376) -/
def Obligations.RegisterWritesWaitForTheBoundary : Prop :=
  ∀ (s : State) (p : Path), s.Serves p →
    (∀ (te : Te) (v : BitVec 32), v.toNat ≤ s.rd OD.FACTORY_CEILING te → s.clearCode te ≤ v.toNat →
      (s.driven te ≤ v.toNat ∨ (s.loop te).st = .parked) →
      exec (.ceilingWrite p te v) s = .next { s with result := 0, pend := s.pend ++ [(okey OD.CEILING te, v.toNat)] }) ∧
    (∀ (te : Te) (v : BitVec 32), v.toNat ≤ s.ceiling te → (8704 ≤ te.val → v = 0) →
      exec (.clearCodeWrite p te v) s = .next { s with result := 0, pend := s.pend ++ [(okey OD.CLEAR_CODE te, v.toNat)] }) ∧
    (∀ (k : Lane) (v : BitVec 32), 64 ≤ portMax v.toNat → portMax v.toNat ≤ 10240 → portHold v.toNat ≤ 10000 →
      portOn v.toNat = false → (s.portEnabled k → bits (s.portCfg k) 30 29 = bits v.toNat 30 29) →
      exec (.portConfigWrite p k v) s = .next { s with result := 0, pend := s.pend ++ [(okey OD.PORT_CONFIG k, v.toNat)] }) ∧
    (∀ (n : Fin 512) (v : BitVec 32), (Dict.severity n).isSome → bits v.toNat 31 27 = 0 → bits v.toNat 26 24 ≤ 4 →
      (bits v.toNat 23 16 = 0 ∨ (2 ≤ bits v.toNat 23 16 ∧ bits v.toNat 15 0 ≠ 0)) →
      exec (.sourceConfigWrite p n v) s = .next { s with result := 0, pend := s.pend ++ [(okey OD.SOURCE_CONFIG n, v.toNat)] }) ∧
    (∀ z : Fin 8,
      exec (.zoneOverrideWrite p z 0) s = .next { s with result := 0, pend := s.pend ++ [(okey OD.ZONE_OVERRIDE z, 0)] }) ∧
    (∀ k : Lane,
      exec (.laneRetrain p k 0) s = .next { s with result := 0, pend := s.pend ++ [(okey OD.LANE_BOOT_FAILED k, 0)] })

/-- In a state that serves the path, with no line or event waiting, each of CEILING_WRITE, CLEAR_CODE_WRITE, PORT_CONFIG_WRITE,
QUEUE_CONFIG_WRITE, SOURCE_CONFIG_WRITE, ZONE_OVERRIDE_WRITE, PERF_CONFIG_WRITE, TEST_CONFIG_WRITE, TIME_SOURCE_WRITE and
LANE_RETRAIN answers a next state for every value. If the check of its object gives no abort code, the write has joined the
writes that the next boundary applies and the result is success; otherwise the result is the abort code. Nothing else
changes. SEQ_ENABLE_WRITE of 0, or of 1 to a sequence that is or will be enabled, is such a write; of 1 to one that is not,
it is accepted where the sequence has a first instant, which it also records. (R7, R134, R253, R344, R379, R390, R287) -/
def Obligations.RegisterWritesAcceptOrAbort : Prop :=
  ∀ (s : State) (p : Path), s.Serves p →
    let out := fun (obj e v abort : Nat) =>
      (Host.Outcome.next (if abort = 0 then { s with result := 0, pend := s.pend ++ [(okey obj e, v)] } else { s with result := abort }) :
        Host.Outcome State Fault Refusal)
    (∀ (te : Te) (v : BitVec 32), exec (.ceilingWrite p te v) s = out OD.CEILING te v.toNat (s.ceilingCheck te v.toNat)) ∧
    (∀ (te : Te) (v : BitVec 32), exec (.clearCodeWrite p te v) s = out OD.CLEAR_CODE te v.toNat (s.clearCodeCheck te v.toNat)) ∧
    (∀ (k : Lane) (v : BitVec 32), exec (.portConfigWrite p k v) s = out OD.PORT_CONFIG k v.toNat (s.portCheck k v.toNat)) ∧
    (∀ (q : Fin 262144) (v : BitVec 64),
      exec (.queueConfigWrite p q v) s = out OD.QUEUE_CONFIG q v.toNat (s.queueCheck q v.toNat)) ∧
    (∀ (n : Fin 512) (v : BitVec 32),
      exec (.sourceConfigWrite p n v) s = out OD.SOURCE_CONFIG n v.toNat (s.sourceConfigCheck n v.toNat)) ∧
    (∀ (z : Fin 8) (v : BitVec 8), exec (.zoneOverrideWrite p z v) s = out OD.ZONE_OVERRIDE z v.toNat (s.overrideCheck z v.toNat)) ∧
    (∀ (k : Fin 64) (v : BitVec 32), exec (.perfConfigWrite p k v) s = out OD.PERF_CONFIG k v.toNat (perfCheck v.toNat)) ∧
    (∀ (n : Fin 146) (v : BitVec 32), exec (.testConfigWrite p n v) s = out OD.TEST_CONFIG n v.toNat (s.testCheck n v.toNat)) ∧
    (∀ v : BitVec 8, exec (.timeSourceWrite p v) s = out OD.TIME_SOURCE 0 v.toNat (if 4 < v.toNat then abValue else 0)) ∧
    (∀ (k : Lane) (v : BitVec 8), exec (.laneRetrain p k v) s = out OD.LANE_BOOT_FAILED k v.toNat (if v = 0 then 0 else abValue)) ∧
    (∀ (q : Fin 4) (v : BitVec 8), (v = 1 → s.rdNext (OD.SEQ_ENABLE_2720 + 256 * q) ≠ 0) →
      exec (.seqEnableWrite p q v) s = out (OD.SEQ_ENABLE_2720 + 256 * q) 0 v.toNat (if 1 < v.toNat then abValue else 0)) ∧
    (∀ (q : Fin 4) (t : Option Instant), s.rdNext (OD.SEQ_ENABLE_2720 + 256 * q) = 0 → s.seqFirst q = (0, t) →
      exec (.seqEnableWrite p q 1) s = .next { s with
        result := 0
        survey := { s.survey with seqs := Tab.put s.survey.seqs q { s.seq q with next := t } SeqRec.reset }
        pend := s.pend ++ [(okey (OD.SEQ_ENABLE_2720 + 256 * q) 0, 1)] })

/-- In a state that serves the path, with no line or event waiting: FIRST_CLEAR of 1 empties the first-fault record and clears
OVERFLOW; PIN_REARM of 1 arms the pin; ECC_INJECT of a legal word arms an injection into stores 1 to 8, and into store 9
reports source 460 or 461 at once and replaces one that was armed; CLEAR_SOURCE of a source that is not live resets its
record and arms the pin, and where it holds neither loops nor lanes changes nothing else (source 386 also forgets the
entries rewritten since), of a live one it ends with 0606_0001h. In a state whose dies run, with no line or event waiting,
FAULT_PULSE_END during a pulse that ends within the present frame, PULSE_WIDTH after it began, moves on to that instant,
ends and disarms it, else changes nothing, and FAULT_SOURCE_FIRE answers the state in which the collector has sampled the
lines it reports. Which write takes an injected inversion and which read shows it is the model's choice (log 28): a map
entry written while an injection waits for the shadow store keeps the inversion; a word of coach 0's stores that carries one
reports 144 or 192 when the coach opens a slot. Each answers a next state, and nothing else changes. (R332, R337, R340,
R342, R326) -/
def Obligations.FaultCommandsActOnTheCollector : Prop :=
  (∀ (s : State) (p : Path), s.Serves p →
    exec (.firstClear p 1) s = .next { s with
      result := 0
      regs := storePut (storePut (storePut (storePut (storePut s.regs (okey OD.FIRST_SOURCE 0) 0xFFFF) (okey OD.FIRST_SEVERITY 0) 0)
        (okey OD.FIRST_TIME 0) 0) (okey OD.FIRST_FRAME 0) 0) (okey OD.OVERFLOW 0) 0
      faults := { s.faults with firstEntry := 0 } } ∧
    exec (.pinRearm p 1) s = .next { s with result := 0, faults := { s.faults with armed := true } } ∧
    (∀ v : BitVec 16, 1 ≤ bits v.toNat 15 12 → bits v.toNat 15 12 ≤ 8 → (bits v.toNat 11 10 = 1 ∨ bits v.toNat 11 10 = 2) →
      bits v.toNat 9 0 = 0 →
      exec (.eccInject p v) s = .next { s with result := 0, faults := { s.faults with eccArmed := v.toNat } }) ∧
    exec (.eccInject p 0x9400) s = .next (State.settle { s with
      result := 0, faults := { s.faults with raised := [⟨460, [], [], [], true⟩], eccArmed := 0 } }) ∧
    exec (.eccInject p 0x9800) s = .next (State.settle { s with
      result := 0, faults := { s.faults with raised := [⟨461, [], [], [], true⟩], eccArmed := 0 } }) ∧
    (∀ n : BitVec 16, n.toNat < 512 → s.live n.toNat = false → (s.src n.toNat).loops = [] → (s.src n.toNat).lanes = [] →
      (n.toNat < 324 ∨ 327 < n.toNat) →
      exec (.clearSource p n) s = .next { s with
        result := 0
        pkt := if n.toNat = 386 then { s.pkt with damaged := s.pkt.damaged.filter (fun e => !e.2) } else s.pkt
        faults := { s.faults with armed := true, recs := Tab.put s.faults.recs n.toNat SrcRec.reset SrcRec.reset } }) ∧
    (∀ n : BitVec 16, n.toNat < 512 → s.live n.toNat = false →
      ∃ u : State, exec (.clearSource p n) s = .next u ∧ u.result = 0 ∧ u.src n.toNat = SrcRec.reset ∧
        u.faults = { s.faults with armed := true, recs := Tab.put s.faults.recs n.toNat SrcRec.reset SrcRec.reset } ∧ u.regs = s.regs) ∧
    (∀ n : BitVec 16, n.toNat < 512 → s.live n.toNat = true →
      exec (.clearSource p n) s = .next { s with result := 0x06060001 })) ∧
  (∀ s : State, s.Live →
    (s.faults.pulsing = false → exec .faultPulseEnd s = .next s) ∧
    (s.faults.pulsing = true →
      let at_ := s.now + (s.faults.pulseFrom + nsU (s.rd OD.PULSE_WIDTH) - s.up)
      (at_ < s.frameEnd →
        let c := s.toCore.advanceTo at_
        exec .faultPulseEnd s = .next { s with toCore := { c with
          faults := { c.faults with pulsing := false, armed := false } } }) ∧
      (s.frameEnd ≤ at_ → exec .faultPulseEnd s = .next s)) ∧
    (∀ lines : List FaultReport,
      exec (.faultSourceFire lines) s = .next (State.settle { s with faults := { s.faults with raised := lines } }))) ∧
  (∀ (s : State) (p : Path) (o : Fin 512) (v : BitVec 16) (m : Nat), s.Serves p → (m = 1 ∨ m = 2) →
    s.faults.eccArmed = 0x5000 + 0x400 * m → entryValid v.toNat = true → s.shadowLocked = false →
    entryRoute (mapEntry s.shd o) = entryRoute v.toNat →
    exec (.mapEntryWrite p o v) s = .next { s with
      result := 0, shd := storePut s.shd (okey OD.CONN_MAP o) v.toNat
      faults := { s.faults with eccArmed := 0, eccWords := [(shadowMark + okey OD.CONN_MAP o, m)] } }) ∧
  (∀ (s : State) (te : Te) (m : Nat), s.dead = false → s.Calm → s.faults.eccWords = [(0, m)] → (m = 1 ∨ m = 2) → te.val < 256 →
    s.slotAhead te = true → (s.coach 0).running = false → (s.loop te).holdNext = none → s.runsSlot te = true → s.ucode.active = none →
    exec (.loopSlot te) s = .next (State.settle { s with
      loops := Tab.put s.loops te { s.loop te with uPrev := (s.loop te).u } Loop.reset
      coaches := Tab.put s.coaches 0 { (s.coach 0).idle with
        running := true, te := te, sp := (s.loop te).sp, slotAt := s.frames + 1, slotJ := te } CoachRec.reset
      faults := { s.faults with eccWords := [], raised := [⟨if m = 1 then 144 else 192, [], [], [], true⟩] } }))

/-- In a state that serves the path, with no line or event waiting: UCODE_IMAGE_WRITE outside Verifying and Armed puts its word
into the receive buffer, which it first empties unless the load is Receiving, and the load is Receiving; LOAD_VERIFY and
LOAD_VERIFY_ARM while Receiving start a verification; LOAD_ABANDON while Receiving, Armed or Failed drops the armed image;
ACTIVATE_AT_WRITE of 0 with no export owed is an accepted write and, while Armed, names the first boundary two frames ahead;
OWNER_KEY_WRITE with no key set sets it; OWNER_KEY_CLEAR of 1 in Maintenance clears it. In a live state that verifies,
UCODE_VERIFY_END ends the verification with its result and an event: on a failure the load is Failed, on a pass that does
not arm it is Idle, and on a pass that arms the received image is armed with its activation instant, with the error that an
injection holds for its store. (R97, R98, R99, R100, R300) -/
def Obligations.MicrocodeLoadSequence : Prop :=
  (∀ (s : State) (p : Path), s.Serves p →
    (∀ (e : Nat) (w : BitVec 32), e ≤ 4439 → s.loadState ≠ 2 → s.loadState ≠ 3 →
      exec (.ucodeImageWrite p e w) s = .next { s with
        result := 0
        regs := if s.loadState = 1 then s.regs else storePut s.regs (okey OD.LOAD_STATE 0) 1
        ucode := { s.ucode with buffer := Tab.set (if s.loadState = 1 then s.ucode.buffer else []) e w.toNat } }) ∧
    (s.loadState = 1 →
      exec (.loadVerify p) s = .next { s with
        result := 0, regs := storePut s.regs (okey OD.LOAD_STATE 0) 2, ucode := { s.ucode with arming := false } } ∧
      exec (.loadVerifyArm p) s = .next { s with
        result := 0, regs := storePut s.regs (okey OD.LOAD_STATE 0) 2, ucode := { s.ucode with arming := true } }) ∧
    (s.loadState = 1 ∨ s.loadState = 3 ∨ s.loadState = 4 →
      exec (.loadAbandon p) s = .next { s with
        result := 0, regs := storePut s.regs (okey OD.LOAD_STATE 0) 0
        ucode := { s.ucode with armed := none, activateAt := none, suspended := false } }) ∧
    (s.ucode.suspended = false ∨ s.rd OD.UNSYNCHRONIZED ≠ 1 →
      exec (.activateAtWrite p 0) s = .next { s with
        result := 0, pend := s.pend ++ [(okey OD.ACTIVATE_AT 0, 0)]
        ucode := if s.loadState = 3 then
            { s.ucode with suspended := false, activateAt := some (boundaryFrom (s.now + 2 * frameUnits)) } else s.ucode }) ∧
    (∀ v : BitVec 512, s.rd OD.OWNER_KEY_SET ≠ 1 →
      exec (.ownerKeyWrite p v) s = .next { s with
        result := 0, regs := storePut s.regs (okey OD.OWNER_KEY_SET 0) 1, ucode := { s.ucode with ownerKey := some v.toNat } }) ∧
    (s.power = psMaint →
      exec (.ownerKeyClear p 1) s = .next { s with
        result := 0, regs := storePut s.regs (okey OD.OWNER_KEY_SET 0) 0, ucode := { s.ucode with ownerKey := none } })) ∧
  (∀ s : State, s.Live → s.loadState = 2 →
    let r := s.verify s.received
    let regs := storePut (storePut s.regs (okey OD.LOAD_RESULT 0) r.1) (okey OD.LOAD_DETAIL 0) r.2
    let event := fun st => (⟨5, OD.LOAD_STATE, s.now, be 1 st ++ be 3 0 ++ be 4 r.1⟩ : Event)
    (r.1 ≠ 0 →
      let regs := if r.1 = abSelection then storePut regs (okey OD.FIRST_MISMATCH 0) (bits r.2 13 0) else regs
      exec .ucodeVerifyEnd s = .next (State.settle { s with
        regs := storePut (storePut regs (okey OD.LOAD_STATE 0) 4) (okey OD.REJECTS 0) (count32 (s.rd OD.REJECTS) 1)
        events := [event 4] })) ∧
    (r.1 = 0 → s.ucode.arming = false →
      exec .ucodeVerifyEnd s = .next (State.settle { s with regs := storePut regs (okey OD.LOAD_STATE 0) 0, events := [event 0] })) ∧
    (r.1 = 0 → s.ucode.arming = true →
      exec .ucodeVerifyEnd s = .next (State.settle { s with
        regs := storePut regs (okey OD.LOAD_STATE 0) 3
        ucode := { s.ucode with armed := some s.received, suspended := false,
                                activateAt := some (s.activationOf (s.rdNext OD.ACTIVATE_AT)) }
        faults := (s.toCore.eccWrite 8 shadowMark).faults
        events := [event 3] })))

/-- In a state that serves the path, calm: a POWER_CMD naming another state, in Run, Quiet or Dormant, with no change in
progress and (for Run and Quiet) no shut-down source set, starts a change at the first boundary two frames ahead; one naming
the state in force succeeds and changes nothing. RESTART_COLD, which in Maintenance clears every FAIL_COUNT, and
RESTART_WARM in Run or Quiet with the BOOT_MODE pins 0, no alternate in force but those of S04 and S12 (bits 3 and 11) and
no work that refuses it, set the restart for the first boundary two frames ahead unless one is set; RESTART_WARM ends with
0606_0001h while such work runs, and with 0604_0011h in another power state, with the pins not 0 or with any other alternate
(that these two have the code of the state, and come first, is the model's choice, log 30). In a live state:
POWER_CHANGE_COMPLETE with no release ends a begun change, and a thermal shut-down, which outside Maintenance goes to
Dormant, and else changes nothing; RATE_GRACE_END of a path whose interval has passed removes it and adds what it extended
to the path's registration, and before that changes nothing; THROTTLE_STEP at a boundary in Run, not yet taken there, takes
the step the zones call for, with the packet clock and source 13 following, and else changes nothing; HV_OVERVOLTAGE with no
die above 27.5 V changes nothing. (R310, R352, R357, R358, R359, R364, R370, R373) -/
def Obligations.PowerCommandsAndTheirChanges : Prop :=
  (∀ (s : State) (p : Path), s.Serves p →
    (∀ t : Nat, s.power ≠ psMaint → s.power ≠ t → s.rd OD.POWER_CHANGING ≠ 1 → (t ≤ 1 → (s.src 14).sev = none) →
      let u : State := { s with
        result := 0, regs := storePut s.regs (okey OD.POWER_CHANGING 0) 1
        pwr := ⟨some t, boundaryFrom (s.now + 2 * frameUnits), false, s.power, false, none⟩ }
      (t = psRun → exec (.powerCmdRun p) s = .next u) ∧ (t = psQuiet → exec (.powerCmdQuiet p) s = .next u) ∧
      (t = psDormant → exec (.powerCmdDormant p) s = .next u)) ∧
    (s.power ≠ psMaint → s.rd OD.POWER_CHANGING ≠ 1 →
      (s.power = psRun → (s.src 14).sev = none → exec (.powerCmdRun p) s = .next { s with result := 0 }) ∧
      (s.power = psQuiet → (s.src 14).sev = none → exec (.powerCmdQuiet p) s = .next { s with result := 0 }) ∧
      (s.power = psDormant → exec (.powerCmdDormant p) s = .next { s with result := 0 })) ∧
    (let due := fun cause => (s.boot.restart <|> some (cause, boundaryFrom (s.now + 2 * frameUnits)));
      exec (.restartCold p) s = .next { s with
        result := 0
        boot := { s.boot with restart := due 3, failCount := if s.power = psMaint then 0 else s.boot.failCount } } ∧
      ((s.power = psRun ∨ s.power = psQuiet) → s.boot.pins = 0 → s.boot.altMask ∈ [0, 8, 2048, 2056] → s.warmBusy = false →
        exec (.restartWarm p) s = .next { s with result := 0, boot := { s.boot with restart := due 4 } }) ∧
      ((s.power = psRun ∨ s.power = psQuiet) → s.boot.pins = 0 → s.boot.altMask ∈ [0, 8, 2048, 2056] → s.warmBusy = true →
        exec (.restartWarm p) s = .next { s with result := 0x06060001 }) ∧
      (((s.power ≠ psRun ∧ s.power ≠ psQuiet) ∨ s.boot.pins ≠ 0 ∨ s.boot.altMask ∉ [0, 8, 2048, 2056]) →
        exec (.restartWarm p) s = .next { s with result := 0x06040011 }))) ∧
  (∀ s : State, s.Live →
    (s.trav.release = none → s.pwr.shut = false → s.pwr.begun = true →
      exec .powerChangeComplete s = .next { s with
        regs := storePut s.regs (okey OD.POWER_CHANGING 0) 0, pwr := ⟨none, 0, false, 0, false, s.pwr.coefFrom⟩
        faults := if s.power = psDormant then { s.faults with lines := s.faults.lines.filter (fun n => !domainLine n) } else s.faults }) ∧
    (s.trav.release = none → s.pwr.shut = true →
      ∃ u : State, exec .powerChangeComplete s = .next (State.settle u) ∧ u.pwr = PowerUnit.idle ∧ u.rd OD.POWER_CHANGING = 0 ∧
        (s.power ≠ psMaint → u.power = psDormant) ∧ u.up = s.up ∧ u.pending = s.pending) ∧
    (s.trav.release ≠ none ∨ (s.pwr.shut = false ∧ s.pwr.begun = false) → exec .powerChangeComplete s = .next s) ∧
    (∀ (p : Path) (from_ till : Nat), Tab.find? s.sup.grace p = some (from_, till) → s.up < till → exec (.rateGraceEnd p) s = .next s) ∧
    (∀ (p : Path) (from_ till : Nat) (r : Registration), Tab.find? s.sup.grace p = some (from_, till) → till ≤ s.up →
      Tab.find? s.sup.reg p = some r →
      exec (.rateGraceEnd p) s = .next { s with sup := { s.sup with
        grace := Tab.erase s.sup.grace p
        reg := Tab.set s.sup.reg p { r with lastBeat := r.lastBeat + (min s.up till - max r.lastBeat from_) } } }) ∧
    (let step := s.rd OD.THROTTLE_STEP
      let next := s.throttleTo
      let regs := storePut (storePut (storePut s.regs (okey OD.THROTTLE_STEP 0) next) (okey OD.PIPE_CLOCK 0) (1250 - 250 * min next 3))
        (okey OD.THROTTLE_STEPS 0) (count32 (s.rd OD.THROTTLE_STEPS) 1)
      let therm := { s.therm with stepAt := some s.up, stepDue := false }
      (s.lanesOn = true → isBoundary s.now = true → s.therm.stepAt ≠ some s.up → next ≠ step →
        (next ≠ 0 →
          exec .throttleStep s = .next (State.settle { s with
            regs := regs, therm := therm, faults := { s.faults with raised := [⟨13, [], [], [], false⟩] } })) ∧
        (next = 0 →
          exec .throttleStep s = .next { s with
            regs := (List.range 64).foldl (fun t n =>
              storePut t (okey OD.SENSOR_STATE n) (setBits (storeGet t (okey OD.SENSOR_STATE n)) 2 2 0)) regs
            therm := therm, faults := { s.faults with lines := s.faults.lines.filter (· != 13) } })) ∧
      (s.lanesOn = false ∨ isBoundary s.now = false ∨ s.therm.stepAt = some s.up ∨ next = step → exec .throttleStep s = .next s)) ∧
    exec (.hvOvervoltage 0) s = .next s)

/-- In a live state, HV_OVERVOLTAGE that names at least one die answers a next state: the one in which the named dies are
cleared as CLEAR_N clears them (every channel to its clear code or 0 V, queues empty, loops Parked), a pending or suspended
commit is cancelled, a timetable stops with cause 4, CLEAR_STATE leaves 0 for 3, and the collector has sampled source 23.
The Motin engine's keys and sequence numbers, the snapshots and the pending writes are as they were. (R113, R357, R192) -/
def Obligations.OvervoltageClearsTheDiesAboveTheLimit : Prop :=
  ∀ (s : State) (dies : BitVec 4), s.Live → dies ≠ 0 →
    let ds := [0, 1, 2, 3].filter (bit dies.toNat)
    let c := (s.assertClear ds).ttHalt 4
    ∃ t : State, exec (.hvOvervoltage dies) s = .next t ∧
      t = State.settle { s with toCore := (if c.rd OD.CLEAR_STATE = 0 then c.set OD.CLEAR_STATE 3 else c).pulse 23 } ∧
      t.motin.keys = s.motin.keys ∧ t.motin.seqIn = s.motin.seqIn ∧ t.motin.seqOut = s.motin.seqOut ∧
      t.snaps = s.snaps ∧ t.copy = s.copy ∧ t.pending = s.pending

/-- In a live state: SURVEY_SCAN at an instant of the scan grid gives each converter its sources and starts the first on each
that is free, and reports source 234 where an earlier scan is not finished; at another instant it changes nothing.
SURVEY_TRIG_EDGE less than 50 ns after the last edge changes nothing (R407; which of two such edges counts is the model's
choice, log 61); another records the instant and triggers exactly the sequences armed on that edge: a ready one runs, a
running one counts an overrun. On a free converter SURVEY_CONVERSION_START starts scan work first, then what the calibration
of the converter needs (a zero-input conversion, or a parallel pair), then the first waiting entry that is its own and fits;
on a busy one it changes nothing. SURVEY_CONVERSION_DONE whose window ends in this frame goes to that instant, counts OVLD
and frees the converter: a scan or a sequence result is its source's value and time, an injected one writes INJECT_RESULT
with the sign of its flags and sends the event, a calibration keeps the result; later it changes nothing. In a state that
serves the path: SEQ_START of a ready sequence starts a run, whose entries wait for their converters; INJECT_REQUEST of a
legal word on a free converter that fits starts the conversion, on the tender while it stands in, and on a busy one is
counted as dropped. (R127, R128, R129, R130, R132, R133, R135, R137, R159, R160, R407) -/
def Obligations.SurveyCommandsAndConversions : Prop :=
  (∀ s : State, s.Live →
    (s.frameIx % 10 = 0 → s.survey.scanAt ≠ some s.frames →
      let late := s.survey.scan.any (fun p => !p.2.isEmpty) || s.survey.conv.any (fun p => decide (p.2.kind = .scan))
      let lists := (List.range 8).foldl (fun (t : Tab (List Nat)) v => Tab.put t v (scanList v s.frameIx (s.survey.fast.getD 2 0)) []) []
      exec .surveyScan s = .next (State.settle { s with
        survey := ((List.range 8).foldl Core.startScan { s.toCore with survey := { s.survey with
          scan := lists, scanAt := some s.frames, fast := (s.fastMask :: s.survey.fast).take 3 } }).survey
        faults := if late then { s.faults with raised := [⟨234, [], [], [], true⟩] } else s.faults })) ∧
    (s.frameIx % 10 ≠ 0 ∨ s.survey.scanAt = some s.frames → exec .surveyScan s = .next s) ∧
    (∀ (rising : Bool) (at_ : Nat),
      let c := s.toCore.advance at_
      let hit := fun (q : Fin 4) => let m := c.rd (OD.TRIG_MODE_2720 + 256 * q); m = 3 ∨ (m = 1 ∧ rising = true) ∨ (m = 2 ∧ rising = false)
      (c.edgeTakes = false → exec (.surveyTrigEdge rising at_) s = .next { s with toCore := c }) ∧
      (c.edgeTakes = true →
      ∃ u : State, exec (.surveyTrigEdge rising at_) s = .next (State.settle u) ∧ u.rd OD.LAST_EDGE = time64 c.now ∧ u.now = c.now ∧
        u.pending = s.pending ∧
        ∀ q : Fin 4, let state := OD.SEQ_STATE_2720 + 256 * q
          (hit q → c.rd state = 1 → u.rd state = 2 ∧
            u.rd (OD.RUN_COUNT_2720 + 256 * q) = count32 (c.rd (OD.RUN_COUNT_2720 + 256 * q)) 1 ∧
            u.rd (OD.LAST_TRIGGER_2720 + 256 * q) = time64 c.now ∧ (u.seq q).left = c.rd (OD.ENTRY_COUNT_2720 + 256 * q)) ∧
          (hit q → c.rd state = 2 → u.rd state = 2 ∧
            u.rd (OD.TRIG_OVERRUNS_2720 + 256 * q) = count32 (c.rd (OD.TRIG_OVERRUNS_2720 + 256 * q)) 1) ∧
          (¬ hit q ∨ (c.rd state ≠ 1 ∧ c.rd state ≠ 2) → u.rd state = c.rd state ∧
            u.rd (OD.RUN_COUNT_2720 + 256 * q) = c.rd (OD.RUN_COUNT_2720 + 256 * q) ∧ u.seq q = c.seq q))) ∧
    (∀ (rising : Bool) (at_ : Nat), (∀ q : Fin 4, s.rd (OD.TRIG_MODE_2720 + 256 * q) = 0) →
      let c := s.toCore.advance at_
      (s.survey.edgeAt = none ∨ ∃ t, s.survey.edgeAt = some t ∧ t + nsU 50 ≤ c.up) →
      exec (.surveyTrigEdge rising at_) s = .next { s with toCore :=
        { c with survey := { c.survey with edgeAt := some c.up } }.set OD.LAST_EDGE (time64 c.now) }) ∧
    (∀ (v : Fin 8) (src : Nat) (r : List Nat), Tab.find? s.survey.conv v = none → Tab.get s.survey.scan v [] = src :: r →
      exec (.surveyConversionStart ⟨v, by omega⟩ 0) s = .next { s with survey := { s.survey with
        scan := Tab.put s.survey.scan v r []
        conv := Tab.set s.survey.conv v ⟨.scan, src, 0, 0, 0, 0, s.up + nsU (convTime 0),
          s.cal.survey.any (fun y => y.conv == v.val)⟩ } }) ∧
    (∀ (v : Fin 8) (y : SurvCal), s.cal.survey = some y → y.conv = v.val → y.next = 1 → s.fits v 0 = true →
      Tab.find? s.survey.conv v = none → Tab.find? s.survey.conv 8 = none → Tab.get s.survey.scan v [] = [] →
      let x := fun t => (⟨.cal, 64 + v, 0, 0, y.begun + 1, 0, s.up + nsU (convTime 0), t⟩ : Conv)
      exec (.surveyConversionStart ⟨v, by omega⟩ 0) s = .next { s with
        cal := { s.cal with survey := some { y with begun := y.begun + 1 } }
        survey := { s.survey with conv := Tab.set (Tab.set s.survey.conv v (x true)) 8 (x false) } }) ∧
    (∀ (v : Fin 9) (x : Conv), Tab.find? s.survey.conv v = some x →
      exec (.surveyConversionStart v 0) s = .next s) ∧
    (∀ (v : Fin 9) (y : SurvCal), s.cal.survey = some y → Tab.find? s.survey.conv v = none → Tab.get s.survey.scan v [] = [] →
      ((v.val = y.conv ∧ v.val < 8 ∧ s.fits v 0 = true ∧ y.opens.length < 16) ∨
        (v.val = 8 ∧ 16 ≤ y.opens.length ∧ 32 ≤ y.xs.countP (fun p => (Tab.find? y.ts p.1).isSome) ∧ y.zs.length < 32)) →
      exec (.surveyConversionStart v 0) s = .next { s with survey := { s.survey with
        conv := Tab.set s.survey.conv v ⟨.cal, 0, 0, 0, 0, 0, s.up + nsU (convTime 0), y.conv == v.val⟩ } }) ∧
    (∀ (v : Fin 8) (w : SeqWait), Tab.find? s.survey.conv v = none → Tab.get s.survey.scan v [] = [] → s.toCore.calStart v = none →
      s.survey.waits.find? (fun w => converterOf (entSource (s.seqEntry w.seq w.entry)) == v) = some w →
      s.fits v (entRate (s.seqEntry w.seq w.entry)) = true →
      let e := s.seqEntry w.seq w.entry
      exec (.surveyConversionStart ⟨v, by omega⟩ 0) s = .next { s with survey := { s.survey with
        waits := s.survey.waits.erase w
        conv := Tab.set s.survey.conv v ⟨.seq, entSource e, entRate e, w.seq, w.entry, w.run, s.up + nsU (convTime (entRate e)),
          s.cal.survey.any (fun y => y.conv == v.val)⟩ } }) ∧
    (∀ (v : Fin 9) (x : Conv) (r : BitVec 24) (clip : Bool), Tab.find? s.survey.conv v = some x → x.kind = .cal → x.ends = s.up →
      s.up < s.upFrame + frameUnits →
      exec (.surveyConversionDone v r false clip) s = .next { s with
        survey := { s.survey with conv := Tab.erase s.survey.conv v }
        cal := { s.cal with survey := s.cal.survey.map (fun y => y.add x (decide (v.val ≠ 8)) (toSigned 24 r.toNat)) } }) ∧
    (∀ (v : Fin 9) (x : Conv) (r : BitVec 24) (clip : Bool), Tab.find? s.survey.conv v = some x → x.kind = .inject → x.ends = s.up →
      s.up < s.upFrame + frameUnits →
      let rec_ := resultRecord r.toNat false clip x.tender false false s.now (s.rd OD.INJECT_ACCEPTED)
      exec (.surveyConversionDone v r false clip) s = .next (State.settle { s with
        regs := storePut (storePut s.regs (okey OD.INJECT_RESULT 0) rec_) (okey OD.INJECT_STATE 0) 0
        survey := { s.survey with conv := Tab.erase s.survey.conv v }
        events := [⟨8, OD.INJECT_RESULT, s.now, be 20 rec_⟩] }))) ∧
  (∀ (s : State) (v : Fin 9) (x : Conv) (r : BitVec 24) (ovld clip : Bool), s.Live → Tab.find? s.survey.conv v = some x →
    x.source ≤ 103 → x.seq < 4 → x.entry < 256 →
    (s.upFrame + frameUnits ≤ x.ends → exec (.surveyConversionDone v r ovld clip) s = .next s) ∧
    (x.ends < s.upFrame + frameUnits →
      let c := s.toCore.advanceTo (s.now + (x.ends - s.up))
      ∃ u : State, exec (.surveyConversionDone v r ovld clip) s = .next (State.settle u) ∧ u.now = c.now ∧ u.pending = s.pending ∧
        u.rd OD.OVLD_RESULTS_2710 = (if ovld then count32 (c.rd OD.OVLD_RESULTS_2710) 1 else c.rd OD.OVLD_RESULTS_2710) ∧
        (x.kind ≠ .scan → Tab.find? u.survey.conv v = none) ∧
        (x.kind = .scan ∨ x.kind = .seq → u.rd OD.SOURCE_VALUE x.source = ofSigned 32 (toSigned 24 r.toNat) ∧
          u.rd OD.SOURCE_TIME x.source = time64 c.now) ∧
        (x.kind = .inject → u.rd OD.INJECT_STATE = 0 ∧
          u.rd OD.INJECT_RESULT = resultRecord r.toNat ovld clip x.tender false false c.now (c.rd OD.INJECT_ACCEPTED)))) ∧
  (∀ (s : State) (p : Path), s.Serves p →
    (∀ q : Fin 4, s.rd (OD.SEQ_STATE_2720 + 256 * q) = 1 →
      let n := s.rd (OD.ENTRY_COUNT_2720 + 256 * q)
      let run := count32 (s.rd (OD.RUN_COUNT_2720 + 256 * q)) 1
      exec (.seqStart p q 1) s = .next { s with
        result := 0
        regs := storePut (storePut (storePut s.regs (okey (OD.SEQ_STATE_2720 + 256 * q) 0) 2)
          (okey (OD.RUN_COUNT_2720 + 256 * q) 0) run) (okey (OD.LAST_TRIGGER_2720 + 256 * q) 0) (time64 s.now)
        survey := { s.survey with
          seqs := Tab.put s.survey.seqs q { s.seq q with left := n } SeqRec.reset
          waits := (List.range n).foldl (fun l e => insertWait ⟨s.now, q, e, run⟩ l) s.survey.waits } }) ∧
    (∀ v : BitVec 16, v.toNat < 2 ^ 11 → bit v.toNat 7 = false → bits v.toNat 6 0 ≤ 103 → bits v.toNat 10 8 ≤ 4 →
      let src := bits v.toNat 6 0
      let cv := src % 8
      let rate := bits v.toNat 10 8
      (Tab.find? s.survey.conv cv = none → Tab.get s.survey.scan cv [] = [] → s.fits cv rate = true → s.rd OD.INJECT_STATE ≠ 1 →
        exec (.injectRequest p v) s = .next { s with
          result := 0
          regs := storePut (storePut s.regs (okey OD.INJECT_ACCEPTED 0) (count32 (s.rd OD.INJECT_ACCEPTED) 1)) (okey OD.INJECT_STATE 0) 1
          survey := { s.survey with
            conv := Tab.set s.survey.conv cv ⟨.inject, src, rate, 0, 0, 0, s.up + nsU (convTime rate),
              s.cal.survey.any (fun y => y.conv == cv)⟩ } }) ∧
      ((∃ x, Tab.find? s.survey.conv cv = some x) →
        exec (.injectRequest p v) s = .next { s with
          result := 0, regs := storePut s.regs (okey OD.INJECT_DROPS 0) (count32 (s.rd OD.INJECT_DROPS) 1) })))

/-- In a live state, while the monitor channels run and the channel's link is up: MONITOR_RESULT with the frame's tag and no
overload by 2.8 us after the boundary, from a channel in no overlap that is not marked dark and is no tap, stores the word
and its corrected current, remembers the frame and, of an earlier frame, the last word, and counts a clipped one; one from a
tap also forms the tap's power, history and flags and the lines 243 and 244 that the collector then samples; MONITOR_RESULT
with another tag or after that time and MONITOR_RESULT_MISSING mark the link's frame as missing results where the result is
a sample of its channel, else change nothing; a result with OVLD, or of a channel marked dark, counts, marks its link and
asserts 228 + die; a tender's result with its input open is kept, and without an overlap changes nothing; in a run each
window's results of the channel and of the tender are kept, and that of the block is the channel's word (how long the open
phase lasts and where the run begins is the model's choice, log 56; what an overloaded or missing result does to powers and
lit counts, log 57). LIT_STATE_CHANGE of an input past its threshold for LIT_FRAMES frames inverts its lit state; with fewer
it changes nothing. Nothing else changes. (R14, R50, R63, R121, R122, R123, R125, R155) -/
def Obligations.MonitorResultsAndLitStates : Prop :=
  ∀ s : State, s.Live →
    (∀ (ch : Fin 9728) (w0 : BitVec 32), s.monRuns = true → (s.link (chanDie ch)).up = true → bits w0.toNat 3 0 = s.frameIx % 16 →
      s.resultsOver = false → s.toCore.overlapOf ch = none → bit w0.toNat 7 = false → s.rd OD.DARK_FAIL ch ≠ 1 →
      let k : Fin 9880 := ⟨ch, by omega⟩
      let w := setBits w0.toNat 5 4 0
      let c : Core := { s.toCore with
        regs := storePut (storePut s.regs (okey OD.MON_RESULT ch) w) (okey OD.MON_CURRENT ch)
          (ofSigned 32 (idivFree (s.corrected ch w * 200000000) (2 ^ 38 * 8388607)))
        monPrev := if Tab.get s.monAt ch 0 = s.frames + 1 then s.monPrev
          else Tab.put s.monPrev ch (s.rd OD.MON_RESULT ch, s.rd OD.MON_CURRENT ch, Tab.get s.monAt ch 0) (0, 0, 0)
        monAt := Tab.put s.monAt ch (s.frames + 1) 0 }
      let c := if bit w 6 then
          { c with regs := storePut c.regs (okey OD.CLIP_RESULTS 0) (count64 (c.rd OD.CLIP_RESULTS) 1) } else c
      (ch.val < 8704 → exec (.monitorResult k w0) s = .next { s with toCore := c }) ∧
      (8704 ≤ ch.val → exec (.monitorResult k w0) s = .next (State.settle { s with toCore := c.tapResult (ch - 8704) ch w }))) ∧
    (∀ (ch : Fin 9728) (w0 : BitVec 32), s.monRuns = true → (s.link (chanDie ch)).up = true → bits w0.toNat 3 0 = s.frameIx % 16 →
      s.resultsOver = false →
      let k : Fin 9880 := ⟨ch, by omega⟩
      let w := if s.rd OD.DARK_FAIL ch = 1 then setBits w0.toNat 7 7 1 else w0.toNat
      let g := ch.val / 64
      (s.toCore.overlapOf ch = none → bit w 7 = true → ∃ u : State, exec (.monitorResult k w0) s = .next (State.settle u) ∧
        u.rd OD.MON_RESULT ch = setBits w 5 4 0 ∧ Tab.get u.monAt ch 0 = s.frames + 1 ∧ (u.link (chanDie ch)).ovld = true ∧
        u.rd OD.OVLD_RESULTS_2700 = count64 (s.rd OD.OVLD_RESULTS_2700) 1 ∧ ⟨228 + chanDie ch, [], [], [], false⟩ ∈ u.faults.raised) ∧
      (∀ (x : Overlap) (n : Nat), s.toCore.overlapOf ch = some x → x.window s.frames = some n →
        let kept : Core := if n < 512 then { s.toCore with cal := { s.cal with
            overlaps := Tab.set s.cal.overlaps g { x with xs := Tab.set x.xs n w } } } else s.toCore
        exec (.monitorResult k w0) s = .next (State.settle { s with
          toCore := if n / 16 % 2 = 0 then kept.monitorWord ch (setBits w 5 4 1) else kept }))) ∧
    (∀ (g : Fin 152) (w : BitVec 32), s.monRuns = true → (s.link (g.val / 38)).up = true → bits w.toNat 3 0 = s.frameIx % 16 →
      s.resultsOver = false →
      (Tab.find? s.cal.overlaps g = none → exec (.monitorResult ⟨9728 + g, by omega⟩ w) s = .next s) ∧
      (∀ x : Overlap, Tab.find? s.cal.overlaps g = some x → x.base = none → x.since ≤ s.frames → bit w.toNat 7 = false →
        exec (.monitorResult ⟨9728 + g, by omega⟩ w) s = .next { s with cal := { s.cal with
          overlaps := Tab.set s.cal.overlaps g { x with
            opens := x.opens ++ [wordCode w.toNat]
            base := if 31 ≤ x.opens.length then some (s.frames + 1) else none } } }) ∧
      (∀ (x : Overlap) (n : Nat), Tab.find? s.cal.overlaps g = some x → x.window s.frames = some n →
        let kept : Core := if n < 512 then { s.toCore with cal := { s.cal with
            overlaps := Tab.set s.cal.overlaps g { x with ts := Tab.set x.ts n w.toNat } } } else s.toCore
        exec (.monitorResult ⟨9728 + g, by omega⟩ w) s = .next (State.settle { s with
          toCore := if n / 16 % 2 = 0 then kept else kept.monitorWord x.ch (kept.zeroWord g x w.toNat) }))) ∧
    (∀ (k : Fin 9880), s.monRuns = true → (s.link (resultDie k)).up = true →
      let t : State := if s.toCore.isSample k then { s with
          links := Tab.put s.links (resultDie k) { s.link (resultDie k) with missNow := true } Link.reset } else s
      exec (.monitorResultMissing k) s = .next t ∧
      (∀ w : BitVec 32, bits w.toNat 3 0 ≠ s.frameIx % 16 ∨ s.resultsOver = true → exec (.monitorResult k w) s = .next t)) ∧
    (∀ i : Fin 512, (s.input i).count ≠ 0 → s.rd OD.LIT_FRAMES ≤ (s.input i).count →
      exec (.litStateChange i) s = .next { s with
        inputs := Tab.put s.inputs i { s.input i with lit := !(s.input i).lit, count := 0 } LitIn.reset }) ∧
    (∀ i : Fin 512, (s.input i).count < s.rd OD.LIT_FRAMES → exec (.litStateChange i) s = .next s)

/-- In a live state: STAGING_ENTRY that is well formed, to a die that is not clearing and whose link is up, at least 1 us ahead,
with a free place and no entry of its instant, joins its channel's queue in the order of apply instants; one of the instant
of a queued entry replaces it, and one that finds the queue full joins it and discards the latest, each counted and reported
as source 88 + die; to a die that is clearing or whose link is down it changes nothing; one whose channel or tick is out of
range is counted and reported as source 88 + die; one nearer than 1 us is counted as late and reported as source 72 + die.
CODE_APPLY, at the instant of the first entry where it lies in this frame, takes it out of the queue and puts its code in
force (until the clear codes are loaded the code 0), an entry above the ceiling at the ceiling, counted, and reported as
source 84 + die; a LAST entry counts in MOVE_DONE. DEGLITCH_LOAD, at its instant before an entry of another segment, loads
the code that will be applied. With no entry due both change nothing. Nothing else changes. (R105, R108, R109, R110, R111,
R112, R114, R116) -/
def Obligations.DriveChannelsStageAndApply : Prop :=
  ∀ s : State, s.Live →
    (∀ (d : Die) (e : BitVec 64), (s.clearing (2304 * d) = true ∨ (s.link d).up = false) →
      exec (.stagingEntry d e) s = .next s) ∧
    (∀ (d : Die) (e : BitVec 64), s.clearing (2304 * d) = false → (s.link d).up = true →
      let w := e.toNat
      let te := 2304 * d.val + bits w 63 52
      (bits w 63 52 ≤ 2303 → bits w 28 2 ≤ 99999999 →
        let x : StEntry := ⟨applyInstant s.now (bits w 33 29) (bits w 28 2), bits w 51 34, bit w 1, bit w 0⟩
        (s.now + 65536000 ≤ x.at_ → (∀ q ∈ (s.chan te).queue, q.at_ ≠ x.at_) → (s.chan te).queue.length < 3 →
          exec (.stagingEntry d e) s = .next { s with
            chans := Tab.put s.chans te { s.chan te with queue := queueInsert x (s.chan te).queue } Chan.reset }) ∧
        (s.now + 65536000 ≤ x.at_ → (∃ q ∈ (s.chan te).queue, q.at_ = x.at_) →
          exec (.stagingEntry d e) s = .next (State.settle { s with
            regs := storePut s.regs (okey OD.TICK_COLLISIONS 0) (count32 (s.rd OD.TICK_COLLISIONS) 1)
            chans := Tab.put s.chans te { s.chan te with
              queue := (s.chan te).queue.map (fun q => if q.at_ = x.at_ then x else q) } Chan.reset
            faults := { s.faults with raised := [⟨88 + d, [], [], [], true⟩] } })) ∧
        (s.now + 65536000 ≤ x.at_ → (∀ q ∈ (s.chan te).queue, q.at_ ≠ x.at_) → 3 ≤ (s.chan te).queue.length →
          exec (.stagingEntry d e) s = .next (State.settle { s with
            regs := storePut s.regs (okey OD.QUEUE_OVERFLOWS 0) (count32 (s.rd OD.QUEUE_OVERFLOWS) 1)
            chans := Tab.put s.chans te { s.chan te with queue := (queueInsert x (s.chan te).queue).take 3 } Chan.reset
            faults := { s.faults with raised := [⟨88 + d, [], [], [], true⟩] } })) ∧
        (x.at_ < s.now + 65536000 →
          exec (.stagingEntry d e) s = .next (State.settle { s with
            regs := storePut s.regs (okey OD.LATE_ENTRIES 0) (count32 (s.rd OD.LATE_ENTRIES) 1)
            faults := { s.faults with raised := [⟨72 + d, [], [], [], true⟩] } }))) ∧
      (2303 < bits w 63 52 ∨ 99999999 < bits w 28 2 →
        exec (.stagingEntry d e) s = .next (State.settle { s with
          regs := storePut s.regs (okey OD.MALFORMED_ENTRIES 0) (count32 (s.rd OD.MALFORMED_ENTRIES) 1)
          faults := { s.faults with raised := [⟨88 + d, [], [], [], true⟩] } }))) ∧
    (∀ te : Te, (s.chan te).queue = [] → exec (.codeApply te) s = .next s ∧ exec (.deglitchLoad te) s = .next s) ∧
    (∀ (te : Te) (x : StEntry) (r : List StEntry), (s.chan te).queue = x :: r → s.frameEnd ≤ x.at_ → exec (.codeApply te) s = .next s) ∧
    (∀ (te : Te) (x : StEntry) (r : List StEntry), (s.chan te).queue = x :: r → x.at_ < s.frameEnd →
      let c := s.toCore.advanceTo x.at_
      let regs := storePut c.regs (okey OD.DRIVE_CODE te) (if s.drivesUp then min x.code (s.ceiling te) else 0)
      let regs := if s.ceiling te < x.code then storePut regs (okey OD.CEILING_VIOLATIONS 0) (count32 (c.rd OD.CEILING_VIOLATIONS) 1) else regs
      let regs := if x.last then storePut regs (okey OD.MOVE_DONE 0) (count32 (c.rd OD.MOVE_DONE) 1) else regs
      let chans := Tab.put s.chans te ⟨r, none⟩ Chan.reset
      (x.code ≤ s.ceiling te →
        exec (.codeApply te) s = .next { s with toCore := { c with regs := regs, chans := chans } }) ∧
      (s.ceiling te < x.code →
        exec (.codeApply te) s = .next (State.settle { s with toCore := { c with
          regs := regs, chans := chans, faults := { s.faults with raised := [⟨84 + teDie te, [], [], [], true⟩] } } }))) ∧
    (∀ (te : Te) (x : StEntry) (r : List StEntry), (s.chan te).queue = x :: r → (s.chan te).loaded = none →
      let code := if s.drivesUp then min x.code (s.ceiling te) else 0
      let t := x.at_ - nsU (s.rd OD.DEGLITCH_NS)
      (segment code ≠ segment (s.driven te) → t < s.frameEnd →
        exec (.deglitchLoad te) s = .next { s with toCore := { s.toCore.advanceTo t with
          chans := Tab.put s.chans te { s.chan te with loaded := some code } Chan.reset } }) ∧
      (segment code = segment (s.driven te) ∨ s.frameEnd ≤ t → exec (.deglitchLoad te) s = .next s))

/-- In a live state: LINK_DOWN of a link in service takes it out of service, empties the staging queues of its die and keeps
every code, marks the elements whose queued steps of a traverse are lost (but those of a staged release), gives those whose
traverse has executed the set-point that their code in force stands for, holds the die's loops that are not Parked with
cause 3, drops line 76 + die and asserts line 64 + die; of one out of service it changes nothing. LINK_RETURN of a link that
no test point uses, with four lanes, or two or three at full rate, brings it back into service, or takes the configuration
of one that serves, drops line 64 + die, has the held loops leave Hold at the next boundary, and asserts line 76 + die
unless it has four lanes at full rate; with fewer lanes it is LINK_DOWN. LINK_FLIT_REPLAY on a link in service counts.
LINK_SAMPLES_MISSING in the fourth frame in a row holds the die's loops from the first slot of each and asserts line 68 +
die. LINK_RESTORE_SNAP with no element that owes steps changes nothing. The collector then samples the lines. (R13, R14,
R16, R77, R112) -/
def Obligations.LinksGoDownAndReturn : Prop :=
  ∀ (s : State) (d : Die), s.Live →
    ((s.link d).up = true →
      let inDie := fun te => decide (teDie te = d)
      let cut := s.chans.filter (fun p => inDie p.1 && p.2.queue.any (·.seq) && s.trav.release.all (·.stepped.isNone))
      let part := cut.foldl (fun (c : Core) p =>
        if (p.2.steps s.now).2 then c.modLoop p.1 (fun l => l.loseSteps (p.2.steps s.now).1) else c) s.toCore
      exec (.linkDown d) s = .next (State.settle { s with
        links := Tab.put s.links d { s.link d with up := false, missNow := false, missFrames := 0, releaseDue := false, restoreAt := 0 }
          Link.reset
        chans := s.chans.filter (fun p => decide (teDie p.1 ≠ d))
        loops := Tab.mapIf part.loops inDie Loop.reset (fun _ l => l.holdFor 3)
        trav := { s.trav with owed := s.trav.owed ++ (cut.map (·.1)).filter (fun te => !s.trav.owed.contains te) }
        faults := { s.faults with
          lines := s.faults.lines.filter (· != 76 + d.val), raised := [⟨64 + d, [], [], [], false⟩] } })) ∧
    ((s.link d).up = false → exec (.linkDown d) s = .next s) ∧
    (∀ (lanes : Fin 5) (half : Bool), s.linkTested d = true → exec (.linkReturn d lanes half) s = .next s) ∧
    (∀ (lanes : Fin 5) (half : Bool), s.linkTested d = false → linkServes lanes half = false →
      exec (.linkReturn d lanes half) s = exec (.linkDown d) s) ∧
    (∀ (lanes : Fin 5) (half : Bool), s.linkTested d = false → linkServes lanes half = true →
      let slow := half = true ∨ lanes.val ≠ 4
      let lines := s.faults.lines.filter (· != 64 + d.val)
      exec (.linkReturn d lanes half) s = .next (State.settle { s with
        links := Tab.put s.links d (if (s.link d).up then { s.link d with lanes := lanes, half := half }
          else { s.link d with up := true, lanes := lanes, half := half, returnUp := s.up, releaseDue := true }) Link.reset
        faults := { s.faults with
          lines := if slow then lines else lines.filter (· != 76 + d.val)
          raised := if slow then [⟨76 + d, [], [], [], false⟩] else [] } })) ∧
    ((s.link d).up = false → exec (.linkFlitReplay d) s = .next s) ∧
    ((s.link d).up = false ∨ (s.link d).missFrames + (if (s.link d).missNow then 1 else 0) < 4 →
      exec (.linkSamplesMissing d) s = .next s) ∧
    ((s.link d).up = true →
      exec (.linkFlitReplay d) s = .next { s with
        links := Tab.put s.links d { s.link d with replays := (s.link d).replays + 1 } Link.reset }) ∧
    ((s.link d).up = true → 4 ≤ (s.link d).missFrames + (if (s.link d).missNow then 1 else 0) →
      exec (.linkSamplesMissing d) s = .next (State.settle { s with
        loops := Tab.mapIf s.loops (fun te => decide (teDie te = d)) Loop.reset (fun te l => l.holdAt 3 (s.slotFrame te))
        faults := { s.faults with raised := [⟨68 + d, [], [], [], false⟩] } })) ∧
    ((∀ te ∈ s.trav.owed, teDie te ≠ d) → exec (.linkRestoreSnap d) s = .next s)

/-- In a live state whose link is up with elements of its die owing steps, none yet taken, and at least three frames from the
return to the frame's end, LINK_RESTORE_SNAP answers a next state: in it the elements owing have been counted in SNAP_MOVES,
the boundary at which they leave Hold is two frames on, each channel that owed holds three staged steps, channels and loops
of elements that owe nothing on this die are as they were, and the configuration sets, the time, the commit and the Motin
engine's keys and numbers are as they were. (R16, R194) -/
def Obligations.RestoreAfterLinkReturnTakesTheOwedSteps : Prop :=
  ∀ (s : State) (d : Die), s.Live → (s.link d).up = true → (s.link d).restoreAt = 0 →
    (∃ te ∈ s.trav.owed, teDie te = d) → (s.link d).returnUp + 3 * frameUnits ≤ s.upFrame + frameUnits →
    (∀ te ∈ s.trav.owed, teDie te = d → (s.chan te).queue = [] ∧ s.clearing te = false ∧ s.now + 65536000 ≤ s.frameEnd) →
    s.trav.owed.Nodup →
    ∃ t : State, exec (.linkRestoreSnap d) s = .next t ∧
      t.rd OD.SNAP_MOVES = count64 (s.rd OD.SNAP_MOVES) (s.trav.owed.countP (fun te => decide (teDie te = d))) ∧
      (t.link d).restoreAt = s.frames + 2 ∧
      (∀ te, te ∉ s.trav.owed ∨ teDie te ≠ d → t.chan te = s.chan te ∧ t.loop te = s.loop te) ∧
      (∀ te, te ∈ s.trav.owed → teDie te = d → (t.chan te).queue.length = 3) ∧
      t.act = s.act ∧ t.shd = s.shd ∧ t.now = s.now ∧ t.up = s.up ∧ t.trav = s.trav ∧ t.pend = s.pend ∧
      t.motin = s.motin ∧ t.snaps = s.snaps ∧ t.pending = s.pending

/-- In a live state: PTP_DELAY_REQ_SEND on an enabled path records the departure at the medium and counts; PTP_PDELAY_REQ
answers in peer mode with one message or, in two-step mode, two; PTP_DELAY_RESP in end-to-end mode after a request and a
Sync, and PTP_PDELAY_RESP in peer mode after a request, form the mean path delay and use the request up; PTP_ANNOUNCE takes
its dataset as the parent where there is none or it is the parent's own or better, then updates UTC_OFFSET if the path is in
use, and changes but those, PORT_STATE and the selection; PTP_SYNC with a parent records the Sync and the offset and makes
the path SLAVE, and where the path is the source in use after it the offset is measured: in Free module time steps by it,
and what the channels have staged keeps its place by frames (the model's choice, log 60); PTP_UNSUPPORTED_MESSAGE counts on
either path. On a disabled path, and before boot step S10, the first five change no instance. The delay and offset formulas
are the model's (log 14), and so are the states 8 and 9 with the order of datasets (log 23), and the loss timeout that
counts from the parent's first Announce and the instances that start at S10 (log 55). Nothing else changes but the time of
the messages that carry one. (R26, R27, R28, R33, R35, R36, R44) -/
def Obligations.PtpMessagesUpdateTheirInstance : Prop :=
  ∀ (s : State) (p : Path), s.Live →
    let x := s.ptpPort p
    let cfg := fun obj => s.rd (obj + 256 * p)
    let put := fun (y : PtpPort) => Tab.put s.ptp p y PtpPort.reset
    exec (.ptpUnsupportedMessage p) s = .next { s with ptp := put { x with discarded := x.discarded + 1 } } ∧
    ((cfg OD.PTP_ENABLE_1302 = 0 ∨ s.rd OD.BOOT_STEP < 10) →
      (∀ d u, exec (.ptpAnnounce p d u) s = .next s) ∧ (∀ a o k, exec (.ptpSync p a o k) s = .next { s with toCore := s.toCore.advance a }) ∧
      exec (.ptpDelayReqSend p) s = .next s ∧ (∀ r k, exec (.ptpDelayResp p r k) s = .next s) ∧
      (∀ a, exec (.ptpPdelayReq p a) s = .next { s with toCore := s.toCore.advance a })) ∧
    (cfg OD.PTP_ENABLE_1302 ≠ 0 → 10 ≤ s.rd OD.BOOT_STEP →
      exec (.ptpDelayReqSend p) s = .next { s with
        ptp := put { x with reqSent := some (s.now + nsU (cfg OD.PHY_TX_LATENCY_1302)), reqCount := x.reqCount + 1 } } ∧
      exec (.ptpPdelayReq p 0) s = .next (if cfg OD.DELAY_MECH_1302 = 1 then { s with
        ptp := put { x with respSent := x.respSent + (if cfg OD.PDELAY_RESP_STEP_1302 = 1 then 2 else 1) } } else s) ∧
      (∀ (t1 t3 : Instant) (r : Instant) (k : Offset), cfg OD.DELAY_MECH_1302 = 0 → x.reqSent = some t3 → x.syncSent = some t1 →
        exec (.ptpDelayResp p r k) s = .next { s with ptp := put { x with
          meanDelay := idivFree (((x.syncGot : Int) - t1 - x.syncCorr) + ((r : Int) - t3 - k)) 2, reqSent := none } }) ∧
      (∀ (t1 r u : Instant) (k : Offset), cfg OD.DELAY_MECH_1302 = 1 → x.reqSent = some t1 →
        exec (.ptpPdelayResp p 0 r u k) s = .next { s with ptp := put { x with
          meanDelay := idivFree ((s.now : Int) - nsU (cfg OD.PHY_RX_LATENCY_1302) - t1 - ((u : Int) - r) - k) 2, reqSent := none } }) ∧
      (∀ (d : PtpDataset) (u : BitVec 16),
        let take := x.parent.all (fun q => decide (q.identity = d.identity) || lexLt (ptpRank d) (ptpRank q))
        ∃ t : State, exec (.ptpAnnounce p d u) s = .next t ∧
          t = { s with
            ptp := if take then put { x with
                parent := some d, utc := u.toNat, lastValid := if x.parent.isSome then x.lastValid else s.up } else s.ptp
            regs := t.regs, time := { s.time with fresh := t.time.fresh } } ∧
          (take = true → t.rd OD.SOURCE_ACTIVE = p → t.rd OD.UTC_OFFSET = u.toNat) ∧
          t.rd (OD.PORT_STATE_1302 + 256 * p) = (if cfg OD.PORT_STATE_1302 = 9 then 9 else 8) ∧
          (∀ o e, e < 1048576 → o ≠ OD.PORT_STATE_1302 + 256 * p → o ≠ OD.SOURCE_ACTIVE → o ≠ OD.UTC_OFFSET → t.rd o e = s.rd o e)) ∧
      (∀ (t1 : Instant) (k : Offset), x.parent.isSome →
        let off : Int := (s.now : Int) - nsU (cfg OD.PHY_RX_LATENCY_1302) - t1 - k - x.meanDelay - toSigned 32 (cfg OD.ASYMMETRY_1302) * 65536
        ∃ u : State, exec (.ptpSync p 0 t1 k) s = .next (State.settle u) ∧
          u = { s with
            regs := u.regs, ptp := u.ptp, time := u.time, now := u.now, events := u.events, faults := u.faults
            chans := u.chans, trav := u.trav } ∧
          (let moved := s.toCore.shiftStaged ((u.frameStart : Int) - s.frameStart)
            if s.timeState = tsFree ∧ u.rd OD.SOURCE_ACTIVE = p then u.chans = moved.chans ∧ u.trav = moved.trav
            else u.chans = s.chans ∧ u.trav = s.trav) ∧
          u.rd (OD.PORT_STATE_1302 + 256 * p) = 9 ∧ (u.ptpPort p).syncSent = some t1 ∧ (u.ptpPort p).lastValid = s.up ∧
          (u.rd OD.SOURCE_ACTIVE ≠ p → u.now = s.now ∧ u.events = [] ∧ (u.ptpPort p).lastOffset = some off) ∧
          (u.rd OD.SOURCE_ACTIVE = p → u.rd OD.OFFSET_LAST = ofSigned 64 off ∧ u.time.lastValid = s.up ∧
            u.now = (if s.timeState = tsFree then ((s.now : Int) - off).toNat else s.now))) ∧
      (∀ (q d : PtpDataset) (u : BitVec 16), x.parent = some q → q.identity = d.identity → cfg OD.PORT_STATE_1302 = 9 →
        s.timeSource = p.val → s.rd OD.SOURCE_ACTIVE = p →
        exec (.ptpAnnounce p d u) s = .next { s with
          ptp := put { x with parent := some d, utc := u.toNat }
          regs := storePut (storePut s.regs (okey OD.SOURCE_ACTIVE 0) p) (okey OD.UTC_OFFSET 0) u.toNat }) ∧
      (∀ (q : PtpDataset) (t1 : Instant) (k : Offset), x.parent = some q → cfg OD.PORT_STATE_1302 = 9 → s.timeSource = 3 →
        s.rd OD.SOURCE_ACTIVE = 3 →
        let t2 : Int := (s.now : Int) - nsU (cfg OD.PHY_RX_LATENCY_1302)
        exec (.ptpSync p 0 t1 k) s = .next { s with
          ptp := put { x with
            syncSent := some t1, syncGot := t2.toNat, syncCorr := k, lastValid := s.up
            lastOffset := some (t2 - t1 - k - x.meanDelay - toSigned 32 (cfg OD.ASYMMETRY_1302) * 65536) }
          regs := storePut (storePut s.regs (okey (OD.PORT_STATE_1302 + 256 * p) 0) 9) (okey OD.SOURCE_ACTIVE 0) 3 }))

/-- In a state that serves the path, calm: TIME_SET of a valid TIME64, from the manual source or from PPS without time of day,
outside Free records the offset: none locks a manual source, one within STEP_THRESHOLD is slewed in Acquiring, a larger one
under policy 1 becomes a step and else waits as PENDING_STEP, with line 3 and, of a manual source, in Holdover; STEP_ACCEPT
of 1 with nothing pending changes nothing, and with a pending step fixes it for the end of the frame, rounded to whole
frames, with the rest to slew, and drops line 3. In a live state: LOSS_TIMEOUT leaves a lost instance no parent and
listening, and with no measurement for LOSS_TIMEOUT goes to Holdover with an event, the time-lock line and a count, unless a
healthy instance takes over; SLEW_END of a finished slew ends it; PPS_IN_EDGE of the active edge records the instant, and
while PPS is the source it is measured against a whole second (from boot step S10 on) or, in Locked more than 1 us off one,
rejected and counted; of the other edge it changes only the time; PPS_OUT_RISE at its instant in this frame raises the pin,
and PPS_OUT_FALL lowers it. Nothing else changes. (The model's choices: STEP_ACCEPT with no step pending and the second that
a PPS edge names, log 55; the rounding and the sign of the offsets, log 32; listening state and lost parent, log 23.) (R26,
R30, R31, R33, R34, R35, R36, R37, R418) -/
def Obligations.TimeCommandsAndPulses : Prop :=
  (∀ (s : State) (p : Path), s.Serves p →
    (∀ v : BitVec 112, time64Valid v.toNat = true → s.timeSource = 4 → s.timeState = tsLocked → ofTime64 v.toNat = s.now →
      s.rd OD.PENDING_STEP = 0 →
      exec (.timeSet p v) s = .next { s with
        result := 0
        regs := storePut s.regs (okey OD.OFFSET_LAST 0) 0
        time := { s.time with slew := 0, slewing := false, dueStep := none, lockAtBoundary := false, pendingFromSet := false } }) ∧
    (∀ v : BitVec 112, time64Valid v.toNat = true → s.timeState ≠ tsFree → (s.timeSource = 4 ∨ (s.timeSource = 3 ∧ s.ptpTod = false)) →
      let raw : Int := (s.now : Int) - ofTime64 v.toNat
      let off := if s.timeSource = 3 then roundNear raw secondUnits * secondUnits else raw
      let step := roundNear off frameUnits * frameUnits
      ∃ u : State, exec (.timeSet p v) s = .next (State.settle u) ∧ u.result = 0 ∧ u.now = s.now ∧ u.up = s.up ∧ u.pend = s.pend ∧
        u.rd OD.OFFSET_LAST = ofSigned 64 off ∧
        (off = 0 → u.timeState = if s.timeSource = 4 then tsLocked else s.timeState) ∧
        (off ≠ 0 → off.natAbs ≤ nsU (s.rd OD.STEP_THRESHOLD) → u.timeState = tsAcquiring ∧ u.time.slew = off ∧ u.time.slewing = true) ∧
        (off ≠ 0 → nsU (s.rd OD.STEP_THRESHOLD) < off.natAbs → s.rd OD.STEP_POLICY = 1 →
          u.timeState = s.timeState ∧ u.time.dueStep = some (-step) ∧ u.time.slew = off - step) ∧
        (off ≠ 0 → nsU (s.rd OD.STEP_THRESHOLD) < off.natAbs → s.rd OD.STEP_POLICY ≠ 1 →
          u.rd OD.PENDING_STEP = ofSigned 64 off ∧ ⟨3, [], [], [], false⟩ ∈ u.faults.raised ∧
            u.timeState = if s.timeSource = 3 then s.timeState else tsHoldover)) ∧
    (s.rd OD.PENDING_STEP = 0 → exec (.stepAccept p 1) s = .next { s with result := 0 }) ∧
    (s.rd OD.PENDING_STEP ≠ 0 →
      let off := toSigned 64 (s.rd OD.PENDING_STEP)
      let step := roundNear off frameUnits * frameUnits
      exec (.stepAccept p 1) s = .next { s with
        result := 0
        regs := storePut s.regs (okey OD.PENDING_STEP 0) 0
        faults := { s.faults with lines := s.faults.lines.filter (· != 3) }
        time := { s.time with dueStep := some (-step), slew := off - step, slewing := false } })) ∧
  (∀ s : State, s.Live →
    (∀ p : Path, s.timeSource = 3 → s.rd OD.SOURCE_ACTIVE = 3 → (s.timeState = tsFree ∨ s.timeState = tsHoldover) →
      (s.ptpPort p).parent.isSome → s.toCore.alive p = false →
      ((s.ptpPort (1 - p.val)).parent = none ∨ s.toCore.alive (1 - p.val) = true) →
      exec .lossTimeout s = .next { s with
        ptp := Tab.put s.ptp p { s.ptpPort p with parent := none } PtpPort.reset
        regs := storePut (storePut s.regs (okey (OD.PORT_STATE_1302 + 256 * p) 0) 4) (okey OD.SOURCE_ACTIVE 0) 3 }) ∧
    (s.timeSource = 3 → s.rd OD.SOURCE_ACTIVE = 3 → (s.timeState = tsAcquiring ∨ s.timeState = tsLocked) →
      (∀ p : Path, (s.ptpPort p).parent = none ∨ s.toCore.alive p = true) →
      s.time.lastValid + nsU (s.rd OD.LOSS_TIMEOUT) ≤ s.up →
      exec .lossTimeout s = .next (State.settle { s with
        regs := storePut (storePut (storePut s.regs (okey OD.SOURCE_ACTIVE 0) 3) (okey OD.TIME_STATE 0) 3) (okey OD.LOSS_COUNT 0)
          (count32 (s.rd OD.LOSS_COUNT) 1)
        time := { s.time with good := 0, bad := 0, holdSince := some s.up, ppsOut := s.time.ppsOut && decide (s.rd OD.PPS_OUT_MODE = 1) }
        events := [⟨2, OD.TIME_STATE, s.now, be 1 3⟩]
        faults := { s.faults with raised := [⟨2, [], [], [], false⟩] } })) ∧
    (let lost := s.timeSource ≠ 4 ∧ (s.timeState = tsAcquiring ∨ s.timeState = tsLocked) ∧
        s.time.lastValid + nsU (s.rd OD.LOSS_TIMEOUT) ≤ s.up
      ∃ u : State, exec .lossTimeout s = .next (State.settle u) ∧ u.now = s.now ∧ u.pending = s.pending ∧
        (∀ p : Path, if (s.ptpPort p).parent.isSome ∧ s.toCore.alive p = false then
            (u.ptpPort p).parent = none ∧ u.rd (OD.PORT_STATE_1302 + 256 * p) = 4
          else u.ptpPort p = s.ptpPort p ∧ u.rd (OD.PORT_STATE_1302 + 256 * p) = s.rd (OD.PORT_STATE_1302 + 256 * p)) ∧
        (¬ lost → u.timeState = s.timeState) ∧
        (lost → (s.timeSource = 2 ∧ u.rd OD.SOURCE_ACTIVE ≤ 1 ∧ u.toCore.healthy (u.rd OD.SOURCE_ACTIVE) = true ∧ u.timeState = s.timeState) ∨
          (u.timeState = tsHoldover ∧ u.rd OD.LOSS_COUNT = count32 (s.rd OD.LOSS_COUNT) 1))) ∧
    (s.time.slewing = false ∨ s.time.slew ≠ 0 → exec .slewEnd s = .next s) ∧
    (s.time.slewing = true → s.time.slew = 0 →
      exec .slewEnd s = .next { s with time := { s.time with
        slewing := false, lockAtBoundary := decide (s.timeSource = 4)
        pendingFromSet := s.time.pendingFromSet && decide (s.rd OD.PENDING_STEP ≠ 0) } }) ∧
    (∀ (rising : Bool) (at_ : Nat), rising = decide (s.rd OD.PPS_IN_EDGE = 0) → (s.timeSource ≠ 3 ∨ s.rd OD.BOOT_STEP < 10) →
      let c := s.toCore.advance at_
      exec (.ppsInEdge rising at_) s = .next { s with toCore := c.set OD.PPS_IN_LAST (time64 c.now) }) ∧
    (∀ (rising : Bool) (at_ : Nat), rising = decide (s.rd OD.PPS_IN_EDGE = 0) → s.timeSource = 3 → 10 ≤ s.rd OD.BOOT_STEP →
      let c := s.toCore.advance at_
      let edge : Int := (c.now : Int) - nsU (s.rd OD.PPS_IN_DELAY)
      let rejected := s.timeState = tsLocked ∧ nsU 1000 < (edge - roundNear edge secondUnits * secondUnits).natAbs
      ∃ u : State, exec (.ppsInEdge rising at_) s = .next (State.settle u) ∧
        u = { s with toCore := { c with
          regs := u.regs, ptp := u.ptp, time := u.time, now := u.now, events := u.events, faults := u.faults
          chans := u.chans, trav := u.trav } } ∧
        (s.timeState ≠ tsFree → u.chans = c.chans ∧ u.trav = c.trav) ∧
        u.rd OD.PPS_IN_LAST = time64 c.now ∧
        (rejected → u.rd OD.PPS_IN_REJECTED = count32 (c.rd OD.PPS_IN_REJECTED) 1 ∧ u.time = c.time ∧ u.now = c.now) ∧
        (¬ rejected → ∃ second : Int, u.rd OD.OFFSET_LAST = ofSigned 64 (edge - second * secondUnits) ∧ u.time.lastValid = c.up ∧
          (s.toCore.ptpTod = false → second = roundNear edge secondUnits) ∧
          u.now = (if s.timeState = tsFree then ((c.now : Int) - (edge - second * secondUnits)).toNat else c.now))) ∧
    (∀ (rising : Bool) (at_ : Nat), rising ≠ decide (s.rd OD.PPS_IN_EDGE = 0) →
      exec (.ppsInEdge rising at_) s = .next { s with toCore := s.toCore.advance at_ }) ∧
    (∀ n : Nat, s.ppsAllowed = true →
      let t := n * secondUnits - nsU (s.rd OD.PPS_OUT_ADVANCE)
      nsU (s.rd OD.PPS_OUT_ADVANCE) ≤ n * secondUnits → s.now ≤ t → t < s.frameEnd → s.time.ppsSecond ≠ some (n * secondUnits) →
      exec .ppsOutRise s = .next { s with toCore := { s.toCore.advanceTo t with time := { s.time with
        ppsOut := true, ppsSecond := some (n * secondUnits)
        ppsFallAt := s.up + (t - s.now) + nsU (s.rd OD.PPS_OUT_WIDTH) } } }) ∧
    (s.ppsAllowed = false → exec .ppsOutRise s = .next s) ∧
    (s.time.ppsOut = true → s.time.ppsFallAt < s.upFrame + frameUnits →
      exec .ppsOutFall s = .next { s with time := { s.time with ppsOut := false } }) ∧
    (s.time.ppsOut = false ∨ s.upFrame + frameUnits ≤ s.time.ppsFallAt → exec .ppsOutFall s = .next s))

/-- In a state that serves the path, calm and in Free, TIME_SET of a valid TIME64 with time source 3 (with or without PTP time
of day) or 4 answers a state, with an event to send, whose module time is the value written, whose running time is as
before, whose time state is Acquiring for source 3 and Locked for source 4; it writes no object but OFFSET_LAST, TIME_STATE
and SOURCE_ACTIVE, which is that source, keeps the Motin engine's keys and numbers, the pending writes, both configuration
sets and the loops, and moves what the drive channels have staged by the frames that the label moves (the model's choice,
log 60). (R32, R33, R37, R44) -/
def Obligations.FirstMeasurementStepsModuleTime : Prop :=
  ∀ (s : State) (p : Path) (v : BitVec 112), s.Serves p → s.timeState = tsFree → time64Valid v.toNat = true →
    (s.timeSource = 4 ∨ s.timeSource = 3) →
    ∃ t : State, exec (.timeSet p v) s = .next (State.settle t) ∧ t.now = ofTime64 v.toNat ∧ t.up = s.up ∧
      t.timeState = (if s.timeSource = 4 then tsLocked else tsAcquiring) ∧
      t.rd OD.SOURCE_ACTIVE = s.timeSource ∧
      (∀ o e, okey o e ≠ okey OD.OFFSET_LAST 0 → okey o e ≠ okey OD.TIME_STATE 0 → okey o e ≠ okey OD.SOURCE_ACTIVE 0 →
        t.rd o e = s.rd o e) ∧
      t.act = s.act ∧ t.shd = s.shd ∧ t.pend = s.pend ∧ t.loops = s.loops ∧
      t.chans = (s.toCore.shiftStaged ((t.frameStart : Int) - s.frameStart)).chans ∧ t.motin = s.motin ∧
      t.pending = s.pending

/-- In a live state: LOOP_SLOT of a loop whose slot is past in this frame changes nothing; else a waiting Hold takes effect, the
coach notes its slot, and a loop that runs in this frame starts its program at instruction 0 with its set-point; a program
still running is first overrun. Where the dies run and a coach's program is at the instruction, whatever its registers and
its loop: LDM loads the corrected taps and the overload flag, and reports source 138 + die for each link with a result
missing; NRM forms the ratio or a VOA's loss, sets LIT and USABLE, on a usable loop goes on, and decides the entry to
Acquire of one that leaves Parked, Hold or Coast, and on another branches to the operand's target; PHS forms the measured
phase or balance (free where the ratio has nothing below the line); JMP goes to the operand; END stops the program and
closes the loop frame: with samples missing it counts it, else it commits what was decided, and an unusable loop outside
Coast and Trim, not one that stays in Hold or Parked, enters Coast. Each adds its clocks, and nothing else changes. With the
factory image nothing follows an instruction; with an owner's, the routine of its dispatch entry has run beside it, and its
own instructions that are next follow in the same command. (The model's: what a frame with samples missing leaves of the
unobservable time, log 51; what the owner's routines run with, logs 22 and 53.) (R63, R64, R70, R72, R74, R77, R82, R86,
R87, R89, R90, R93) -/
def Obligations.LoopProgramControlInstructions : Prop :=
  (∀ (c : Core) (n : Nat), c.ucode.active = none → (∀ (op : Nat) (x : CoachRec), c.ownerAfter n op x = c) ∧ c.ownerRun n = c) ∧
  (∀ (s : State) (te : Te), s.Live →
    let n := te.val / 256
    let x := s.coach n
    let l := (s.loop te).takeHold
    let runs := s.loopFrame && !l.frozen && (l.leaving || (decide (l.st ≠ .parked) && decide (l.st ≠ .hold)))
    let noted := { x with slotAt := s.frames + 1, slotJ := te % 256 }
    let coaches := Tab.put s.coaches n noted CoachRec.reset
    let loops := Tab.put s.loops te l Loop.reset
    (s.slotAhead te = false → exec (.loopSlot te) s = .next s) ∧
    (s.slotAhead te = true → x.running = false →
      (runs = false → exec (.loopSlot te) s = .next { s with coaches := coaches, loops := loops }) ∧
      (runs = true → exec (.loopSlot te) s = .next (State.settle { s with toCore := Core.ownerRun { s.toCore with
        loops := Tab.put loops te { l with uPrev := l.u } Loop.reset
        coaches := Tab.put coaches n { noted.idle with running := true, te := te, sp := l.sp } CoachRec.reset } n }))) ∧
    (s.slotAhead te = true → x.running = true →
      exec (.loopSlot te) s = .next (State.settle { s with toCore := Core.loopSlot (s.toCore.slotOverrun n) te }))) ∧
  (∀ (s : State) (n : Coach) (opr : Nat), s.dead = false → (s.coach n).running = true → (s.coach n).pc < 32 →
    let x := s.coach n
    let te := x.te
    let l := s.loop te
    let y := fun k => { x with pc := x.pc + 1, opr := opr, cycles := x.cycles + k }
    let coach := fun (z : CoachRec) => Tab.put s.coaches (te / 256) z CoachRec.reset
    let loop := fun (m : Loop) => Tab.put s.loops te m Loop.reset
    let found := { x with pc := x.pc + 1, opr := opr }
    let ends := fun (op : Nat) (u : Core) =>
      (Host.Outcome.next (State.settle { s with toCore := u.ownerAfter n op found }) : Host.Outcome State Fault Refusal)
    (s.instruction n = (0x01, opr) →
      let chs := s.ldmChannels te (opr % 2)
      let gone := [0, 1, 2, 3].filter (fun d => chs.any (fun ch => !s.monHere ch && chanDie ch == d))
      exec (.ldm n) s = ends 0x01 { s.toCore with
        coaches := coach { y (if opr % 2 = 0 then 12 else 7) with
          taps := chs.map (s.tap (if opr % 2 = 0 then te / 2 else te)), ovld := chs.any (fun ch => bit (s.monWord ch) 7)
          missing := chs.any (fun ch => !s.monHere ch) }
        faults := { s.faults with raised := s.faults.raised ++ gone.map (fun d => ⟨138 + d, [te], [], [], true⟩) } }) ∧
    (s.instruction n = (0x02, opr) →
      let loss := bits opr 9 8 = 1
      let r := ratioM x.taps (s.rd OD.OBS_MIN)
      let lit := s.teLit te
      let ok := lit && !x.missing && !x.ovld && (decide loss || r.2.2)
      let m := s.measured te lit ok x.missing
      exec (.nrm n) s = ends 0x02 { s.toCore with
        coaches := coach { y (if loss then 9 else 10) with
          usable := ok, mNum := r.1, mDen := r.2.1, pc := if ok then x.pc + 1 else bits opr 4 0
          ms := if loss then -decibel (x.taps.getD 0 0) (x.taps.getD 1 0) else x.ms }
        loops := loop m } ∧
      m.lit = lit ∧ m.usable = ok ∧ m.st = l.st ∧
      m.acquiring = (l.acquiring || (ok && (l.leaving || decide (l.st = .coast)))) ∧
      (x.missing = true → m = { l with lit := lit, usable := false }) ∧
      (x.missing = false → m.clock.unobsSince =
        (if lit = true ∧ ok = false then some (l.clock.unobsSince.getD s.upFrame) else none)) ∧
      (ok = false ∨ (l.leaving = false ∧ l.st ≠ .coast) → m.secs = l.secs ∧ m.clock.lock = l.clock.lock)) ∧
    (s.instruction n = (0x03, opr) →
      (x.mDen ≠ 0 →
        let r := if opr % 2 = 0 then s.phase te x.mNum x.mDen else s.balance te x.mNum x.mDen
        exec (.phs n) s = ends 0x03 { s.toCore with coaches := coach { y 8 with ms := r.1, fold := r.2 } }) ∧
      (x.mDen = 0 → exec (.phs n) s = ends 0x03 { s.toCore with
        free := s.free + 1, coaches := coach { y 8 with ms := toSigned 32 s.draw, fold := false } })) ∧
    (s.instruction n = (0x0D, opr) →
      exec (.jmp n) s = ends 0x0D { s.toCore with coaches := coach { y 2 with pc := bits opr 4 0 } }) ∧
    (s.instruction n = (0x00, opr) →
      let m := { l with
        spShown := l.sp, gap := x.missing, first := false, bumpless := false
        clock := if l.sat then l.clock else { l.clock with satSince := none, satFired := false } }
      let closed : Core := { s.toCore with coaches := coach (y 1).idle, loops := loop m }
      let decided := l.acquiring = true ∨ l.decision ≠ .none
      let coasts := x.usable = false ∧ l.st ≠ .trim ∧ l.st ≠ .coast ∧ (l.st = .hold ∨ l.st = .parked → l.leaving = true)
      (x.missing = true → exec (.endLoop n) s = ends 0x00 { closed with
        regs := storePut s.regs (okey OD.MISSING_SAMPLES 0) (count64 (s.rd OD.MISSING_SAMPLES) 1) }) ∧
      (x.missing = false → decided → exec (.endLoop n) s = ends 0x00 (closed.commitDecision te)) ∧
      (x.missing = false → ¬ decided → ¬ coasts → exec (.endLoop n) s = ends 0x00 closed) ∧
      (x.missing = false → ¬ decided → coasts → exec (.endLoop n) s = ends 0x00 { closed with
        loops := Tab.put closed.loops te { m with
          st := .coast, leaving := false, t0 := s.zoneTemp te, uCoast := m.u
          clock := { m.clock with coastAt := s.upFrame, coastFired := false } } Loop.reset })))

/-- Where the dies run and a coach's program is at the instruction, whatever its registers and its loop: ERR forms V0 from the
set-point less the measured value, scaled and saturated, keeps the measured value, counts in Acquire and decides, and in
Trim keeps the residual; BIQ n below NSEC runs section n on V0, at or beyond NSEC it changes only the coach; SAT clamps to
the loop's range V0 or, in bumpless mode, the last output, with back-calculation where it acts; FFW forms the drive code
under the ceiling, and above it clamps, counts, marks the loop saturated and reports source 80 + die; PRF takes the target
as set-point, with the dither in Trim, or of a VOA in a glide the generator's; FEL outside Locked and Trim clears nothing,
and in them counts frames beyond FE_LIMIT and decides the trip; DTH outside Trim changes only the coach and in Trim adds the
dither; CST on a frame with samples missing keeps u, and else takes the Coast step; DRV stages the code for the second
boundary after this frame's start, but nothing for a loop that is in Hold or has decided to enter it. Each adds its clocks,
and nothing else changes. In an owner image the routine of its dispatch entry has run beside it, and the owner's own
instructions that are next follow in the same command. (The model's: AW_SECTION at or beyond NSEC acts as none and the
deciding frame counts, log 51; the owner's routines and the other registers, logs 22 and 53.) (R65, R66, R67, R68, R69, R74,
R76, R79, R82, R90, R108, R199) -/
def Obligations.LoopProgramArithmeticInstructions : Prop :=
  ∀ (s : State) (n : Coach) (opr : Nat), s.dead = false → (s.coach n).running = true → (s.coach n).pc < 32 →
    let x := s.coach n
    let te := x.te
    let l := s.loop te
    let y := fun k => { x with pc := x.pc + 1, opr := opr, cycles := x.cycles + k }
    let coach := fun (z : CoachRec) => Tab.put s.coaches (te / 256) z CoachRec.reset
    let loop := fun (m : Loop) => Tab.put s.loops te m Loop.reset
    let found := { x with pc := x.pc + 1, opr := opr }
    let ends := fun (op : Nat) (u : Core) =>
      (Host.Outcome.next (State.settle { s with toCore := u.ownerAfter n op found }) : Host.Outcome State Fault Refusal)
    (s.instruction n = (0x04, opr) →
      let diff := x.sp - x.ms
      let lock := if inLockBand te diff (s.rd OD.LOCK_BAND) then l.clock.lock + 1 else 0
      let acq := l.clock.acq + 1
      exec (.err n) s = ends 0x04 { s.toCore with
        coaches := coach { y 3 with v0 := satQ15 (idivFree diff (if opr % 2 = 0 then 64 else 16384)), diff := diff }
        cal := if l.st = .trim then { s.cal with
            samples := Tab.set s.cal.samples te (Tab.set (Tab.get s.cal.samples te []) l.trimFrames (s.trimSample x)) } else s.cal
        loops := loop (if l.st = .acquire ∨ l.acquiring = true then { l with
            meas := x.ms, clock := { l.clock with lock := lock, acq := acq }
            decision := if s.rd OD.LOCK_FRAMES ≤ lock then .lock else if s.rd OD.ACQ_LIMIT ≤ acq then .acqTimeout else .none }
          else { l with meas := x.ms }) }) ∧
    (s.instruction n = (0x05, opr) →
      let i := bits opr 2 0
      let k := fun j => s.coefQ te i j
      let z := l.sec i
      let p := bits (s.coef te (7 + 6 * i)) 1 0
      let out := (k 0 * x.v0 + k 1 * z.x1 + k 2 * z.x2 - k 3 * z.y1 - k 4 * z.y2 + 2 ^ (14 - p)) / 2 ^ (15 - p)
      (i < s.nsec te →
        exec (.biq n) s = ends 0x05 { s.toCore with
          coaches := coach { y 5 with v0 := satQ15 out }
          loops := loop (l.setSec i ⟨x.v0, z.x1, satQ15 out, z.y1, z.satSect || decide (out ≠ satQ15 out)⟩) }) ∧
      (s.nsec te ≤ i → exec (.biq n) s = ends 0x05 { s.toCore with coaches := coach (y 5) })) ∧
    (s.instruction n = (0x06, opr) →
      (let b := if l.bumpless then s.bumpless te l x.v0 else (x.v0, l)
        let r := s.saturate te b.2 b.1
        exec (.sat n) s = ends 0x06 { s.toCore with
          coaches := coach { y 5 with v0 := r.1 }, loops := loop (if r.2.sat then r.2.saturated s.upFrame else r.2) } ∧
        b.1 = (if l.bumpless then l.yN else x.v0) ∧ r.1 = clampI (s.uMin te) (s.uMax te) b.1 ∧ r.2.u = r.1 ∧ r.2.yN = b.1 ∧
        r.2.sat = decide (r.1 ≠ b.1)) ∧
      (l.bumpless = false →
        let u := clampI (s.uMin te) (s.uMax te) x.v0
        (u = x.v0 →
          exec (.sat n) s = ends 0x06 { s.toCore with
            coaches := coach { y 5 with v0 := u }, loops := loop { l with u := u, yN := u, sat := false } }) ∧
        (u ≠ x.v0 → s.nsec te ≤ s.awSection te →
          exec (.sat n) s = ends 0x06 { s.toCore with
            coaches := coach { y 5 with v0 := u }
            loops := loop { l with
              u := u, yN := x.v0, sat := true, clock := { l.clock with satSince := some (l.clock.satSince.getD s.upFrame) } } }))) ∧
    (s.instruction n = (0x07, opr) →
      let code := driveCode s.toCore te (driveArg (setWords s.act) (mapEntry s.act) te x.sp) x.v0
      (code ≤ s.ceiling te → exec (.ffw n) s = ends 0x07 { s.toCore with coaches := coach { y 7 with code := code } }) ∧
      (s.ceiling te < code →
        exec (.ffw n) s = ends 0x07 { s.toCore with
          coaches := coach { y 7 with code := s.ceiling te }
          loops := loop { l with sat := true, clock := { l.clock with satSince := some (l.clock.satSince.getD s.upFrame) } }
          regs := storePut s.regs (okey OD.CEILING_CLAMPS 0) (count32 (s.rd OD.CEILING_CLAMPS) 1)
          faults := { s.faults with raised := s.faults.raised ++ [⟨80 + teDie te, [], [], [], true⟩] } })) ∧
    (s.instruction n = (0x08, opr) →
      (te < 8704 ∨ (s.glide (te - 8704)).gen = none →
        let sp := s.target te
        exec (.prf n) s = ends 0x08 { s.toCore with
          coaches := coach { y 8 with sp := if l.st = .trim then sp + ditherAt te l.bin l.trimFrames else sp }
          loops := loop { l with sp := sp } }) ∧
      (∀ k : Gen, 8704 ≤ te → (s.glide (te - 8704)).gen = some k →
        let g := s.glide (te - 8704)
        let k := if g.stalled then (genFrom (spScale l.sp) 0 0 k.target g.vMax g.aMax g.jMax).1 else k
        ∃ u : Core, exec (.prf n) s = ends 0x08 { u with
            coaches := coach { y 8 with sp := k.sp }, loops := loop { l with sp := k.sp } } ∧
          u = { s.toCore with regs := u.regs, trav := { s.trav with glides := u.trav.glides } } ∧
          (k.done = false → u.regs = s.regs ∧
            u.glide (te - 8704) = { g with gen := some (k.step s.glideStride), stalled := false }))) ∧
    (s.instruction n = (0x09, opr) →
      (l.st ≠ .locked → l.st ≠ .trim → exec (.fel n) s = ends 0x09 { s.toCore with coaches := coach (y 4) }) ∧
      (l.st = .locked ∨ l.st = .trim →
        let out := overFe te x.diff (s.feLimit te)
        let fe := if out then l.clock.fe + 1 else 0
        exec (.fel n) s = ends 0x09 { s.toCore with
          coaches := coach { y 4 with feOver := out }
          loops := loop { l with clock := { l.clock with fe := fe }, decision := if s.feTime te < fe then .feTrip else .none } })) ∧
    (s.instruction n = (0x0A, opr) →
      (l.st ≠ .trim → exec (.dth n) s = ends 0x0A { s.toCore with coaches := coach (y 5) }) ∧
      (l.st = .trim → exec (.dth n) s = ends 0x0A { s.toCore with coaches := coach { y 5 with
        v0 := satQ15 (x.v0 + idivFree (ditherAt te l.bin l.trimFrames) (if te < 8704 then 64 else 16384)) } })) ∧
    (s.instruction n = (0x0B, opr) →
      (x.missing = true → exec (.cst n) s = ends 0x0B { s.toCore with coaches := coach { y 7 with v0 := l.u } }) ∧
      (x.missing = false →
        let u := s.coastU te l
        let g := s.glide (te - 8704)
        exec (.cst n) s = ends 0x0B { s.toCore with
          coaches := coach { y 7 with v0 := u }, loops := loop { l with u := u }
          regs := if l.lit then storePut s.regs (okey OD.UNOBSERVABLE 0) (count64 (s.rd OD.UNOBSERVABLE) 1) else s.regs
          trav := if 8704 ≤ te ∧ g.gen.isSome then
              { s.trav with glides := Tab.put s.trav.glides (te - 8704) { g with stalled := true } Glide.reset } else s.trav })) ∧
    (s.instruction n = (0x0C, opr) →
      let none_ := l.decision = .acqTimeout ∨ l.decision = .feTrip ∨ (l.st = .hold ∧ l.leaving = false)
      let code := if x.missing then l.code else x.code
      let e : StEntry := ⟨s.frameStart + 2 * frameUnits, code, false, false⟩
      let kept : Core := { s.toCore with coaches := coach (y 3), loops := loop { l with code := code } }
      (none_ → exec (.drv n) s = ends 0x0C { s.toCore with coaches := coach (y 3) }) ∧
      (¬ none_ → exec (.drv n) s = ends 0x0C (kept.stage te e)) ∧
      (¬ none_ → s.clearing te = false → (s.link (teDie te)).up = true →
        (s.chan te).queue.length < 3 → (∀ q ∈ (s.chan te).queue, q.at_ ≠ e.at_) →
        exec (.drv n) s = ends 0x0C { kept with
          chans := Tab.put s.chans te { s.chan te with queue := queueInsert e (s.chan te).queue } Chan.reset }))

/-- In a live state, after the entry to Acquire that the loop may have decided has been committed and counted: LOOP_LOCK on a
loop that decided to lock makes it Locked; ACQUIRE_TIMEOUT and FOLLOWING_ERROR_TRIP on a loop that decided so put it in Hold
with cause 2 or 1, count, and report source 132 or 128 + die for the loop. COAST_EXPIRY past COAST_LIMIT marks it expired
once in a Coast, counts and reports 136; LOOP_SATURATION_TIMEOUT after more than 1 s reports 137 once and
UNOBSERVABLE_TIMEOUT after more than half of COAST_LIMIT reports 142 once; SLOT_OVERRUN of a running coach discards the
loop's code of this frame and what it decided, stops it, marks and counts it and reports 147 + coach, and of an idle coach
changes nothing. In a state that serves the path, HOLD_CLEAR of one loop in a Hold that needs a supervisor, and of FFFFh
every such loop, has the next caboose clear the Hold; of another loop it changes nothing, and of 9,216 to FFFEh it ends with
0609_0030h. Nothing else changes. (R72, R73, R75, R76, R77, R85, R101) -/
def Obligations.LoopSupervisionEvents : Prop :=
  (∀ (c : Core) (te : Te),
    ((c.loop te).acquiring = false → c.commitAcquire te = c) ∧
    ((c.loop te).acquiring = true → c.commitAcquire te = { c with
      loops := Tab.put c.loops te { c.loop te with st := .acquire, leaving := false, acquiring := false } Loop.reset
      regs := storePut c.regs (okey OD.ACQ_COUNT 0) (count32 (c.rd OD.ACQ_COUNT) 1) })) ∧
  (∀ (s : State) (te : Te), s.Live →
    let c := s.toCore.commitAcquire te
    let l := c.loop te
    let loop := fun (m : Loop) => Tab.put c.loops te m Loop.reset
    let fires := fun n => { s.faults with raised := [⟨n, [te.val], [], [], true⟩] }
    ((s.loop te).decision = .lock →
      exec (.loopLock te) s = .next { s with toCore := { c with
        loops := loop { l with st := .locked, decision := .none, clock := { l.clock with fe := 0 } } } }) ∧
    ((s.loop te).decision = .acqTimeout →
      exec (.acquireTimeout te) s = .next (State.settle { s with toCore := { c with
        loops := loop { l with st := .hold, cause := 2, decision := .none }
        regs := storePut c.regs (okey OD.ACQ_TIMEOUTS 0) (count32 (c.rd OD.ACQ_TIMEOUTS) 1), faults := fires (132 + teDie te) } })) ∧
    ((s.loop te).decision = .feTrip →
      exec (.followingErrorTrip te) s = .next (State.settle { s with toCore := { c with
        loops := loop { l with st := .hold, cause := 1, decision := .none, bin := 0, trimFrames := 0 }
        regs := storePut c.regs (okey OD.FE_TRIPS 0) (count32 (c.rd OD.FE_TRIPS) 1), faults := fires (128 + teDie te) } }))) ∧
  (∀ (s : State) (te : Te), s.Live →
    let l := s.loop te
    let loop := fun (m : Loop) => Tab.put s.loops te m Loop.reset
    let fires := fun n => { s.faults with raised := [⟨n, [te.val], [], [], true⟩] }
    (l.st = .coast → l.clock.coastFired = false → l.clock.coastAt + nsU (s.rd OD.COAST_LIMIT) < s.up →
      exec (.coastExpiry te) s = .next (State.settle { s with
        loops := loop { l with expired := true, clock := { l.clock with coastFired := true } }
        regs := storePut s.regs (okey OD.COAST_EXPIRIES 0) (count32 (s.rd OD.COAST_EXPIRIES) 1), faults := fires 136 })) ∧
    (∀ t, l.clock.satSince = some t → l.sat = true → l.clock.satFired = false → t + secondUnits < s.up →
      exec (.loopSaturationTimeout te) s = .next (State.settle { s with
        loops := loop { l with clock := { l.clock with satFired := true } }, faults := fires 137 })) ∧
    (∀ t, l.clock.unobsSince = some t → l.lit = true → l.usable = false → l.clock.unobsFired = false →
      2 * t + nsU (s.rd OD.COAST_LIMIT) < 2 * s.up →
      exec (.unobservableTimeout te) s = .next (State.settle { s with
        loops := loop { l with clock := { l.clock with unobsFired := true } }, faults := fires 142 }))) ∧
  (∀ (s : State) (n : Coach), s.Live →
    ((s.coach n).running = false → exec (.slotOverrun n) s = .next s) ∧
    ((s.coach n).running = true →
      let te := (s.coach n).te
      exec (.slotOverrun n) s = .next (State.settle { s with
        chans := Tab.put s.chans te { s.chan te with
          queue := (s.chan te).queue.filter (fun e => e.seq || e.at_ != s.frameStart + 2 * frameUnits) } Chan.reset
        loops := Tab.put s.loops te { s.loop te with decision := .none, acquiring := false } Loop.reset
        coaches := Tab.put s.coaches n (s.coach n).idle CoachRec.reset
        regs := storePut (storePut s.regs (okey OD.COACH_STATUS n) (setBits (s.rd OD.COACH_STATUS n) 31 31 1)) (okey OD.SLOT_OVERRUNS 0)
          (count32 (s.rd OD.SLOT_OVERRUNS) 1)
        faults := { s.faults with raised := [⟨147 + n, [], [], [], true⟩] } }))) ∧
  (∀ (s : State) (p : Path) (te : Te), s.Serves p →
    exec (.holdClear p (BitVec.ofNat 16 te)) s = .next { s with
      result := 0
      loops := Tab.put s.loops te (if (s.loop te).st = .hold ∧ ((s.loop te).cause = 1 ∨ (s.loop te).cause = 2 ∨ (s.loop te).cause = 4)
        then { s.loop te with clearReq := true } else s.loop te) Loop.reset }) ∧
  (∀ (s : State) (p : Path), s.Serves p →
    exec (.holdClear p 0xFFFF) s = .next { s with
      result := 0
      loops := Tab.mapIf s.loops (fun _ => true) Loop.reset (fun _ l =>
        if l.st = .hold ∧ (l.cause = 1 ∨ l.cause = 2 ∨ l.cause = 4) then { l with clearReq := true } else l) } ∧
    ∀ v : BitVec 16, 9216 ≤ v.toNat → v ≠ 0xFFFF → exec (.holdClear p v) s = .next { s with result := 0x06090030 })

/-- In a state that serves the path: TEST_INJECT of a point whose generator runs queues one inversion, of one whose generator
does not run ends with 0606_0001h; TEST_CLEAR of one point sets its three counters and ERRORED to 0, of FFFFh those of every
point; a point beyond 145 ends both with 0609_0030h. In a live state: CHECKER_LOCK after 64 matching bits at an enabled
checker that is not locked sets LOCK; CHECKER_LOCK_LOSS with 256 errors or more at a locked checker counts its bits, its
errors and one loss of lock, sets ERRORED and clears LOCK, and a proving run on that lane notes its first lock and its loss;
fewer bits or errors, or a checker in the other state, change nothing more. In a calm state, whether or not the dies are
held in reset, TCK_EDGE changes the TAP only: TRST_N low resets it, a rising edge moves it by TMS and shifts TDI in through
a Shift state, a falling edge drives TDO in the Shift states only. The TAP's states and the edges on which its pins act are
the model's (PRESUMED, log 10). (R10, R390, R391, R392) -/
def Obligations.TestPointsCheckersAndTheTap : Prop :=
  (∀ (s : State) (p : Path), s.Serves p →
    (∀ v : BitVec 16, v.toNat ≤ 145 → bit (s.rd OD.TEST_CONFIG v.toNat) 31 = true →
      exec (.testInject p v) s = .next { s with result := 0, test := { s.test with inject := s.test.inject ++ [v.toNat] } }) ∧
    (∀ v : BitVec 16, v.toNat ≤ 145 → bit (s.rd OD.TEST_CONFIG v.toNat) 31 = false →
      exec (.testInject p v) s = .next { s with result := 0x06060001 }) ∧
    (∀ v : BitVec 16, 145 < v.toNat → exec (.testInject p v) s = .next { s with result := 0x06090030 } ∧
      (v ≠ 0xFFFF → exec (.testClear p v) s = .next { s with result := 0x06090030 })) ∧
    (∃ t : State, exec (.testClear p 0xFFFF) s = .next t ∧
      t = { s with result := 0, regs := t.regs, test := { s.test with since := t.test.since } } ∧
      (∀ n i, n < 146 → i < 3 → t.rd OD.TEST_RESULT (4 * n + i) = 0) ∧
      (∀ n, n < 146 → bit (t.rd OD.TEST_RESULT (4 * n + 3)) 1 = false ∧ t.chkLocked n = s.chkLocked n) ∧
      (∀ o e, e < 1048576 → o ≠ OD.TEST_RESULT → t.rd o e = s.rd o e)) ∧
    (∀ v : BitVec 16, v.toNat ≤ 145 →
      ∃ t : State, exec (.testClear p v) s = .next t ∧
        t = { s with result := 0, regs := t.regs, test := { s.test with since := t.test.since } } ∧
        (s.chkLocked v.toNat = false → t.test = s.test) ∧
        (∀ i, i < 3 → t.rd OD.TEST_RESULT (4 * v.toNat + i) = 0) ∧
        t.rd OD.TEST_RESULT (4 * v.toNat + 3) = setBits (s.rd OD.TEST_RESULT (4 * v.toNat + 3)) 1 1 0 ∧
        (∀ o e, (∀ i, i < 4 → okey o e ≠ okey OD.TEST_RESULT (4 * v.toNat + i)) → t.rd o e = s.rd o e))) ∧
  (∀ (s : State) (n : Fin 146), s.Live →
    (∀ k at_ : Nat, let c := s.toCore.advance at_
      let noted := fun q : Prove => if q.rx = n.val ∧ q.start.isSome ∧ q.lockAt.isNone then { q with lockAt := some c.up } else q
      ((k < 64 ∨ bit (c.rd OD.TEST_CONFIG n) 26 = false ∨ c.chkLocked n = true) →
        exec (.checkerLock n k at_) s = .next { s with toCore := c }) ∧
      (64 ≤ k → bit (c.rd OD.TEST_CONFIG n) 26 = true → c.chkLocked n = false →
      exec (.checkerLock n k at_) s = .next { s with toCore := { c with
        regs := storePut c.regs (okey OD.TEST_RESULT (4 * n + 3)) (setBits (c.rd OD.TEST_RESULT (4 * n + 3)) 0 0 1)
        test := { c.test with since := Tab.set c.test.since n c.up, prove := c.test.prove.map noted } } })) ∧
    (∀ k errors : Nat, (s.chkLocked n = false ∨ errors < 256 ∨ k < errors) → exec (.checkerLockLoss n k errors) s = .next s) ∧
    (∀ k errors : Nat, s.chkLocked n = true → 256 ≤ errors → errors ≤ k →
      ∃ t : State, exec (.checkerLockLoss n k errors) s = .next t ∧
        t = { s with regs := t.regs, test := { s.test with
          since := Tab.erase s.test.since n
          prove := s.test.prove.map (fun q => if q.rx = n.val ∧ q.start.isSome then { q with lost := true } else q) } } ∧
        t.rd OD.TEST_RESULT (4 * n) = count64 (s.rd OD.TEST_RESULT (4 * n)) k ∧
        t.rd OD.TEST_RESULT (4 * n + 1) = count64 (s.rd OD.TEST_RESULT (4 * n + 1)) errors ∧
        t.rd OD.TEST_RESULT (4 * n + 2) = count64 (s.rd OD.TEST_RESULT (4 * n + 2)) 1 ∧
        t.rd OD.TEST_RESULT (4 * n + 3) = setBits (setBits (s.rd OD.TEST_RESULT (4 * n + 3)) 1 1 1) 0 0 0 ∧
        (∀ o e, (∀ i, i < 4 → okey o e ≠ okey OD.TEST_RESULT (4 * n + i)) → t.rd o e = s.rd o e))) ∧
  (∀ (s : State) (tms tdi : Bool) (pins : List Bool), s.Calm →
    (∀ rising, exec (.tckEdge rising tms tdi false pins) s = .next { s with jtag := ⟨0, tapIdcode, [], none, s.jtag.held⟩ }) ∧
    (∃ j : Tap, exec (.tckEdge true tms tdi true pins) s = .next { s with jtag := j } ∧ j.st = tapNext s.jtag.st tms ∧
      ((s.jtag.st = 4 ∨ s.jtag.st = 11) → j.sr = (s.jtag.sr ++ [tdi]).drop 1) ∧ j.tdo = s.jtag.tdo) ∧
    (∃ j : Tap, exec (.tckEdge false tms tdi true pins) s = .next { s with jtag := j } ∧ j.st = s.jtag.st ∧ j.sr = s.jtag.sr ∧
      j.tdo = if s.jtag.st = 4 ∨ s.jtag.st = 11 then some (s.jtag.sr.headD false) else none))

/-- In a state that serves the path: a PROVE_CMD of OP 1 whose reserved bits are 0, whose PATTERN is not 7 and whose two lanes
may be used, while no run is under way, queues a run that the next boundary starts; with a lane that may not be used it ends
with that abort, while a run is under way with 0606_0001h; of OP 2 with no run it does nothing, with one that has not
started it drops it, with no bits in PROVE_RESULT; of OP 2 with a run that has started, on lanes below 128, it ends the run:
the generator of TX and the checker of RX are off, PROVE_RESULT holds the bits and the errors counted (48 bits and the
wrap), the time of lock or FFFF_FFFFh, and its flags, and only PROVE_RESULT, the two configuration words and the results of
RX are written. In a live state, PROVE_TIME_EXPIRE with no run, or one whose time does not end in the frame, changes
nothing, and with one whose PROVE_TIME ends within the frame moves on to that instant and ends the run. (R393) -/
def Obligations.ProvingRunsStartAndEnd : Prop :=
  (∀ (s : State) (p : Path) (v : BitVec 32), s.Serves p → bits v.toNat 26 14 = 0 → bits v.toNat 29 27 ≠ 7 →
    let a := bits v.toNat 13 7
    let b := bits v.toNat 6 0
    (bits v.toNat 31 30 = 1 → s.pointCheck a = 0 → s.pointCheck b = 0 → s.test.prove = none →
      exec (.proveStart p v) s = .next { s with
        result := 0, test := { s.test with prove := some ⟨a, b, bits v.toNat 29 27, none, none, false, false, 0, 0⟩ } }) ∧
    (bits v.toNat 31 30 = 1 → s.pointCheck a ≠ 0 → exec (.proveStart p v) s = .next { s with result := s.pointCheck a }) ∧
    (bits v.toNat 31 30 = 1 → s.pointCheck a = 0 → s.pointCheck b ≠ 0 →
      exec (.proveStart p v) s = .next { s with result := s.pointCheck b }) ∧
    (bits v.toNat 31 30 = 1 → s.pointCheck a = 0 → s.pointCheck b = 0 → s.test.prove ≠ none →
      exec (.proveStart p v) s = .next { s with result := 0x06060001 }) ∧
    (∀ r : Prove, bits v.toNat 31 30 = 2 → s.test.prove = some r → r.start = none →
      ∃ t : State, exec (.proveStop p v) s = .next t ∧ bits (t.rd OD.PROVE_RESULT) 175 64 = 0 ∧
        t = { s with
          result := 0, regs := storePut s.regs (okey OD.PROVE_RESULT 0) (t.rd OD.PROVE_RESULT)
          test := { s.test with prove := none } }) ∧
    (bits v.toNat 31 30 = 2 → s.test.prove = none → exec (.proveStop p v) s = .next { s with result := 0 }) ∧
    (∀ (r : Prove) (t0 : Nat), bits v.toNat 31 30 = 2 → s.test.prove = some r → r.start = some t0 → r.tx < 128 → r.rx < 128 →
      ∃ t : State, exec (.proveStop p v) s = .next t ∧ t.test.prove = none ∧ t.result = 0 ∧
        bit (t.rd OD.TEST_CONFIG r.tx) 31 = false ∧ bit (t.rd OD.TEST_CONFIG r.rx) 26 = false ∧
        bits (t.rd OD.PROVE_RESULT) 191 128 = countOf (t.rd OD.TEST_RESULT (4 * r.rx)) ∧
        bits (t.rd OD.PROVE_RESULT) 127 64 = countOf (t.rd OD.TEST_RESULT (4 * r.rx + 1)) ∧
        bits (t.rd OD.PROVE_RESULT) 63 32 = (match r.lockAt with
          | some l => min ((l - t0) / 65536) 0xFFFFFFFE
          | none => 0xFFFFFFFF) ∧
        bit (t.rd OD.PROVE_RESULT) 8 = r.interrupted ∧ bit (t.rd OD.PROVE_RESULT) 10 = r.lost ∧
        (∀ o e, okey o e ≠ okey OD.PROVE_RESULT 0 → okey o e ≠ okey OD.TEST_CONFIG r.tx → okey o e ≠ okey OD.TEST_CONFIG r.rx →
          (∀ i, i < 4 → okey o e ≠ okey OD.TEST_RESULT (4 * r.rx + i)) → t.rd o e = s.rd o e) ∧
        t = { s with result := 0, regs := t.regs, test := t.test })) ∧
  (∀ s : State, s.Live →
    (s.test.prove = none → exec .proveTimeExpire s = .next s) ∧
    (∀ r : Prove, s.test.prove = some r →
      (∀ t0, r.start = some t0 → s.upFrame + frameUnits ≤ t0 + nsU (s.rd OD.PROVE_TIME)) → exec .proveTimeExpire s = .next s) ∧
    (∀ (r : Prove) (t0 : Nat), s.test.prove = some r → r.start = some t0 → r.tx < 128 → r.rx < 128 →
      t0 + nsU (s.rd OD.PROVE_TIME) < s.upFrame + frameUnits →
      ∃ t : State, exec .proveTimeExpire s = .next t ∧ t.test.prove = none ∧ t.up = max s.up (t0 + nsU (s.rd OD.PROVE_TIME)) ∧
        bit (t.rd OD.TEST_CONFIG r.tx) 31 = false ∧ bit (t.rd OD.TEST_CONFIG r.rx) 26 = false ∧
        t = { s with regs := t.regs, test := t.test, now := t.now, up := t.up }))

/-- In a state that serves the path, whose register file is in canonical form, WRAP_CLEAR of a bank from 0 to 581 answers a next
state with result 0 that differs in counters only: every U64 counter of access RO in the bank, also those of occurrences
that no command stands for (log 42), reads WRAP 0 and its other bits as before, and every other element reads as before. A
bank beyond 581 ends with 0609_0030h and changes nothing. (R378, R379, R384) -/
def Obligations.WrapClearKeepsEveryCount : Prop :=
  ∀ (s : State) (p : Path) (v : BitVec 16), s.Serves p → Tab.wf dfltOf s.regs = true →
    (v.toNat ≤ 581 →
      ∃ t : State, exec (.wrapClear p v) s = .next t ∧
        t = { s with result := 0, regs := t.regs, test := { s.test with unseen := t.test.unseen } } ∧
        t.test.unseen = s.test.unseen.map (fun q =>
          (q.1, if bankOf (okeyObj q.1) (okeyElem q.1) = some v.toNat ∧ roCounter q.1 = true then setBits q.2 63 63 0 else q.2)) ∧
        (∀ k w, (k, w) ∈ s.regs → bankOf (okeyObj k) (okeyElem k) = some v.toNat → roCounter k = true →
          storeGet t.regs k = if bit w 63 then setBits w 63 63 0 else w) ∧
        (∀ k, (bankOf (okeyObj k) (okeyElem k) ≠ some v.toNat ∨ roCounter k = false) → storeGet t.regs k = storeGet s.regs k)) ∧
    (581 < v.toNat → exec (.wrapClear p v) s = .next { s with result := 0x06090030 })

/-- In a state that serves the path: CAL_REQUEST of an item that exists and is not yet requested puts it at the head and counts
it in PENDING_REQUESTS; FRINGE_CAL_CMD of 1 in Maintenance while none runs sets FRINGE_STATE to 1, FRINGE_MAPS to the maps
in use that light an output and UNREACHED to 0, parks the loops (the model's choice, log 56) and starts the sequencer on
those maps. In a live state: TRIM_START of the next eligible element, with an odd free bin from 33 on and a place in the
batch, puts it into Trim and takes up its request; TRIM_RUN_END before 1,024 frames, or of another run than the one in
progress, changes nothing, after a first run with a fit keeps it and starts the second, after a second that agrees and whose
mean is not refused accepts the refinement and returns to Locked, after any other second run, or a run without a fit, counts
a disagreement: not the item's third, it starts again; the third, the element is Locked with CAL_FLAG, counted in
CAL_FAILURES and reported by source 235. CAL_NOT_CURRENT of an element no longer current reports source 242 once. Nothing
else changes. (R142, R143, R145, R146, R147, R148, R150, R151, R152, R153, R161) -/
def Obligations.CalibrationRequestsAndTrims : Prop :=
  (∀ (s : State) (p : Path), s.Serves p →
    (∀ v : BitVec 32, bits v.toNat 27 14 = 0 →
      let kind := bits v.toNat 31 28
      let n := bits v.toNat 13 0
      ((kind = 0 ∧ n ≤ 9215) ∨ (kind = 1 ∧ n ≤ 9727) ∨ (kind = 2 ∧ n ≤ 7)) → (kind, n) ∉ s.cal.requests →
      exec (.calRequest p v) s = .next { s with
        result := 0
        regs := storePut s.regs (okey OD.PENDING_REQUESTS 0) (s.cal.requests.length + 1)
        cal := { s.cal with requests := (kind, n) :: s.cal.requests } }) ∧
    (s.power = psMaint → s.rd OD.FRINGE_STATE ≠ 1 →
      let maps := (List.range (s.rd OD.CAL_MAP_COUNT)).filter s.mapLights
      exec (.fringeCalCmd p 1) s = .next { s with
        result := 0
        regs := storePut (storePut (storePut s.regs (okey OD.FRINGE_STATE 0) 1) (okey OD.FRINGE_MAPS 0) maps.length)
          (okey OD.UNREACHED 0) 0
        loops := Tab.mapIf s.loops (fun _ => true) Loop.reset (fun _ l => l.park)
        cal := { s.cal with fringe := some ⟨maps, [], [], [], [], [], false, 5, 0, [], [], false, false⟩ } })) ∧
  (∀ (s : State) (te : Te), s.Live →
    let l := s.loop te
    let loop := fun (m : Loop) => Tab.put s.loops te m Loop.reset
    (∀ bin : Fin 256, s.trimEligible te = true → s.trimNext te = true → s.inTrim.length < s.rd OD.TRIM_BATCH → bin.val % 2 = 1 →
      33 ≤ bin.val → (∀ q ∈ s.inTrim, q.2.bin ≠ bin.val) →
      let left := s.cal.requests.filter (· != (0, te.val))
      exec (.trimStart te bin) s = .next { s with
        loops := loop { l with st := .trim, bin := bin, trimFrames := 0 }
        regs := storePut s.regs (okey OD.PENDING_REQUESTS 0) left.length
        cal := { s.cal with requests := left, trims := Tab.erase s.cal.trims te, samples := Tab.erase s.cal.samples te } }) ∧
    (∀ (bin : Fin 256), s.trimEligible te = false → exec (.trimStart te bin) s = .next s) ∧
    (∀ (bin : Fin 256) (pair : Fin 3) (run : Fin 2), (l.st ≠ .trim ∨ l.trimFrames < 1024 ∨ s.trimRun te bin pair run = false) →
      exec (.trimRunEnd te bin pair run) s = .next s) ∧
    (∀ (bin : Fin 256) (pair : Fin 3) (run : Fin 2), l.st = .trim → 1024 ≤ l.trimFrames → s.trimRun te bin pair run = true →
      let fit := runFit te l.bin (Tab.get s.cal.samples te [])
      let samples := Tab.erase s.cal.samples te
      let trims := Tab.erase s.cal.trims te
      (∀ f, fit = some f → Tab.find? s.cal.trims te = none →
        exec (.trimRunEnd te bin pair run) s = .next { s with
          loops := loop { l with trimFrames := 0 }
          cal := { s.cal with samples := samples, trims := Tab.set trims te f } }) ∧
      (∀ a f, fit = some f → Tab.find? s.cal.trims te = some a → s.trimAgrees te a f = true →
        s.refusesFit te (meanFit a f) = false →
        exec (.trimRunEnd te bin pair run) s = .next { s with
          loops := loop { l with st := .locked, bin := 0, trimFrames := 0 }
          cal := { s.cal with
            samples := samples
            trims := trims
            fails := Tab.erase s.cal.fails te
            writes := s.cal.writes ++ s.refineWrites te (meanFit a f)
            items := s.cal.items ++ [(0, te.val)] } }) ∧
      ((fit = none ∨ ∃ a f, fit = some f ∧ Tab.find? s.cal.trims te = some a ∧
          (s.trimAgrees te a f = false ∨ s.refusesFit te (meanFit a f) = true)) →
        let counted := storePut s.regs (okey OD.DISAGREEMENTS 0) (count32 (s.rd OD.DISAGREEMENTS) 1)
        (Tab.get s.cal.fails te 0 < 2 →
          exec (.trimRunEnd te bin pair run) s = .next { s with
            loops := loop { l with trimFrames := 0 }
            regs := counted
            cal := { s.cal with
              samples := samples
              trims := trims
              fails := Tab.put s.cal.fails te (Tab.get s.cal.fails te 0 + 1) 0 } }) ∧
        (2 ≤ Tab.get s.cal.fails te 0 →
          exec (.trimRunEnd te bin pair run) s = .next (State.settle { s with
            loops := Tab.put (loop { l with calFlag := true }) te
              { l with calFlag := true, st := .locked, bin := 0, trimFrames := 0 } Loop.reset
            regs := storePut counted (okey OD.CAL_FAILURES 0) (count32 (storeGet counted (okey OD.CAL_FAILURES 0)) 1)
            cal := { s.cal with samples := samples, trims := trims, fails := Tab.put s.cal.fails te 0 0 }
            faults := { s.faults with raised := [⟨235, [], [], [], true⟩] } })))) ∧
    (s.calCurrent te = false → te.val ∉ s.cal.notCurrent →
      exec (.calNotCurrent te) s = .next (State.settle { s with
        cal := { s.cal with notCurrent := s.cal.notCurrent ++ [te.val] }
        faults := { s.faults with raised := [⟨242, [te.val], [], [], true⟩] } })) ∧
    (s.calCurrent te = true → exec (.calNotCurrent te) s = .next s))

/-- In a live state: MON_SWEEP_START when a sweep is due starts every group at its first channel; TENDER_OVERLAP_START of the
next channel of a group whose tender is free, which no loop in Trim reads, marks the channel IN_CAL and opens the tender's
input for it, and of another channel changes nothing; TENDER_RUN_END before 256 windows of the run have passed, of the other
run of the pair, or with no overlap, changes nothing, of a run with more than four discarded blocks repeats it without
counting, of a first run keeps its gain and offset, of a second that agrees accepts the mean offset, and the mean gain where
both were fitted, for the next boundary, with NO_GAIN and GAIN_SKIPPED where not, clears IN_CAL and frees the tender, of a
second that disagrees counts it and runs a fresh pair, at the third keeping the calibration, setting CAL_FLAG and reporting
the die's source. SURVEY_CAL_START of the idle converter whose turn it is takes the tender for it; past an injected
conversion it is deferred and counted once; SURVEY_CAL_END of the run in progress keeps a first run with all its conversions
and accepts or repeats a pair as above, freeing the tender at its end, and of another changes nothing. Nothing else changes.
(R142, R143, R155, R156, R157, R158, R159, R160, R161, R162) -/
def Obligations.ConverterCalibrationRuns : Prop :=
  ∀ s : State, s.Live →
    let flag := fun (t : Tab Nat) obj n w b on => storePut t (okey obj n) (setBits w b b on)
    let fitted := fun (a b : Option Nat × Int) => a.1.isSome && b.1.isSome
    let offset := fun (a b : Option Nat × Int) => ofSigned 32 (idivFree (a.2 + b.2) (2 ^ 17))
    (s.calBackground = true → (∀ t, s.cal.sweepAt = some t → t + nsU (s.rd OD.MON_SWEEP_INTERVAL) ≤ s.up) →
      exec .monSweepStart s = .next { s with
        cal := { s.cal with sweep := (List.range 152).map (fun g => (g, 0)), sweepAt := some s.up } }) ∧
    (s.calBackground = false → exec .monSweepStart s = .next s) ∧
    (∀ (g : Fin 152) (k : Fin 64), let ch := 64 * g.val + k; s.nextChannel g = some ch → Tab.find? s.cal.overlaps g = none → s.monRuns = true →
      s.power ≠ psDormant → s.pwr.shut = false → (∀ q ∈ s.inTrim, ch ∉ s.teChannels q.1) →
      let left := s.cal.requests.filter (· != (1, ch))
      exec (.tenderOverlapStart g k) s = .next { s with
        regs := storePut (flag s.regs OD.MON_CAL_FLAGS ch (s.rd OD.MON_CAL_FLAGS ch) 1 1) (okey OD.PENDING_REQUESTS 0) left.length
        cal := { s.cal with
          requests := left
          overlaps := Tab.set s.cal.overlaps g ⟨ch, s.frames + 2, [], none, [], [], [], none⟩ } }) ∧
    (∀ (g : Fin 152) (k : Fin 64), s.nextChannel g ≠ some (64 * g.val + k) → exec (.tenderOverlapStart g k) s = .next s) ∧
    (∀ (g : Fin 152) (n : Fin 2), Tab.find? s.cal.overlaps g = none → exec (.tenderRunEnd g n) s = .next s) ∧
    (∀ (g : Fin 152) (n : Fin 2) (x : Overlap), Tab.find? s.cal.overlaps g = some x →
      ((n.val ≠ bn x.first.isSome ∨ x.base = none ∨ ∃ b, x.base = some b ∧ s.frames < b + 256) → exec (.tenderRunEnd g n) s = .next s) ∧
      (∀ b, n.val = bn x.first.isSome → x.base = some b → b + 256 ≤ s.frames →
        let kept := fun (first : Option (Option Nat × Int)) =>
          { s.cal with overlaps := Tab.set s.cal.overlaps g (x.nextRun s.frames first) }
        let r := s.overlapFit g x
        (4 < (List.range 16).countP x.discards → exec (.tenderRunEnd g n) s = .next { s with cal := kept x.first }) ∧
        ((List.range 16).countP x.discards ≤ 4 → x.first = none →
          exec (.tenderRunEnd g n) s = .next { s with cal := kept (some r) }) ∧
        (∀ a : Option Nat × Int, (List.range 16).countP x.discards ≤ 4 → x.first = some a → x.ch < 9728 →
          (pairAgrees a r = true →
            ∃ t : State, exec (.tenderRunEnd g n) s = .next t ∧ t = { s with regs := t.regs, cal := t.cal } ∧
              t.cal.writes = s.cal.writes ++ (match a.1, r.1 with
                | some i, some j => [(okey OD.MON_GAIN x.ch, divFree (i + j) 2 % 2 ^ 32), (okey OD.MON_OFFSET x.ch, offset a r)]
                | _, _ => [(okey OD.MON_OFFSET x.ch, offset a r)]) ∧
              t.cal.items = s.cal.items ++ [(1, x.ch)] ∧ t.cal.fails = Tab.erase s.cal.fails (16384 + x.ch) ∧
              t.cal.overlaps = Tab.erase (kept none).overlaps g ∧ t.cal.requests = s.cal.requests ∧
              t.rd OD.MON_CAL_FLAGS x.ch =
                setBits (setBits (s.rd OD.MON_CAL_FLAGS x.ch) 2 2 (bn (!fitted a r))) 1 1 0 ∧
              t.rd OD.GAIN_SKIPPED =
                (if fitted a r then s.rd OD.GAIN_SKIPPED else count32 (s.rd OD.GAIN_SKIPPED) 1) ∧
              (∀ o e, okey o e ≠ okey OD.MON_CAL_FLAGS x.ch → okey o e ≠ okey OD.GAIN_SKIPPED 0 → t.rd o e = s.rd o e)) ∧
          (pairAgrees a r = false → Tab.get s.cal.fails (16384 + x.ch) 0 < 2 →
            exec (.tenderRunEnd g n) s = .next { s with
              regs := storePut s.regs (okey OD.DISAGREEMENTS 0) (count32 (s.rd OD.DISAGREEMENTS) 1)
              cal := { kept none with
                fails := Tab.put s.cal.fails (16384 + x.ch) (Tab.get s.cal.fails (16384 + x.ch) 0 + 1) 0 } }) ∧
          (pairAgrees a r = false → 2 ≤ Tab.get s.cal.fails (16384 + x.ch) 0 →
            ∃ u : State, exec (.tenderRunEnd g n) s = .next (State.settle u) ∧
              u.faults.raised = [⟨236 + chanDie x.ch, [], [], [], true⟩] ∧
              u.cal.writes = s.cal.writes ∧ u.cal.items = s.cal.items ∧ u.cal.fails = Tab.put s.cal.fails (16384 + x.ch) 0 0 ∧
              u.cal.overlaps = Tab.erase (kept none).overlaps g ∧
              u.rd OD.MON_CAL_FLAGS x.ch = setBits (setBits (s.rd OD.MON_CAL_FLAGS x.ch) 0 0 1) 1 1 0 ∧
              u.rd OD.CAL_FAILURES = count32 (s.rd OD.CAL_FAILURES) 1 ∧
              u = { s with regs := u.regs, cal := u.cal, faults := { s.faults with raised := u.faults.raised } })))) ∧
    (∀ v : Fin 8, s.power ≠ psHalted → s.pwr.shut = false → s.cal.survey = none → s.survNext = some v.val →
      (Tab.find? s.survey.conv v = none →
        let left := s.cal.requests.filter (· != (2, v.val))
        let regs := storePut s.regs (okey OD.TENDER_FOR 0) v
        exec (.surveyCalStart v) s = .next { s with
          regs := storePut (flag regs OD.SURV_CAL_FLAGS v (storeGet regs (okey OD.SURV_CAL_FLAGS v)) 1 1) (okey OD.PENDING_REQUESTS 0)
            left.length
          cal := { s.cal with
            requests := left, survey := some ⟨v.val, [], 0, [], [], [], none⟩
            surveyAt := Tab.set s.cal.surveyAt v s.up, surveyLast := v.val
            deferred := s.cal.deferred.filter (· != v.val) } }) ∧
      (∀ x : Conv, Tab.find? s.survey.conv v = some x → x.kind = .inject → v.val ∉ s.cal.deferred →
        exec (.surveyCalStart v) s = .next { s with
          regs := storePut s.regs (okey OD.INJECT_DEFERRALS 0) (count32 (s.rd OD.INJECT_DEFERRALS) 1)
          cal := { s.cal with deferred := s.cal.deferred ++ [v.val] } })) ∧
    (∀ (v : Fin 8) (n : Fin 2),
      ((∀ y, s.cal.survey = some y → y.conv ≠ v.val ∨ y.next ≠ 3 ∨ n.val ≠ bn y.first.isSome) → exec (.surveyCalEnd v n) s = .next s) ∧
      (∀ y : SurvCal, s.cal.survey = some y → y.conv = v.val → y.next = 3 → n.val = bn y.first.isSome →
        let r := s.survFit y
        (y.first = none → exec (.surveyCalEnd v n) s = .next { s with
          cal := { s.cal with survey := some { y with begun := 0, xs := [], ts := [], zs := [], first := some r } } }) ∧
        (∀ a : Option Nat × Int, y.first = some a → pairAgrees a r = true →
          ∃ t : State, exec (.surveyCalEnd v n) s = .next t ∧ t = { s with regs := t.regs, cal := t.cal, survey := t.survey } ∧
            t.cal.writes = s.cal.writes ++ (match a.1, r.1 with
              | some i, some j => [(okey OD.SURV_GAIN v, divFree (i + j) 2 % 2 ^ 32), (okey OD.SURV_OFFSET v, offset a r)]
              | _, _ => [(okey OD.SURV_OFFSET v, offset a r)]) ∧
            t.cal.items = s.cal.items ++ [(2, v.val)] ∧ t.cal.survey = none ∧ t.rd OD.TENDER_FOR = 255 ∧
            t.survey = { s.survey with conv := s.survey.conv.filter (fun p => decide (p.2.kind ≠ .cal)) } ∧
            t.rd OD.SURV_CAL_FLAGS v = setBits (setBits (s.rd OD.SURV_CAL_FLAGS v) 2 2 (bn (!fitted a r))) 1 1 0 ∧
            t.rd OD.GAIN_SKIPPED = (if fitted a r then s.rd OD.GAIN_SKIPPED else count32 (s.rd OD.GAIN_SKIPPED) 1) ∧
            (∀ o e, okey o e ≠ okey OD.SURV_CAL_FLAGS v → okey o e ≠ okey OD.TENDER_FOR 0 → okey o e ≠ okey OD.GAIN_SKIPPED 0 →
              t.rd o e = s.rd o e)) ∧
        (∀ a : Option Nat × Int, y.first = some a → pairAgrees a r = false →
          let item := 2 * 16384 + v.val
          (Tab.get s.cal.fails item 0 < 2 →
            exec (.surveyCalEnd v n) s = .next { s with
              regs := storePut s.regs (okey OD.DISAGREEMENTS 0) (count32 (s.rd OD.DISAGREEMENTS) 1)
              cal := { s.cal with
                survey := some { y with begun := 0, xs := [], ts := [], zs := [], first := none }
                fails := Tab.put s.cal.fails item (Tab.get s.cal.fails item 0 + 1) 0 } }) ∧
          (2 ≤ Tab.get s.cal.fails item 0 →
            ∃ u : State, exec (.surveyCalEnd v n) s = .next (State.settle u) ∧
              u.faults.raised = [⟨240, [], [], [], true⟩] ∧ u.cal.writes = s.cal.writes ∧ u.cal.items = s.cal.items ∧
              u.cal.survey = none ∧ u.rd OD.TENDER_FOR = 255 ∧
              u.rd OD.SURV_CAL_FLAGS v = setBits (setBits (s.rd OD.SURV_CAL_FLAGS v) 0 0 1) 1 1 0 ∧
              u.rd OD.CAL_FAILURES = count32 (s.rd OD.CAL_FAILURES) 1 ∧
              u = { s with
                regs := u.regs, cal := u.cal, survey := u.survey, faults := { s.faults with raised := u.faults.raised } }))))

/-- In a live state, FRINGE_CAL_END with no full fringe calibration, one whose last map is not done, or with another result than
that below, changes nothing. Where the last map is done, with its result it answers a next state: UNREACHED counts the cells
that had usable light in no map, CAL_FLAG of both their elements is set (none of either where a solve failed, the model's
choice, log 56), every element whose link is up and whose die is not clearing is at its clear code and every other element
of a table as it was, and no more than these loops and registers change. With every cell reached, no calibration failure
counted and every solve good FRINGE_STATE reads 2, otherwise 3; source 241 is reported for a cell not reached or a failure
counted. No table waits for the boundary but those already accepted. (R143, R147, R149, R163, R165) -/
def Obligations.FringeCalibrationEndReportsItsResult : Prop :=
  ∀ s : State, s.Live →
    (∀ r n, s.cal.fringe = none → exec (.fringeCalEnd r n) s = .next s) ∧
    (∀ f r n, s.cal.fringe = some f → f.finished = false → exec (.fringeCalEnd r n) s = .next s) ∧
    (∀ (f : Fringe) (r : BitVec 8) (n : Fin 4353), s.cal.fringe = some f → f.finished = true →
      let dark := if f.bad then [] else (List.range 4352).filter (fun k => !f.cells.contains k)
      let short := decide (dark ≠ []) || decide (s.rd OD.CAL_FAILURES ≠ 0)
      let result : Nat := if short ∨ f.bad then 3 else 2
      ((r.toNat ≠ result ∨ n.val ≠ dark.length) → exec (.fringeCalEnd r n) s = .next s) ∧
      (r.toNat = result → n.val = dark.length → ∃ u : State, exec (.fringeCalEnd r n) s = .next (State.settle u) ∧
        u = { s with
          regs := u.regs, loops := u.loops, cal := { s.cal with fringe := none }
          faults := { s.faults with raised := u.faults.raised } } ∧
        u.faults.raised = (if short then [⟨241, [], [], [], true⟩] else []) ∧
        u.rd OD.FRINGE_STATE = result ∧ u.rd OD.UNREACHED = dark.length ∧
        (∀ te, u.loop te = if f.bad = false ∧ te < 8704 ∧ te / 2 ∉ f.cells then { s.loop te with calFlag := true } else s.loop te) ∧
        (∀ te : Te, (s.link (teDie te)).up = true → s.clearing te = false → u.rd OD.DRIVE_CODE te = s.rd OD.CLEAR_CODE te) ∧
        (∀ te : Te, ((s.link (teDie te)).up = false ∨ s.clearing te = true) → u.rd OD.DRIVE_CODE te = s.rd OD.DRIVE_CODE te) ∧
        (∀ o e, e < 1048576 → o ≠ OD.FRINGE_STATE → o ≠ OD.UNREACHED → o ≠ OD.DRIVE_CODE → u.rd o e = s.rd o e)))

/-- In a state that serves the path: MAP_ENTRY_WRITE of a valid entry into an unlocked shadow set stores it at once and clears
SHADOW_SOLVED exactly where DARK or INPUT changes, ends with 0606_0001h while the set is locked, whatever the entry, and
else with 0609_0030h for an invalid entry (the lock first: the model's choice, log 36); SOLVE_CMD that passes its checks
starts a solve with COL_STATE 1 and no disturbed circuit, else it ends with the check's code; SLOT_WRITE of a valid entry
into a slot not in use stores it, clears VALID and sets HAS_MAP; SLOT_VERIFY of a slot whose settings route its whole map
sets VALID with origin 0, of one with two outputs for an input clears VALID with 0609_0040h, of one whose settings take a
circuit elsewhere with 0609_0042h, and names the output, of a slot without a map ends with 0609_0041h; SLOT_ERASE of a slot
not in use leaves every entry Dark, every word 0 and the status 0, of one in use it is refused and keeps SLOT_RESULT (the
model's choice, log 36). In a live state COL_SOLVE_END with no solve changes nothing. An injected error that waits for the
store goes with the first word written. Nothing else changes. (R166, R167, R168, R175, R176, R182, R183, R188) -/
def Obligations.MapWritesAndSolveCommands : Prop :=
  (∀ (s : State) (p : Path), s.Serves p →
    (∀ (o : Fin 512) (v : BitVec 16), entryValid v.toNat = true → s.shadowLocked = false →
      exec (.mapEntryWrite p o v) s = .next { s with
        result := 0
        regs := if entryRoute (mapEntry s.shd o) = entryRoute v.toNat then s.regs else storePut s.regs (okey OD.SHADOW_SOLVED 0) 0
        shd := storePut s.shd (okey OD.CONN_MAP o) v.toNat
        faults := (s.toCore.eccWrite 5 (shadowMark + okey OD.CONN_MAP o)).faults }) ∧
    (∀ (o : Fin 512) (v : BitVec 16), entryValid v.toNat = false → s.shadowLocked = false →
      exec (.mapEntryWrite p o v) s = .next { s with result := 0x06090030 }) ∧
    (∀ (o : Fin 512) (v : BitVec 16), s.shadowLocked = true →
      exec (.mapEntryWrite p o v) s = .next { s with result := 0x06060001 }) ∧
    (∀ v : BitVec 32, s.solveCheck v.toNat = 0 →
      ∃ (t : State) (x : Solve), exec (.solveCmd p v) s = .next t ∧ t = { s with result := 0, regs := t.regs, col := some x } ∧
        x.preserve = decide (bits v.toNat 31 30 = 1) ∧ x.strict = bit v.toNat 29 ∧ x.dst = bits v.toNat 15 8 ∧
        (bits v.toNat 23 16 = 255 → x.map = storeListed s.shd OD.CONN_MAP) ∧
        t.rd OD.COL_STATE = 1 ∧ t.rd OD.COL_FLAGS = 0 ∧ t.rd OD.DISTURB_COUNT = 0 ∧
        (∀ i, i < 512 → t.rd OD.DISTURB_LIST i = Dict.dflt OD.DISTURB_LIST i) ∧
        (∀ o e, e < 1048576 → o ≠ OD.DISTURB_LIST → o ≠ OD.COL_STATE → o ≠ OD.COL_FLAGS → o ≠ OD.DISTURB_COUNT → t.rd o e = s.rd o e)) ∧
    (∀ v : BitVec 32, s.solveCheck v.toNat ≠ 0 → exec (.solveCmd p v) s = .next { s with result := s.solveCheck v.toNat }) ∧
    (∀ (e : Nat) (v : BitVec 32), e < 32768 → v.toNat < 65536 → entryValid v.toNat = true → s.slotInUse (e / 512) = false →
      ∃ t : State, exec (.slotWrite p false e v) s = .next t ∧
        t = { s with result := 0, regs := t.regs, faults := (s.toCore.eccWrite 6 (okey OD.SLOT_MAP e)).faults } ∧
        t.rd OD.SLOT_MAP e = v.toNat ∧ t.slotValid (e / 512) = false ∧ t.slotHasMap (e / 512) = true ∧
        (∀ o i, okey o i ≠ okey OD.SLOT_MAP e → okey o i ≠ okey OD.SLOT_STATUS (e / 512) → t.rd o i = s.rd o i)) ∧
    (∀ (e : Nat) (v : BitVec 32), e < 8704 → s.slotInUse (e / 136) = false →
      ∃ t : State, exec (.slotWrite p true e v) s = .next t ∧
        t = { s with result := 0, regs := t.regs, faults := (s.toCore.eccWrite 6 (okey OD.SLOT_SETTINGS e)).faults } ∧
        t.rd OD.SLOT_SETTINGS e = v.toNat ∧ t.slotValid (e / 136) = false ∧ t.slotHasMap (e / 136) = true) ∧
    (∀ n : Fin 64,
      (s.slotHasMap n = false → exec (.slotVerify p n) s = .next { s with result := 0x06090041 }) ∧
      (s.slotHasMap n = true → firstConflict [] (circuits (s.slotMap n)) = none →
        (∀ q ∈ circuits (s.slotMap n), (pathOf (slotWords s.toCore n) q.1).2 = q.2) →
        exec (.slotVerify p n) s = .next { s with
          result := 0
          regs := storePut (storePut (storePut s.regs (okey OD.SLOT_STATUS n) (setBits (setBits (s.slotStatus n) 31 31 1) 27 26 0))
            (okey OD.SLOT_RESULT 0) 0) (okey OD.FIRST_CONFLICT 0) 0xFFFF }) ∧
      (∀ o, s.slotHasMap n = true → firstConflict [] (circuits (s.slotMap n)) = some o →
        exec (.slotVerify p n) s = .next { s with
          result := 0
          regs := storePut (storePut (storePut s.regs (okey OD.SLOT_STATUS n) (setBits (s.slotStatus n) 31 31 0))
            (okey OD.SLOT_RESULT 0) 0x06090040) (okey OD.FIRST_CONFLICT 0) o }) ∧
      (∀ q, s.slotHasMap n = true → firstConflict [] (circuits (s.slotMap n)) = none →
        (circuits (s.slotMap n)).find? (fun q => decide ((pathOf (slotWords s.toCore n) q.1).2 ≠ q.2)) = some q →
        exec (.slotVerify p n) s = .next { s with
          result := 0
          regs := storePut (storePut (storePut s.regs (okey OD.SLOT_STATUS n) (setBits (s.slotStatus n) 31 31 0))
            (okey OD.SLOT_RESULT 0) 0x06090042) (okey OD.FIRST_CONFLICT 0) q.2 }) ∧
      (s.slotInUse n = true → exec (.slotErase p n) s = .next { s with result := 0x06060001 }) ∧
      (s.slotInUse n = false →
        ∃ t : State, exec (.slotErase p n) s = .next t ∧
          t = { s with result := 0, regs := t.regs, faults := (s.toCore.eccWrite 6 (okey OD.SLOT_MAP (512 * n))).faults } ∧ t.slotStatus n = 0 ∧
          t.rd OD.SLOT_RESULT = 0 ∧ (∀ o, o < 512 → t.rd OD.SLOT_MAP (512 * n + o) = 0x8000) ∧
          (∀ w, w < 136 → t.rd OD.SLOT_SETTINGS (136 * n + w) = 0) ∧
          (∀ m : Fin 64, m ≠ n → t.slotStatus m = s.slotStatus m ∧
            (∀ o, o < 512 → t.rd OD.SLOT_MAP (512 * m + o) = s.rd OD.SLOT_MAP (512 * m + o)))))) ∧
  (∀ s : State, s.Live → s.col = none → exec .colSolveEnd s = .next s)

/-- In a state that serves the path, whose stores are in canonical form: SLOT_SAVE of a solved shadow set into a slot not in use
answers a next state in which every entry and every word of the slot is the shadow set's, VALID and HAS_MAP are set,
SLOT_RESULT is 0, and both configuration sets are as they were. SLOT_LOAD of a valid slot into an unlocked shadow set
answers one in which every map entry and every word of the shadow set is the slot's, SHADOW_SOLVED is 1 and SHADOW_ORIGIN 3,
and the active set and the slots are as they were. A slot in use is refused with 0606_0001h and a slot not valid with
0609_0041h, with nothing changed, SLOT_RESULT neither (the model's choice, log 36). (R181, R183) -/
def Obligations.SlotsSaveAndLoadTheShadowSet : Prop :=
  ∀ (s : State) (p : Path) (n : Fin 64), s.Serves p → Tab.wf dfltOf s.regs = true →
    Tab.wf dfltOf s.shd = true →
    (s.rd OD.SHADOW_SOLVED ≠ 0 → s.slotInUse n = false →
      ∃ t : State, exec (.slotSave p n) s = .next t ∧
        t = { s with result := 0, regs := t.regs, faults := (s.toCore.eccWrite 6 (okey OD.SLOT_MAP (512 * n))).faults } ∧
        (∀ o, o < 512 → t.rd OD.SLOT_MAP (512 * n + o) = mapEntry s.shd o) ∧
        (∀ w, w < 136 → t.rd OD.SLOT_SETTINGS (136 * n + w) = setWords s.shd w) ∧
        t.rd OD.SLOT_RESULT = 0) ∧
    (s.rd OD.SHADOW_SOLVED ≠ 0 → s.slotInUse n = true → exec (.slotSave p n) s = .next { s with result := 0x06060001 }) ∧
    (s.slotValid n = true → s.shadowLocked = false →
      ∃ t : State, exec (.slotLoad p n) s = .next t ∧
        t = { s with result := 0, regs := t.regs, shd := t.shd,
                     faults := (s.toCore.eccWrite 5 (shadowMark + okey OD.CONN_MAP 0)).faults } ∧
        (∀ o, o < 512 → mapEntry t.shd o = s.rd OD.SLOT_MAP (512 * n + o)) ∧
        (∀ w, w < 136 → setWords t.shd w = slotWords s.toCore n w) ∧
        t.rd OD.SHADOW_SOLVED = 1 ∧ t.rd OD.SHADOW_ORIGIN = 3 ∧ t.rd OD.SHADOW_DISTURBS = bits (s.slotStatus n) 9 0 ∧
        t.rd OD.SLOT_RESULT = 0 ∧
        (∀ o e, o ≠ OD.CONN_MAP → o ≠ OD.ACTIVE_SETTINGS → e < 1048576 → t.rdS o e = s.rdS o e) ∧
        (∀ o e, o ≠ OD.SHADOW_SOLVED → o ≠ OD.SHADOW_ORIGIN → o ≠ OD.SHADOW_DISTURBS → o ≠ OD.SLOT_RESULT → e < 1048576 →
          t.rd o e = s.rd o e)) ∧
    (s.rd OD.SHADOW_SOLVED = 0 → exec (.slotSave p n) s = .next { s with result := 0x06090041 }) ∧
    (s.slotValid n = true → s.shadowLocked = true → exec (.slotLoad p n) s = .next { s with result := 0x06060001 }) ∧
    (s.slotValid n = false → exec (.slotLoad p n) s = .next { s with result := 0x06090041 })

/-- In a live state in which a solve runs: COL_SOLVE_END of a map that names an input twice answers, with an event to send, a
state with COL_STATE 3, COL_RESULT 0609_0040h, FIRST_CONFLICT the lowest such output, and both configuration sets and every
slot as they were. Of another map it answers one with COL_STATE 2 and DISTURB_COUNT the number of disturbed circuits; a
strict solve with disturbances ends so with 0604_0014h and writes nothing more; any other solve for the shadow set leaves
there the map and the settings of the solve, with SHADOW_SOLVED 1 and COL_RESULT 0. SOLVE_TIME is a free value below 12,001,
or 120,001 for a Preserve solve. The solve is over, SOLVES is counted, and the active set, the loops, the channels and the
Motin engine are as they were. (R172, R176, R177, R179, R180, R184) -/
def Obligations.SolveEndsDoneOrFailed : Prop :=
  ∀ (s : State) (v : Solve), s.Live → s.col = some v → (v.dst < 64 ∨ v.dst = 255) →
    (v.map.map (·.1)).Nodup → (∀ q ∈ v.map, q.1 < 512) →
    ∃ t : State, exec .colSolveEnd s = .next (State.settle t) ∧ t.col = none ∧ t.rd OD.SOLVES = count32 (s.rd OD.SOLVES) 1 ∧
      t.rd OD.SOLVE_TIME < (if v.preserve then 120001 else 12001) ∧
      t.act = s.act ∧ t.loops = s.loops ∧ t.chans = s.chans ∧ t.motin = s.motin ∧ t.pend = s.pend ∧ t.now = s.now ∧
      t.pending = s.pending ∧
      (∀ o, firstConflict [] (circuits v.map) = some o →
        t.rd OD.COL_STATE = 3 ∧ t.rd OD.COL_RESULT = 0x06090040 ∧ t.rd OD.FIRST_CONFLICT = o ∧ t.shd = s.shd ∧
        (∀ n i, i < 512 → n < 64 → t.rd OD.SLOT_MAP (512 * n + i) = s.rd OD.SLOT_MAP (512 * n + i))) ∧
      (firstConflict [] (circuits v.map) = none →
        let r := solveResult v
        t.rd OD.COL_STATE = 2 ∧ t.rd OD.DISTURB_COUNT = r.2.length ∧
        (v.strict = true → r.2 ≠ [] → t.rd OD.COL_RESULT = 0x06040014 ∧ t.shd = s.shd) ∧
        ((v.strict = false ∨ r.2 = []) → t.rd OD.COL_RESULT = 0) ∧
        ((v.strict = false ∨ r.2 = []) → v.dst = 255 →
          t.rd OD.SHADOW_SOLVED = 1 ∧ t.rd OD.SHADOW_ORIGIN = (if v.preserve then 2 else 1) ∧
          (∀ o, o < 512 → mapEntry t.shd o = mapOf v.map o)))

/-- In a state that serves the path, COMMIT_CANCEL with no commit changes nothing, of a commit within B(g - 3) ends with
0606_0001h, and of one before B(g - 3) or suspended ends it with outcome 4 and unlocks the shadow set. In a live state:
TRAVERSE_BEGIN at B(g - 3) begins the traverse and ends the trims of elements that it moves or whose set-point or set it
changes, or without a supervisor suspends the commit, counts and reports 262; GLIDE_RAMP_DOWN_START at its boundary of a
begun traverse starts the VOA's ramp with its home target; RETIRED_SET_RELEASE with no pinned packet releases the set, and
at t_drain drops the pinned ones, counts them and reports 332; COPY_BACK_DONE then makes shadow and saved set the active set
and unlocks it; GUARD_OPEN of a traverse due at the frame's end guards the lanes of ports at T - DRAIN_GUARD; GUARD_MIN_END
ends the due windows without an altered receive circuit, with lock, or under a closure; GUARD_RELOCK_TIMEOUT ends those
without lock, counts them and reports 263. With nothing to do each changes nothing. (R189, R191, R192, R197, R204, R205,
R249) -/
def Obligations.TraverseEventsCompleteWhereDue : Prop :=
  (∀ (s : State) (p : Path), s.Serves p →
    (s.trav.cur = none → exec (.commitCancel p 1) s = .next { s with result := 0 }) ∧
    (∀ k : Commit, s.trav.cur = some k → k.slot = none → k.suspended = false → k.t - 3 * frameUnits ≤ s.now →
      exec (.commitCancel p 1) s = .next { s with result := 0x06060001 }) ∧
    (∀ k : Commit, s.trav.cur = some k → k.slot.isSome → exec (.commitCancel p 1) s = .next { s with result := 0 }) ∧
    (∀ k : Commit, s.trav.cur = some k → k.slot = none → (k.suspended = true ∨ s.now < k.t - 3 * frameUnits) →
      ∃ t : State, exec (.commitCancel p 1) s = .next (State.settle t) ∧ t.trav.cur = none ∧
        t.trav.guards = s.trav.guards.filter (fun g => !(k.t == g.t)) ∧ t.rd OD.SET_STATE = 0 ∧
        t.rd OD.LAST_RESULT = 4 ∧ t.rd OD.LAST_RESULT_ID = k.id ∧ t.rd OD.PENDING_T = 0 ∧ t.result = 0 ∧
        t.rd OD.COMMITS_CANCELLED = count32 (s.rd OD.COMMITS_CANCELLED) 1 ∧
        t = { s with result := 0, regs := t.regs, loops := t.loops, chans := t.chans, trav := t.trav, events := t.events })) ∧
  (∀ s : State, s.Live →
    (s.trav.cur = none → exec .traverseBegin s = .next s ∧ (∀ o, exec (.glideRampDownStart o) s = .next s) ∧ exec .guardOpen s = .next s) ∧
    (∀ k : Commit, s.trav.cur = some k → (s.now < k.t - 3 * frameUnits ∨ k.frozen = true ∨ k.suspended = true) →
      exec .traverseBegin s = .next s) ∧
    (∀ k : Commit, s.trav.cur = some k → k.t - 3 * frameUnits ≤ s.now → k.frozen = false → k.suspended = false → k.begun = false →
      (s.inCharge = true ∨ k.slot.isSome → Tab.wf (fun _ => Loop.reset) s.loops = true →
        let n := s.newSet k
        let touched := fun te => (s.movers n).contains te || decide (s.target te ≠ setPoint n (setWords n) (mapEntry n) te) ||
          !sameSet s.act n s.loopPower s.loopPower te
        ∃ u : State, exec .traverseBegin s = .next u ∧ u = { s with regs := u.regs, loops := u.loops, trav := u.trav } ∧
          u.trav = { s.trav with cur := some { k with begun := true } } ∧
          u.rd OD.SET_STATE = (if k.slot.isNone then 2 else s.rd OD.SET_STATE) ∧
          (∀ te, u.loop te = if (s.loop te).st = .trim ∧ touched te then { s.loop te with st := .locked, bin := 0, trimFrames := 0 }
            else s.loop te)) ∧
      (s.inCharge = true → k.slot = none → (∀ q ∈ s.loops, q.2.st ≠ .trim) →
        exec .traverseBegin s = .next { s with
          regs := storePut s.regs (okey OD.SET_STATE 0) 2
          trav := { s.trav with cur := some { k with begun := true } } }) ∧
      (s.inCharge = false → k.slot = none →
        exec .traverseBegin s = .next (State.settle { s with
          regs := storePut (storePut s.regs (okey OD.SET_STATE 0) 3) (okey OD.COMMITS_SUSPENDED 0) (count32 (s.rd OD.COMMITS_SUSPENDED) 1)
          trav := { s.trav with cur := some { k with suspended := true, ramps := [] } }
          faults := { s.faults with raised := [⟨262, [], [], [], true⟩] } }))) ∧
    (∀ (k : Commit) (o : Fin 512) (at_ : Instant), s.trav.cur = some k → k.begun = true → k.suspended = false →
      k.ramps.find? (fun q => q.1 == o.val) = some (o.val, at_) → at_ ≤ s.now →
      ∃ t : State, exec (.glideRampDownStart o) s = .next t ∧ t = { s with regs := t.regs, trav := t.trav } ∧
        t.trav = { s.trav with
          cur := some { k with ramps := k.ramps.filter (fun q => q.1 != o.val) }, glides := t.trav.glides } ∧
        (t.glide o).phase = 1 ∧ (t.glide o).home = s.target (voaTe o) ∧ (t.glide o).gen.isSome = true ∧
        (t.glide o).stalled = false ∧ (∀ q, q ≠ o.val → t.glide q = s.glide q)) ∧
    (s.trav.copyBack = true → s.trav.copyClass = false →
      exec .copyBackDone s = .next { s with
        shd := s.act, saved := s.act
        regs := storePut (storePut (storePut (storePut s.regs (okey OD.SHADOW_SOLVED 0) 1) (okey OD.SHADOW_ORIGIN 0) 0)
          (okey OD.SHADOW_DISTURBS 0) 0) (okey OD.SET_STATE 0) 0
        trav := { s.trav with copyBack := false }
        pkt := { s.pkt with damaged := s.pkt.damaged.filter (fun e => decide (e.1 < 2 ^ 48)) } }) ∧
    (s.trav.copyBack = false ∨ s.trav.copyClass = true → exec .copyBackDone s = .next s) ∧
    (s.trav.copyClass = false → exec .retiredSetRelease s = .next s) ∧
    (s.trav.copyClass = true → (∀ q ∈ s.pkt.recirc, ∀ x ∈ q.2, x.gen = s.pkt.gen) →
      exec .retiredSetRelease s = .next { s with
        pkt := { s.pkt with recirc := s.pkt.recirc.filter (fun q => !q.2.isEmpty) }
        trav := { s.trav with copyClass := false } }) ∧
    (s.trav.copyClass = true → s.pkt.recirc.foldl (fun n q => n + q.2.countP s.pinned) 0 ≠ 0 →
      s.now < ofTime64 (s.rd OD.LAST_T) + drainUnits → exec .retiredSetRelease s = .next s) ∧
    (let stale := s.pkt.recirc.foldl (fun n q => n + q.2.countP s.pinned) 0;
      s.trav.copyClass = true → stale ≠ 0 → ofTime64 (s.rd OD.LAST_T) + drainUnits ≤ s.now →
      ∃ u : State, exec .retiredSetRelease s = .next (State.settle u) ∧
        u = { s with regs := u.regs, pkt := { s.pkt with recirc := u.pkt.recirc }, trav := u.trav, faults := u.faults } ∧
        (∀ q ∈ u.pkt.recirc, ∀ x ∈ q.2, x.gen = s.pkt.gen) ∧ u.trav = { s.trav with copyClass := false } ∧
        u.rd OD.RECIRC_STALE = count64 (s.rd OD.RECIRC_STALE) stale ∧
        u.faults = { s.faults with raised := [⟨332, [], [], [], true⟩] }) ∧
    (∀ k : Commit, s.trav.cur = some k → k.begun = true → k.suspended = false → k.linkFailed = false → s.frameEnd = k.t → k.lanes ≠ [] →
      (∀ g ∈ s.trav.guards, g.t ≠ k.t) → s.now ≤ k.t - nsU (s.rd OD.DRAIN_GUARD) →
      ∃ t : State, exec .guardOpen s = .next t ∧ t.now = k.t - nsU (s.rd OD.DRAIN_GUARD) ∧
        t.trav = { s.trav with guards := s.trav.guards ++
          (k.lanes.filter (fun q => (s.portOf q.1).isSome)).map (fun q => ⟨q.1, q.2, k.t⟩) } ∧
        t = { s with regs := t.regs, now := t.now, up := t.up, trav := t.trav, ports := t.ports,
                     pkt := { s.pkt with gateSeen := t.pkt.gateSeen } }) ∧
    ((∀ g ∈ s.trav.guards, s.frameEnd ≤ g.t + nsU 3000) → exec .guardMinEnd s = .next s) ∧
    ((∃ g ∈ s.trav.guards, g.t + nsU 3000 < s.frameEnd) →
      ∃ t : State, exec .guardMinEnd s = .next t ∧
        t.trav = { s.trav with guards := s.trav.guards.filter (fun g => !(decide (g.t + nsU 3000 < s.frameEnd) &&
          (!g.rx || (s.lane g.lane).lock || (s.portOf g.lane).any s.derivedNow))) } ∧
        t = { s with regs := t.regs, now := t.now, up := t.up, trav := t.trav, ports := t.ports,
                     pkt := { s.pkt with gateSeen := t.pkt.gateSeen } }) ∧
    ((∀ g ∈ s.trav.guards, s.frameEnd ≤ g.t + nsU 43000) → exec .guardRelockTimeout s = .next s) ∧
    (let due := s.trav.guards.filter (fun g => g.rx && decide (g.t + nsU 43000 < s.frameEnd) && !(s.lane g.lane).lock);
      let late := due.filter (fun g => !(s.portOf g.lane).any s.derivedNow);
      late ≠ [] →
      ∃ u : State, exec .guardRelockTimeout s = .next (State.settle u) ∧
        u.trav = { s.trav with guards := s.trav.guards.filter (fun g => !due.contains g) } ∧
        u.rd OD.GUARD_RELOCK_TIMEOUTS = count32 (s.rd OD.GUARD_RELOCK_TIMEOUTS) late.length ∧
        (∃ r ∈ u.faults.raised, r.source = 263) ∧
        u = { s with regs := u.regs, now := u.now, up := u.up, trav := u.trav, ports := u.ports, faults := u.faults,
                     pkt := { s.pkt with gateSeen := u.pkt.gateSeen } }))

/-- In a state that serves the path, with 1 to 64 entries in bank 0 or 1 that TT_BANK names: TT_ARM of a bank that passes its
checks, with nothing in its way, makes TT_STATE 1 and the bank the running one, puts its slots in use and plans the first
transition into its entry 0, which has begun where at most three frames remain; TT_STOP while no transition has begun makes
TT_STATE 0 with cause 1, frees every slot and unlocks the shadow set as a copy of the active set; while one has begun it
waits; TT_REPLACE while running of the other bank, where the pending transition lies before the replacement instant, records
that instant and puts the slots in use; TT_RESUME of a frozen timetable with a valid slot plans the first grid transition at
least 2 ms ahead; TT_TRACE of a bank that passes its checks writes its entries' words. Stopped or frozen states that do not
fit end with 0606_0001h. Nothing else changes. (That a stop with no transition begun unlocks and copies at once, and when
ramp-downs are checked, is the model's choice, log 27.) (R212, R213, R214, R216, R222, R223, R225, R227) -/
def Obligations.TimetableCommandsComplete : Prop :=
  ∀ (s : State) (p : Path), s.Serves p →
    let b := s.rd OD.TT_BANK
    b ≤ 1 → 1 ≤ s.ttCount b → s.ttCount b ≤ 64 →
    let synced := s.rd OD.UNSYNCHRONIZED ≠ 1
    (s.rd OD.UNSYNCHRONIZED = 1 → exec (.ttArm p) s = .next { s with result := 0x06040010 }) ∧
    (synced → s.timeState = tsFree → exec (.ttArm p) s = .next { s with result := 0x06040003 }) ∧
    (synced → s.timeState ≠ tsFree → (s.power = psRun ∨ s.power = psQuiet) → s.rd OD.TT_STATE = 0 → s.trav.cur = none →
      s.trav.copyBack = false → s.fringeRunning = false → s.leavingDormant = false → (s.ttCheck b).1 = 0 →
      ∃ (t : State) (k : Commit), exec (.ttArm p) s = .next (State.settle t) ∧
        t = { s with result := 0, regs := t.regs, shd := t.shd, loops := t.loops, trav := t.trav, tt := t.tt, faults := t.faults } ∧
        t.trav.cur = some k ∧
        (s.now + 3 * frameUnits < k.t → t.loops = s.loops ∧ t.trav = { s.trav with cur := some k } ∧
          t.faults = (s.toCore.eccWrite 5 (shadowMark + okey OD.CONN_MAP 0)).faults) ∧
        t.rd OD.TT_STATE = 1 ∧ t.rd OD.TT_RUN_BANK = b ∧ k.slot = some (s.ttSlot b 0) ∧ k.t = t.tt.start ∧ k.begun = decide (k.t ≤ s.now + 3 * frameUnits) ∧
        t.tt.nextEntry = 0 ∧ t.tt.nextBank = b ∧ t.tt.last = none ∧ (∀ n ∈ s.ttSlots b, t.slotInUse n = true)) ∧
    (s.rd OD.TT_STATE = 0 → exec (.ttStop p) s = .next { s with result := 0x06060001 }) ∧
    (∀ k : Commit, s.rd OD.TT_STATE ≠ 0 → s.trav.cur = some k → k.begun = true →
      exec (.ttStop p) s = .next { s with result := 0, tt := { s.tt with stopping := true } }) ∧
    (s.rd OD.TT_STATE ≠ 0 → (∀ k, s.trav.cur = some k → k.begun = false) →
      ∃ t : State, exec (.ttStop p) s = .next t ∧
        t = { s with
          result := 0, regs := t.regs, shd := s.act, saved := s.act, loops := t.loops, chans := t.chans, trav := t.trav
          tt := { s.tt with last := none, entered := none, stopping := false, replace := none, freezing := false } } ∧
        t.rd OD.TT_STATE = 0 ∧ t.rd OD.TT_STOP_CAUSE = 1 ∧ t.rd OD.TT_NEXT_T = 0 ∧ t.rd OD.SHADOW_SOLVED = 1 ∧
        (∀ n : Fin 64, t.slotInUse n = false) ∧ (∀ k, s.trav.cur = some k → k.slot.isSome = true → t.trav.cur = none)) ∧
    (synced → s.rd OD.TT_STATE ≠ 2 → exec (.ttReplace p) s = .next { s with result := 0x06060001 }) ∧
    (let run := s.rd OD.TT_RUN_BANK
      let cyc := s.ttCycle run
      let before := s.withSlot s.act (s.ttSlot run (s.ttCount run - 1))
      let dest := s.withSlot s.act (s.ttSlot b 0)
      let inTime := fun t => (rampingOutputs before dest).all (fun o =>
        decide (((s.now + ttLead : Nat) : Int) ≤ s.restStart before dest t o))
      let at_ := s.ttStart inTime cyc 300000 (gridFrom s.tt.start cyc (s.now + ttLead));
      synced → s.rd OD.TT_STATE = 2 → s.tt.replace = none → b ≠ run → s.tt.stopping = false → (s.ttCheck b).1 = 0 →
      (∀ k, s.trav.cur = some k → k.t < at_) →
      ∃ t : State, exec (.ttReplace p) s = .next t ∧
        t = { s with result := 0, regs := t.regs, tt := { s.tt with replace := some (at_, b) } } ∧
        t.rd OD.TT_REPLACE_AT = time64 at_ ∧ t.rd OD.TT_STATE = 2 ∧ (∀ n ∈ s.ttSlots b, t.slotInUse n = true)) ∧
    (synced → s.rd OD.TT_STATE ≠ 3 → exec (.ttResume p) s = .next { s with result := 0x06060001 }) ∧
    (let run := s.rd OD.TT_RUN_BANK
      let x := s.ttFrom run s.tt.start (s.now + leadUnits);
      synced → s.rd OD.TT_STATE = 3 → s.tt.replace = none → s.slotValid (s.ttSlot run x.2) = true →
      ∃ (u : State) (k : Commit), exec (.ttResume p) s = .next (State.settle u) ∧
        u = { s with
          result := 0, regs := u.regs, shd := u.shd, trav := { s.trav with cur := some k }
          tt := { s.tt with nextEntry := x.2, nextBank := run }, faults := u.faults } ∧
        k.t = x.1 ∧ k.slot = some (s.ttSlot run x.2) ∧ u.rd OD.TT_STATE = (if s.tt.entered.isSome then 2 else 1) ∧
        u.rd OD.TT_NEXT_T = time64 x.1) ∧
    ((s.ttCheck b).1 = 0 →
      ∃ t : State, exec (.ttTrace p) s = .next t ∧ t = { s with result := 0, regs := t.regs } ∧
        (∀ j, j < s.ttCount b → t.rd OD.TT_ENTRY_INFO (64 * b + j) = s.traceWord (s.ttSets b j).1 (s.ttSets b j).2)) ∧
    ((s.ttCheck b).1 ≠ 0 →
      exec (.ttTrace p) s = .next { s with
        result := (s.ttCheck b).1, regs := storePut s.regs (okey OD.TT_FIRST_BAD 0) (s.ttCheck b).2 })

/-- In a live state: ELS_LIGHT_LOSS takes the fiber's light away and ELS_LIGHT_RETURN gives it back, and no ELS_OK changes;
LANE_LOCK of a powered lane without lock gives it lock and ends its due guard window; outside a guard window its port's
UP_HOLD counts from then, and the port comes Up at once where every condition is true and UP_HOLD is 0; inside one it comes
Up where every condition is true and UP_HOLD has elapsed since the last other one became so; LANE_LOCK_LOSS takes the lock
away and leaves the port to the boundary; UP_HOLD_EXPIRE of a Down port with every condition true brings it Up, and before
the hold has passed changes nothing; PORT_DOWN_FLUSH of an enabled, unguarded port Down for longer than PORT_DOWN_FLUSH
empties its queues, leaves every other queue and fires 387 + pipe, and of a port that is Up changes nothing. Nothing else
changes. Deskew counts as given with the lanes' locks (the model's choice, log 18). (R11, R204, R233, R234, R273, R413) -/
def Obligations.LanesAndPortsFollowTheirConditions : Prop :=
  (∀ (s : State) (f : Fin 8), s.Live →
    (f.val ∉ s.elsDark → exec (.elsLightLoss f) s = .next { s with elsDark := s.elsDark ++ [f.val] }) ∧
    exec (.elsLightReturn f) s = .next { s with elsDark := s.elsDark.filter (· != f.val) }) ∧
  (∀ (s : State) (k : Lane), s.Live →
    (∀ at_ : Nat,
      let c := s.toCore.advance at_
      let d : Core := { c with
        lanes := Tab.put c.lanes k { c.lane k with lock := true, lostIn := false } LaneRec.reset
        trav := { c.trav with guards := c.trav.guards.filter (fun g => !(g.lane == k.val && decide (g.t + nsU 3000 ≤ c.now))) } }
      c.lanesOn = true → (c.lane k).lock = false →
      (c.portOf k = none → exec (.laneLock k at_) s = .next { s with toCore := d }) ∧
      (∀ p, c.portOf k = some p →
        (c.portGuarded p = false →
          let e := d.restartHold p
          ((e.portReady p = false ∨ 0 < portHold (e.portCfg p)) → exec (.laneLock k at_) s = .next { s with toCore := e }) ∧
          ((e.port p).up = false → e.portReady p = true → portHold (e.portCfg p) = 0 →
            exec (.laneLock k at_) s = .next { s with toCore := { e with
              ports := Tab.put e.ports p ⟨true, e.up, none, false⟩ PortRec.reset } })) ∧
        (c.portGuarded p = true → d.portGuarded p = true → (d.port p).up = false → d.portReady p = true →
          (d.port p).since + nsU (1000000 * portHold (d.portCfg p)) ≤ d.up →
          exec (.laneLock k at_) s = .next { s with toCore := { d with
            ports := Tab.put d.ports p ⟨true, (d.port p).since, none, false⟩ PortRec.reset } }))) ∧
    ((s.lane k).lock = true →
      exec (.laneLockLoss k) s = .next { s with
        lanes := Tab.put s.lanes k { s.lane k with lock := false, lostIn := s.insideGuard k } LaneRec.reset }) ∧
    ((s.lane k).lock = false → exec (.laneLockLoss k) s = .next s) ∧
    ((s.port k).up = false → s.portReady k = true →
      ((s.port k).since + nsU (1000000 * portHold (s.portCfg k)) ≤ s.up →
        exec (.upHoldExpire k) s = .next { s with
          ports := Tab.put s.ports k { s.port k with up := true, downSince := none, flushed := false } PortRec.reset }) ∧
      (s.up < (s.port k).since + nsU (1000000 * portHold (s.portCfg k)) → exec (.upHoldExpire k) s = .next s)) ∧
    (∀ t, (s.port k).downSince = some t → (s.port k).up = false → (s.port k).flushed = false → s.portEnabled k = true →
      s.portGuarded k = false → t + nsU (s.rd OD.PORT_DOWN_FLUSH) < s.up →
      ∃ u : State, exec (.portDownFlush k) s = .next (State.settle u) ∧ (u.port k).flushed = true ∧
        (∀ q, queuePort q = k.val → u.queue q = []) ∧ (∀ q, queuePort q ≠ k.val → u.queue q = s.queue q) ∧
        (∃ r ∈ u.faults.raised, r.source = 387 + k.val / 32) ∧
        u = { s with regs := u.regs, ports := u.ports, pkt := u.pkt, faults := u.faults }) ∧
    ((s.port k).up = true → exec (.portDownFlush k) s = .next s))

/-- In a live state, after the time moves on to the frame's stamp: PACKET_RECEIVE on a port that is disabled or not Up changes
nothing else; on an Up port a frame below 64 bytes counts in counter 3, one beyond MAX_FRAME in 4, one with a wrong FCS in 2
and a PAUSE frame in 5, each also in the bytes of the port's window in which its last byte passes the plane; any other frame
that fits counts in counters 0 and 1, is stamped at its reference plane, and joins the ingress buffer's end while every
other port's buffer stays; one that does not fit counts in INGRESS_OVERRUNS and fires source 328 + pipe. PACKET_PASS and
PACKET_SECOND_PASS with no packet waiting change nothing. The buffer of 16 KiB a lane, the size check before the frame check
sequence and windows that count bad frames too are the model's choices (log 29). (R231, R235, R249, R382) -/
def Obligations.FramesArriveAndAreCounted : Prop :=
  ∀ (s : State) (p : Lane), s.Live →
    (∀ (at_ : Nat) (bs : List Byte),
      let c := s.toCore.advance at_
      let seen : Pkt := { c.pkt with bwRx := Tab.modify c.pkt.bwRx p [] (· ++ [(c.up + c.wireTime p bs.length - c.rxDelay p, bs.length)]) }
      let counted := fun i => exec (.packetReceive p at_ bs) s = .next { s with toCore := { c with
        regs := storePut c.regs (okey OD.PORT_RX_COUNTS (8 * p + i)) (count64 (c.rd OD.PORT_RX_COUNTS (8 * p + i)) 1), pkt := seen } }
      ((c.portEnabled p = false ∨ (c.port p).up = false) → exec (.packetReceive p at_ bs) s = .next { s with toCore := c }) ∧
      (c.portEnabled p = true → (c.port p).up = true →
        (bs.length < 64 → counted 3) ∧
        (64 ≤ bs.length → portMax (c.portCfg p) < bs.length → counted 4) ∧
        (64 ≤ bs.length → bs.length ≤ portMax (c.portCfg p) →
          (fcsGood bs = false → counted 2) ∧
          (fcsGood bs = true → isPause bs = true → counted 5) ∧
          (fcsGood bs = true → isPause bs = false →
            packetBytes (Tab.get c.pkt.ingress p []) + bs.length ≤ portWidth (c.portCfg p) * 16384 →
            ∃ t : State, exec (.packetReceive p at_ bs) s = .next t ∧
              t = { s with toCore := { c with regs := t.regs, pkt := { seen with ingress := t.pkt.ingress } } } ∧
              Tab.get t.pkt.ingress p [] = Tab.get c.pkt.ingress p [] ++ [⟨p, bs, c.now - c.rxDelay p, false, 0, 0, 0, 0, 0⟩] ∧
              (∀ q, q ≠ p.val → Tab.get t.pkt.ingress q [] = Tab.get c.pkt.ingress q []) ∧
              t.rd OD.PORT_RX_COUNTS (8 * p) = count64 (c.rd OD.PORT_RX_COUNTS (8 * p)) 1 ∧
              t.rd OD.PORT_RX_COUNTS (8 * p + 1) = count64 (c.rd OD.PORT_RX_COUNTS (8 * p + 1)) bs.length) ∧
          (fcsGood bs = true → isPause bs = false →
            portWidth (c.portCfg p) * 16384 < packetBytes (Tab.get c.pkt.ingress p []) + bs.length →
            ∃ u : State, exec (.packetReceive p at_ bs) s = .next (State.settle u) ∧
              u = { s with toCore := { c with regs := u.regs, pkt := seen
                                              faults := { c.faults with raised := [⟨328 + p.val / 32, [], [], [], true⟩] } } } ∧
              u.rd OD.PORT_RX_COUNTS (8 * p) = count64 (c.rd OD.PORT_RX_COUNTS (8 * p)) 1 ∧
              u.rd OD.INGRESS_OVERRUNS = count64 (c.rd OD.INGRESS_OVERRUNS) 1)))) ∧
    (Tab.get s.pkt.ingress p [] = [] → exec (.packetPass p) s = .next s) ∧
    (∀ pipe : Fin 4, Tab.get s.pkt.recirc pipe [] = [] → exec (.packetSecondPass pipe) s = .next s)

/-- In a live state a pass with the engine off changes nothing, and with it on takes the oldest packet out of the port's ingress
buffer, or the pipe's recirculation buffer, and no other. Where that packet parses, its key is found, and the action of that
entry names a queue and nothing more (no flow, meter, mirror, class or tag), the queue is enabled on an enabled port that
was not flushed, the frame fits a window of its class and the admission procedure admits it: PACKET_PASS, and in the same
way PACKET_SECOND_PASS under the set of the packet's generation, answers a next state (once the collector has sampled) in
which the buffer has lost its oldest packet only, the queue holds the frame last and LOOKUP_HITS is counted; every other
queue, both configuration sets, the loops and the channels are as they were. (R235, R239, R246, R247, R252, R257) -/
def Obligations.PassesTakeThePacketToItsQueue : Prop :=
  (∀ (s : State) (p : Lane) (pipe : Fin 4), s.Live →
    (s.engineOn = false → exec (.packetPass p) s = .next s ∧ exec (.packetSecondPass pipe) s = .next s) ∧
    (∀ x r, s.engineOn = true → Tab.get s.pkt.ingress p [] = x :: r →
      ∃ u : State, exec (.packetPass p) s = .next (State.settle u) ∧ u.pkt.ingress = Tab.put s.pkt.ingress p r []) ∧
    (∀ x r, s.engineOn = true → Tab.get s.pkt.recirc pipe [] = x :: r → x.second = true →
      ∃ u : State, exec (.packetSecondPass pipe) s = .next (State.settle u) ∧ u.pkt.ingress = s.pkt.ingress ∧
        u.pkt.recirc = Tab.put s.pkt.recirc pipe r [])) ∧
  ∀ (s : State) (x : Packet) (r : List Packet) (pos : Nat) (second : Bool) (buf : Nat) (st : Tab Nat), s.Live → s.engineOn = true →
    x.second = second → st = (if second ∧ s.pinned x then s.shd else s.act) →
    let hs := parse st x.port x.bytes
    let last := match hs.1.getLast? with
      | some h => h.1
      | none => 63
    let y := if second then x else { x with tc := bits (portParse st x.port) 5 3 }
    let prof := if second then x.profile else storeGet st (okey OD.PROFILE_MAP (64 * bits (portParse st x.port) 7 6 + last))
    let k := buildKey st prof x.bytes (metaBlock y false) hs.1
    let a := entAction (classAt st pos)
    let q := bits a 124 107
    let w := s.queueCfg q
    hs.2 = .none → prof ≠ 255 → classFind st (prof, k.2, beNat k.1) = some pos →
    bits a 127 125 = 2 → bit a 86 = false → bit a 102 = false → bit a 67 = false → bit a 103 = false → bits a 62 61 = 0 →
    x.colour = 0 → queueOn w = true → s.portEnabled (queuePort q) = true → (s.port (queuePort q)).flushed = false →
    s.gateOversize (queuePort q) (queueTc w) x.bytes.length = false → s.admits q (cellsOf x.bytes.length) 1 = true →
    (second = false → buf < 128 → Tab.get s.pkt.ingress buf [] = x :: r →
      ∃ (u : State) (p : Lane), p.val = buf ∧ exec (.packetPass p) s = .next (State.settle u) ∧
        Tab.get u.pkt.ingress buf [] = r ∧ u.queue q = s.queue q ++ [⟨x.bytes, 1, none, (s.toCore.eccTake 1).1, none⟩] ∧
        (∀ q', q' ≠ q → u.queue q' = s.queue q') ∧ u.rd OD.LOOKUP_HITS = count64 (s.rd OD.LOOKUP_HITS) 1 ∧
        u = { s with regs := u.regs, pkt := { s.pkt with ingress := u.pkt.ingress, queues := u.pkt.queues }, faults := u.faults }) ∧
    (second = true → buf < 4 → Tab.get s.pkt.recirc buf [] = x :: r →
      ∃ (u : State) (p : Fin 4), p.val = buf ∧ exec (.packetSecondPass p) s = .next (State.settle u) ∧
        Tab.get u.pkt.recirc buf [] = r ∧ u.queue q = s.queue q ++ [⟨x.bytes, 1, none, (s.toCore.eccTake 1).1, none⟩] ∧
        (∀ q', q' ≠ q → u.queue q' = s.queue q') ∧ u.rd OD.LOOKUP_HITS = count64 (s.rd OD.LOOKUP_HITS) 1 ∧
        u = { s with regs := u.regs, pkt := { s.pkt with recirc := u.pkt.recirc, queues := u.pkt.queues }, faults := u.faults })

/-- In a live state, after the time moves on: EGRESS_SCHEDULE of a port that is Down, or whose transmitter is busy, changes
nothing, nor of a port whose queues are empty; of an Up port with a free transmitter whose head frames are undamaged and fit
before their closures, the queue in turn of the highest class that may send (or the first one, with its quantum), where its
deficit covers its head, puts that frame into the transmitter until its last byte has left the plane, with deficit and
shaper's credit reduced by it. FRAME_TX_COMPLETE at the frame's end counts it in its queue, records it on the wire, adds it
to the port's bytes and frees the transmitter; before that it changes nothing. GATE_ENTRY_CHANGE puts a pending list whose
start has come in force and notes the gates in force. Nothing else changes but the performance counters. (R254, R264, R266,
R381) -/
def Obligations.FramesLeaveQueuesAndPorts : Prop :=
  ∀ (s : State) (p : Lane) (at_ : Nat), s.Live →
    let c := s.toCore.advance at_
    (((c.port p).up = false ∨ c.txFree p = false) → exec (.egressSchedule p at_) s = .next { s with toCore := c }) ∧
    (c.portQueues p = [] → exec (.egressSchedule p at_) s = .next { s with toCore := c }) ∧
    (∀ (q : Nat) (f : QFrame) (r : List QFrame) (d : Tab Nat), (c.port p).up = true → c.txFree p = true →
      c.queue q = f :: r → queuePort q = p.val → c.wantsToSend q = true →
      let cls := queueTc (c.queueCfg q)
      let turn := Tab.find? c.pkt.pointers (8 * p + cls)
      (∀ x ∈ c.portQueues p,
        (∀ g l, c.queue x = g :: l → g.ecc = 0 ∧ c.gateOversize p (queueTc (c.queueCfg x)) g.bytes.length = false) ∧
        (c.wantsToSend x = true → c.headHeld x = none ∧ queueTc (c.queueCfg x) ≤ cls)) →
      cls < 8 → f.bytes.length ≤ Tab.get d q 0 →
      ((turn = some q ∧ d = c.pkt.deficits) ∨
        (turn = none ∧ ((c.portQueues p).filter (fun x => decide (queueTc (c.queueCfg x) = cls) && c.wantsToSend x)).head? = some q ∧
          d = Tab.modify c.pkt.deficits q 0 (· + 256 * queueWeight (c.queueCfg q)))) →
      let paid : Core := match c.shaperOf q with
        | some k =>
          let w := c.shaperCfg k
          let cost : Int := if bit w 126 then 65536 else ((256 * (f.bytes.length + bits w 125 120) : Nat) : Int)
          c.setCredit k (shaperClamp w (c.credit k - cost))
        | none => c
      exec (.egressSchedule p at_) s = .next { s with toCore := { paid with pkt := { paid.pkt with
        queues := Tab.put c.pkt.queues q r []
        tx := Tab.set c.pkt.tx p ⟨q, some f, c.up + (f.bytes.length + 8) * 8 * 65536 / (100 * portWidth (c.portCfg p)) + c.txDelay p,
          c.up + c.txTime p f.bytes.length⟩
        deficits := Tab.put d q (if r.isEmpty then 0 else Tab.get d q 0 - f.bytes.length) 0
        pointers := Tab.set c.pkt.pointers (8 * p + cls) q } } }) ∧
    (∀ (x : TxRec) (f : QFrame), Tab.find? c.pkt.tx p = some x → x.frame = some f →
      (c.up < x.done → exec (.frameTxComplete p at_) s = .next { s with toCore := c }) ∧
      (x.done ≤ c.up → x.queue < 262144 →
        ∃ u : State, exec (.frameTxComplete p at_) s = .next (State.settle u) ∧
          u.pkt = { c.pkt with
            tx := Tab.set c.pkt.tx p { x with frame := none }, wire := Tab.set c.pkt.wire p f.bytes
            bwTx := Tab.modify c.pkt.bwTx p 0 (· + f.bytes.length) } ∧
          u.rd OD.QUEUE_COUNTS (4 * x.queue) = count64 (c.rd OD.QUEUE_COUNTS (4 * x.queue)) 1 ∧
          u.rd OD.QUEUE_COUNTS (4 * x.queue + 1) = count64 (c.rd OD.QUEUE_COUNTS (4 * x.queue + 1)) f.bytes.length ∧
          u = { s with toCore := { c with regs := u.regs, pkt := u.pkt, faults := u.faults } })) ∧
    (∃ t : State, exec (.gateEntryChange p at_) s = .next t ∧
      ((c.gateRec p).started = false → (c.gateRec p).start ≤ c.now → (t.gateRec p).started = true) ∧
      Tab.get t.pkt.gateSeen p 255 = t.openGates p ∧
      t = { s with toCore := { c with regs := t.regs, pkt := { c.pkt with gates := t.pkt.gates, gateSeen := t.pkt.gateSeen } } })

/-- In a live state whose registers are in canonical form: REFILL_EPOCH of an epoch already passed, or with the engine off,
changes nothing; else it answers a next state in which the next epoch is the one after it, each meter's buckets are refilled
by its configuration and each enabled shaper has the credit of the rule at that instant, every other credit is as it was,
and nothing else of the packet engine, the loops and the configuration sets changes. (R259, R261, R263) -/
def Obligations.RefillEpochsFillEveryBucket : Prop :=
  ∀ (s : State) (e : Fin 49), s.Live → Tab.wf dfltOf s.regs = true →
    ((e.val < s.pkt.epoch ∨ s.engineOn = false) → exec (.refillEpoch e) s = .next s) ∧
    (s.pkt.epoch ≤ e.val → s.engineOn = true →
      let c := s.toCore.advance (1024 * e)
      ∃ t : State, exec (.refillEpoch e) s = .next t ∧
        t = { s with toCore := { c with pkt := { s.pkt with epoch := e + 1, buckets := t.pkt.buckets, credits := t.pkt.credits } } } ∧
        (∀ m, m < 32768 → t.bucket m = refillMeter (s.meterCfg m) (decide (e.val = 48)) (s.bucket m)) ∧
        (∀ k, k < 16384 → t.credit k =
          if bit (s.shaperCfg k) 127 then c.shaperRefill k (decide (e.val = 48)) else s.credit k))

/-- In a state that serves the path: with the shadow set locked or the stores frozen the five commands end with 0606_0001h; else
CLASS_INSERT of a staged key that the shadow bank holds, or that has a free way position, puts the entry there with 0 moves,
after the moves of the shortest chain where there is one, else in the lowest free stash position, else ends with 0609_0050h;
CLASS_DELETE clears VALID of the matching entry or reports FFFF_FFFFh; the two lookups report the position in their bank and
stage its entry, or FFFF_FFFFh; CLASS_CLEAR answers result 0; a staged entry that is not valid is refused by the first four
with 0609_0030h. A CLASS_TABLE write that passes its checks stores the entry. FLOW_CLEAR sets one context to 0,
FLOW_CLEAR_ALL all of them. BW_PEAK_CLEAR of 1 sets every peak to 0. In a live state BW_WINDOW_END of a due window stores
each port's bytes and peaks and starts the next, with the frames whose last byte is still to pass the plane. Nothing else
changes. (R244, R245, R272, R382) -/
def Obligations.ClassificationAndFlowCommands : Prop :=
  (∀ (s : State) (p : Path), s.Serves p →
    let failed := fun (code : Nat) => (.next { s with
      result := code, regs := storePut s.regs (okey OD.CLASS_RESULT 0) code } : Host.Outcome State Fault Refusal)
    let put := fun pos => (s.toCore.eccWrite 2 (shadowMark + okey OD.CLASS_TABLE pos)).faults
    ((s.shadowLocked = true ∨ s.classFrozen = true) →
      exec (.classInsert p) s = failed 0x06060001 ∧ exec (.classDelete p) s = failed 0x06060001 ∧
      exec (.classLookupShadow p) s = failed 0x06060001 ∧ exec (.classLookupActive p) s = failed 0x06060001 ∧
      exec (.classClear p) s = failed 0x06060001) ∧
    (s.shadowLocked = false → s.classFrozen = false →
      let v := s.rd OD.CLASS_STAGE
      let ended := fun (t : Tab Nat) pos => storePut (storePut t (okey OD.CLASS_POSITION 0) pos) (okey OD.CLASS_RESULT 0) 0
      let staged := fun pos w => storePut (storePut (storePut s.regs (okey OD.CLASS_POSITION 0) pos) (okey OD.CLASS_STAGE 0) w)
        (okey OD.CLASS_RESULT 0) 0
      (entValid v = false →
        exec (.classInsert p) s = failed 0x06090030 ∧ exec (.classDelete p) s = failed 0x06090030 ∧
        exec (.classLookupShadow p) s = failed 0x06090030 ∧ exec (.classLookupActive p) s = failed 0x06090030) ∧
      (∀ pos, entValid v = true →
        (classFind s.shd (entMatch v) = some pos ∨ (classFind s.shd (entMatch v) = none ∧
          (wayPositions (entMatch v)).find? (fun k => !entValid (classAt s.shd k)) = some pos)) →
        exec (.classInsert p) s = .next { s with
          result := 0
          shd := storePut s.shd (okey OD.CLASS_TABLE pos) v
          faults := put pos
          regs := storePut (storePut (storePut s.regs (okey OD.CLASS_POSITION 0) pos) (okey OD.CLASS_MOVES 0) 0)
            (okey OD.CLASS_RESULT 0) 0 }) ∧
      (entValid v = true → classFind s.shd (entMatch v) = none →
        (wayPositions (entMatch v)).find? (fun k => !entValid (classAt s.shd k)) = none →
        let chain := findChain s.shd 4 ((wayPositions (entMatch v)).map (fun k => [k]))
        (∀ ch pos, chain = some ch → ch.getLast? = some pos →
          ∃ t : State, exec (.classInsert p) s = .next t ∧ classAt t.shd pos = v ∧ t.rd OD.CLASS_RESULT = 0 ∧
            t.rd OD.CLASS_POSITION = pos ∧ t.rd OD.CLASS_MOVES = ch.length - 1 ∧
            (∀ k, k ∉ ch → k < 1048576 → classAt t.shd k = classAt s.shd k) ∧
            t = { s with result := 0, regs := t.regs, shd := t.shd, faults := t.faults }) ∧
        (∀ pos, chain = none → freeStash s.shd = some pos →
          exec (.classInsert p) s = .next { s with
            result := 0
            shd := storePut s.shd (okey OD.CLASS_TABLE pos) v
            faults := put pos
            regs := storePut (storePut (storePut s.regs (okey OD.CLASS_POSITION 0) pos) (okey OD.CLASS_MOVES 0) 0)
              (okey OD.CLASS_RESULT 0) 0 }) ∧
        (chain = none → freeStash s.shd = none → exec (.classInsert p) s = failed 0x06090050)) ∧
      (∀ pos, entValid v = true → classFind s.shd (entMatch v) = some pos →
        exec (.classDelete p) s = .next { s with
          result := 0
          shd := storePut s.shd (okey OD.CLASS_TABLE pos) (setBits (classAt s.shd pos) 191 191 0)
          faults := put pos
          regs := ended s.regs pos } ∧
        exec (.classLookupShadow p) s = .next { s with result := 0, regs := staged pos (classAt s.shd pos) }) ∧
      (∀ pos, entValid v = true → classFind s.act (entMatch v) = some pos →
        exec (.classLookupActive p) s = .next { s with result := 0, regs := staged pos (classAt s.act pos) }) ∧
      (entValid v = true → classFind s.shd (entMatch v) = none →
        exec (.classDelete p) s = .next { s with result := 0, regs := ended s.regs 0xFFFFFFFF } ∧
        exec (.classLookupShadow p) s = .next { s with result := 0, regs := ended s.regs 0xFFFFFFFF }) ∧
      (∃ t : State, exec (.classClear p) s = .next t ∧
        t = { s with result := 0, regs := storePut s.regs (okey OD.CLASS_RESULT 0) 0, shd := t.shd, faults := t.faults } ∧
        (∀ o e, o ≠ OD.CLASS_TABLE → e < 1048576 → t.rdS o e = s.rdS o e) ∧
        (∀ e, e < 1048576 → entValid (t.rdS OD.CLASS_TABLE e) = true → e ∉ classUsed s.shd))) ∧
    (∀ (pos : Fin 263168) (v : BitVec 512), s.classWriteCheck pos v.toNat = 0 →
      exec (.classTableWrite p pos v) s = .next { s with
        result := 0, shd := storePut s.shd (okey OD.CLASS_TABLE pos) v.toNat, faults := put pos }) ∧
    (∀ (pos : Fin 263168) (v : BitVec 512), s.classWriteCheck pos v.toNat ≠ 0 →
      exec (.classTableWrite p pos v) s = .next { s with result := s.classWriteCheck pos v.toNat }) ∧
    (∀ n : Fin 262144, exec (.flowClear p n) s = .next { s with result := 0, regs := storePut s.regs (okey OD.FLOW_CONTEXT n) 0 }) ∧
    exec (.flowClearAll p) s = .next { s with
      result := 0, regs := s.regs.filter (fun q => decide (okeyObj q.1 ≠ OD.FLOW_CONTEXT)) } ∧
    (∃ t : State, exec (.bwPeakClear p 1) s = .next t ∧ t = { s with result := 0, regs := t.regs } ∧
      (∀ q : Lane, t.rd OD.BW_RESULT (4 * q + 2) = 0 ∧ t.rd OD.BW_RESULT (4 * q + 3) = 0 ∧
        t.rd OD.BW_RESULT (4 * q) = s.rd OD.BW_RESULT (4 * q) ∧ t.rd OD.BW_RESULT (4 * q + 1) = s.rd OD.BW_RESULT (4 * q + 1))) ∧
    (∀ v : BitVec 8, v ≠ 1 → exec (.bwPeakClear p v) s = .next { s with result := 0x06090030 })) ∧
  (∀ (s : State) (ns : Nat), s.Live →
    let t1 := s.frameStart + (min ns (frameNs - 1)) * unitsPerNs
    let w := s.rd OD.BW_WINDOW * nsU 1000
    ((t1 % secondUnits % w ≠ 0 ∨ ofTime64 (s.rd OD.BW_LAST_END) = t1) → exec (.bwWindowEnd ns) s = .next s) ∧
    (t1 % secondUnits % w = 0 → ofTime64 (s.rd OD.BW_LAST_END) ≠ t1 →
      ∃ t : State, exec (.bwWindowEnd ns) s = .next t ∧ t.rd OD.BW_LAST_END = time64 t1 ∧
        t = { s with regs := t.regs, now := t.now, up := t.up
                     pkt := { s.pkt with bwRx := lateFrames s.pkt.bwRx t.up, bwTx := [] } } ∧
        (∀ q : Lane, s.portEnabled q = true →
          let rx := (((Tab.get s.pkt.bwRx q []).filter (fun x => decide (x.1 < t.up))).map (·.2)).sum
          t.rd OD.BW_RESULT (4 * q) = rx ∧ t.rd OD.BW_RESULT (4 * q + 1) = Tab.get s.pkt.bwTx q 0 ∧
          t.rd OD.BW_RESULT (4 * q + 2) = max rx (s.rd OD.BW_RESULT (4 * q + 2)))))

/-- In a live state, for every TYPE from 1 to 13 but 12 with its command: where the path's queue is empty, or its head has
another TYPE, or it is the other path's turn, the command changes nothing. Where the head has the TYPE and it is the path's
turn, and no write waits for a reply: if a reply to the same REQUEST_ID and body is kept, that reply is sent again and
CACHE_HITS counts; else if its body does not fit its TYPE it is answered with the abort code for that and an empty body (and
counted as malformed where the code is 0603_0000h); else if its TYPE is WRITE, WRITE_TABLE, COMMIT or SNAP and its sender is
not the active supervisor it is answered with 0604_0011h and an empty body; else if the module does not serve it in its
state it is answered with 0604_0011h and a full body. In each case the request has left the queue, the turn passes, and
nothing else changes. (R420 does not order these checks: body, COUNT, sender, state, and the second look for a kept reply
when the request is served, are the model's choice, log 31.) (R278, R283, R284, R285, R308, R339, R375) -/
def Obligations.MotinRequestsAreTakenInTurn : Prop :=
  ∀ (s : State) (p : Path) (type : Nat) (i : Instr), s.Live →
    (type, i) ∈ ([(1, .read p), (2, .write p), (3, .readTable p), (4, .writeTable p), (5, .commit p), (6, .snap p), (7, .heartbeat p),
      (8, .stateDigest p), (9, .export_ p), (10, .takeover p), (11, .subscribe p), (13, .abort p)] : List (Nat × Instr)) →
    (s.motin.queue p.val = [] → exec i s = .next s) ∧
    (∀ (r : Request) (rest : List Request), s.motin.queue p.val = r :: rest →
      (r.type ≠ type ∨ s.motin.turnOf p.val = false → exec i s = .next s) ∧
      (∀ k : Kept, r.type = type → s.motin.turnOf p.val = true → s.motin.keyWrites = [] → s.motin.addrWrites = [] →
        s.motin.repeats p.val r = some k →
        exec i s = .next { (s.taken p rest).send p r.from_ r.keySlot k.type k.id k.result k.reply with
          regs := storePut s.regs (okey OD.CACHE_HITS 0) (count32 (s.rd OD.CACHE_HITS) 1) }) ∧
      (r.type = type → s.motin.turnOf p.val = true → s.motin.keyWrites = [] → s.motin.addrWrites = [] →
        s.motin.repeats p.val r = none →
        (∀ a, bodyAbort r = a → a ≠ 0 → exec i s = .next (
          if a = 0x06030000 then
            { (s.taken p rest).answer p r a [] with
              regs := storePut s.regs (okey OD.MALFORMED_1100 0) (count32 (s.rd OD.MALFORMED_1100) 1) }
          else (s.taken p rest).answer p r a [])) ∧
        (bodyAbort r = 0 → (type = 2 ∨ type = 4 ∨ type = 5 ∨ type = 6) → s.toCore.fromActive p.val r = false →
          exec i s = .next ((s.taken p rest).answer p r 0x06040011 [])) ∧
        (bodyAbort r = 0 → ((type ≠ 2 ∧ type ≠ 4 ∧ type ≠ 5 ∧ type ≠ 6) ∨ s.toCore.fromActive p.val r = true) →
          s.toCore.serves r = false → exec i s = .next ((s.taken p rest).answer p r 0x06040011 (refusedBody r)))))

/-- In a state in which the engine takes the path's request: a READ of one object replies its value with RESULT 0, or its abort
code where it cannot be read; an RC object read with selector 00b is cleared, nothing else changes; a READ whose reply would
pass 1,232 bytes is answered 0603_0003h with no body and clears nothing. A WRITE of one object that cannot be written
replies its abort code; one of an RW object of page 12h with a value of its length and range is accepted, waits for the next
boundary and replies 0. A READ_TABLE of a reference that cannot be read, or beyond the table, replies its abort code; of a
table that reading does not clear it replies the count, the offset, the elements asked for that exist and fit, and their
size. A WRITE_TABLE that is refused as a whole writes nothing; one of one entry of the connection map writes the shadow
set's entry, or is refused: 0606_0001h while the set is locked, else 0609_0030h where it is not valid (the lock first, as
MAP_ENTRY_WRITE: the model's choice, log 36). The reply is sent and kept, and nothing else changes. (R287, R288, R289, R290,
R291, R292, R293, R294) -/
def Obligations.MotinReadsAndWritesAnswer : Prop :=
  ∀ (s : State) (p : Path) (r : Request) (rest : List Request), s.Takes p r rest →
    let u := s.taken p rest
    (r.type = 1 → fieldAt r.body 0 1 = 1 →
      let ref := fieldAt r.body 4 4
      (readAbort ref false ≠ 0 →
        exec (.read p) s = .next (u.answer p r 0 (be 4 u.snapId ++ be 1 1 ++ be 3 0 ++ (be 4 ref ++ be 4 (readAbort ref false) ++ be 4 0)))) ∧
      (∀ row, readAbort ref false = 0 → Dict.find? (ref / 256) = some row → u.readSize p ref ≤ 1184 →
        let v := wireBytes row.ty (u.valueOf p row 0 (ref % 256))
        let body := be 4 u.snapId ++ be 1 1 ++ be 3 0 ++ (be 4 ref ++ be 4 0 ++ be 2 v.length ++ be 2 0 ++ padded v)
        exec (.read p) s = .next (
          if row.access = .rc ∧ ref % 256 = 0 then { u.answer p r 0 body with toCore := s.toCore.readClear p row.key 0 }
          else u.answer p r 0 body))) ∧
    (r.type = 1 → 1232 < 48 + (readRefs r).foldl (fun n x => n + u.readSize p x) 0 →
      exec (.read p) s = .next (u.answer p r 0x06030003 [])) ∧
    (r.type = 2 → s.toCore.fromActive p.val r = true → ∀ (ref : Nat) (v : List Byte),
      writeItems (fieldAt r.body 0 1) (r.body.drop 4) = some [(ref, v)] →
      (writeAbort ref false ≠ 0 →
        exec (.write p) s = .next { (u.answer p r 0 (be 1 1 ++ be 3 0 ++ (be 4 ref ++ be 4 (writeAbort ref false)))) with
          result := writeAbort ref false }) ∧
      (∀ row, writeAbort ref false = 0 → Dict.find? (ref / 256) = some row → row.key / 0x10000 = 0x12 → row.access = .rw →
        v.length = row.ty.bytes → row.ty.admits (beNat v) = true → row.range.admits row.ty (beNat v) = true →
        exec (.write p) s = .next { (u.answer p r 0 (be 1 1 ++ be 3 0 ++ (be 4 ref ++ be 4 0))) with
          result := 0, pend := s.pend ++ [(okey row.key 0, beNat v)] })) ∧
    (r.type = 3 →
      let ref := fieldAt r.body 0 4
      let off := fieldAt r.body 4 4
      let want := fieldAt r.body 8 2
      (readAbort ref true ≠ 0 →
        exec (.readTable p) s = .next (u.answer p r 0 (be 4 u.snapId ++ be 4 ref ++ be 4 (readAbort ref true) ++ be 12 0))) ∧
      (∀ row, readAbort ref true = 0 → Dict.find? (ref / 256) = some row →
        (row.count ≤ off → exec (.readTable p) s = .next (u.answer p r 0 (be 4 u.snapId ++ be 4 ref ++ be 4 0x06020001 ++ be 12 0))) ∧
        (off < row.count → (row.access ≠ .rc ∨ ref % 256 ≠ 0) → row.key ≠ OD.RAW_WINDOW →
          let fit := 1168 / row.ty.bytes
          let n := min (min (if want = 0 then fit else want) fit) (row.count - off)
          exec (.readTable p) s = .next (u.answer p r 0 (be 4 u.snapId ++ be 4 ref ++ be 4 0 ++ be 4 row.count ++ be 4 off ++
            be 2 n ++ be 2 row.ty.bytes ++ (rangeFrom off n).flatMap (fun e => be row.ty.bytes (u.valueOf p row e (ref % 256)))))))) ∧
    (r.type = 4 → s.toCore.fromActive p.val r = true →
      let ref := fieldAt r.body 0 4
      let off := fieldAt r.body 4 4
      let count := fieldAt r.body 8 2
      let size := fieldAt r.body 10 2
      let a := tableAbort ref off count size
      let v := beNat (slice r.body 12 size)
      (a ≠ 0 → exec (.writeTable p) s = .next (u.answer p r 0 (be 4 ref ++ be 4 a ++ be 4 off ++ be 2 0 ++ be 2 0))) ∧
      (a = 0 → ref = OD.CONN_MAP * 256 → count = 1 → entryValid v = true → s.shadowLocked = false →
        exec (.writeTable p) s = .next { (u.answer p r 0 (be 4 ref ++ be 4 0 ++ be 4 off ++ be 2 1 ++ be 2 0)) with
          result := 0
          regs := if entryRoute (mapEntry s.shd off) = entryRoute v then s.regs else storePut s.regs (okey OD.SHADOW_SOLVED 0) 0
          shd := storePut s.shd (okey OD.CONN_MAP off) v
          faults := (s.toCore.eccWrite 5 (shadowMark + okey OD.CONN_MAP off)).faults }) ∧
      (∀ no, a = 0 → ref = OD.CONN_MAP * 256 → count = 1 →
        no = (if s.shadowLocked = true then 0x06060001 else if entryValid v = false then 0x06090030 else 0) → no ≠ 0 →
        exec (.writeTable p) s = .next { (u.answer p r 0 (be 4 ref ++ be 4 no ++ be 4 off ++ be 2 0 ++ be 2 0)) with result := no }))

/-- In a state in which the engine takes the path's request: a COMMIT that passes every check takes the next COMMIT_ID, makes
SET_STATE 1, becomes the commit in progress for its instant and replies the id and the begin instant; one that is refused,
whatever the code, makes no commit and replies the abort code with zeros (0609_0030h for a selection that does not match
also names it in FIRST_MISMATCH). A SNAP of time 0 outside Free takes the first boundary at least two frames ahead; with no
snapshot at that boundary and fewer than 4 scheduled it is scheduled under a new id, and the reply carries id and instant;
in Free it is refused 0604_0003h. A HEARTBEAT with a PERIOD outside 10 to 1,000 ms changes nothing and is answered
0609_0030h; one of the path's registered sender renews the registration, and in a gap or in Unsupervised makes its path the
one that waits for the role; the first one on a path without a registration makes a standby, or one without a role where the
sender was dropped or nobody is active; one from another sender changes only the count of foreign heartbeats. A SNAP of a
named boundary at least two frames and at most a day ahead joins the snapshot that is scheduled for it. A STATE_DIGEST
replies MATCH 2 for another basis, else 0 or 1, and the module's digest; from a sender that holds no registration it changes
nothing; of one that does it is recorded, and MATCH 1 counts, from the active one with source 457 unless the standby's
agreed in time. (R190, R295, R296, R41, R312, R313, R315, R316) -/
def Obligations.MotinSetAndSupervisionMessages : Prop :=
  ∀ (s : State) (p : Path) (r : Request) (rest : List Request), s.Takes p r rest →
    let u := s.taken p rest
    let ask := fieldAt r.body 0 14
    (r.type = 5 → s.toCore.fromActive p.val r = true →
      let t := askedInstant ask
      (s.toCore.commitCheck p t = 0 →
        ∃ (v : State) (k : Commit), exec (.commit p) s = .next v ∧
          v = { u.answer p r 0 (be 4 (v.rd OD.COMMIT_ID) ++ be 14 (v.rd OD.BEGIN_AT) ++ be 2 0) with
            result := 0, regs := v.regs, trav := { s.trav with cur := some k } } ∧
          k.t = t ∧ k.begun = false ∧ k.suspended = false ∧ k.slot = none ∧ k.id = v.rd OD.COMMIT_ID ∧
          k.lanes = alteredLanes s.act s.shd ∧
          v.rd OD.COMMIT_ID = count32 (s.rd OD.COMMIT_ID) 1 ∧ v.rd OD.SET_STATE = 1 ∧ v.rd OD.PENDING_T = time64 t ∧
          v.rd OD.CANCEL_BY = time64 (t - 3 * frameUnits)) ∧
      (∀ a, s.toCore.commitCheck p t = a → a ≠ 0 →
        exec (.commit p) s = .next { u.answer p r a (be 20 0) with
          result := a
          regs := if a = 0x06090030 ∧ isBoundary t = true ∧ t ≤ s.now + 86400 * secondUnits then
              (match firstMismatch s.shd (s.toCore.progAt t).1 (s.toCore.progAt t).2 with
                | some te => storePut s.regs (okey OD.FIRST_MISMATCH 0) te
                | none => s.regs) else s.regs })) ∧
    (r.type = 6 → s.toCore.fromActive p.val r = true → ask = 0 →
      let t := boundaryFrom (s.now + 2 * frameUnits)
      (s.timeState = tsFree → exec (.snap p) s = .next (u.answer p r 0x06040003 (be 20 0))) ∧
      (s.timeState ≠ tsFree → (∀ x ∈ s.snaps, x.2 ≠ t) → s.snaps.length < 4 →
        exec (.snap p) s = .next { u.answer p r 0 (be 4 (s.snapIds + 1) ++ be 14 (time64 t) ++ be 2 0) with
          snapIds := s.snapIds + 1, snaps := insertSnap (s.snapIds + 1, t) s.snaps }) ∧
      (s.timeState ≠ tsFree → 4 ≤ s.snaps.length → (∀ x ∈ s.snaps, x.2 ≠ t) →
        exec (.snap p) s = .next (u.answer p r 0x06050000 (be 20 0)))) ∧
    (r.type = 6 → s.toCore.fromActive p.val r = true → ask ≠ 0 → s.timeState ≠ tsFree →
      let t := askedInstant ask
      ((isBoundary t = false ∨ s.now + 86400 * secondUnits < t) → exec (.snap p) s = .next (u.answer p r 0x06090030 (be 20 0))) ∧
      (isBoundary t = true → t < s.now + 2 * frameUnits → exec (.snap p) s = .next (u.answer p r 0x06040002 (be 20 0))) ∧
      (isBoundary t = true → s.now + 2 * frameUnits ≤ t → t ≤ s.now + 86400 * secondUnits →
        (∀ x, s.snaps.find? (fun x => x.2 == t) = some x →
          exec (.snap p) s = .next (u.answer p r 0 (be 4 x.1 ++ be 14 (time64 t) ++ be 2 0))) ∧
        (s.snaps.find? (fun x => x.2 == t) = none → s.snaps.length < 4 →
          exec (.snap p) s = .next { u.answer p r 0 (be 4 (s.snapIds + 1) ++ be 14 (time64 t) ++ be 2 0) with
            snapIds := s.snapIds + 1, snaps := insertSnap (s.snapIds + 1, t) s.snaps }))) ∧
    (r.type = 7 →
      let id := fieldAt r.body 0 8
      let period := fieldAt r.body 8 2
      (period < 10 ∨ 1000 < period →
        exec (.heartbeat p) s = .next (u.answer p r 0x06090030 (s.toCore.beatBody (s.toCore.roleOf p r (some id))))) ∧
      (∀ x : Registration, 10 ≤ period → period ≤ 1000 → s.toCore.reg? p = some x →
        (sameSender x r.from_.ip r.keySlot id = true →
          exec (.heartbeat p) s = .next { u.answer p r 0 (s.toCore.beatBody x.role) with
            sup := { s.sup with
              reg := Tab.set s.sup.reg p { x with periodMs := period, lastBeat := s.up }
              gapBeat := s.sup.gapBeat || decide (s.rd OD.SUP_STATE = 1 ∧ s.sup.gapPath = p.val)
              waiting := if s.rd OD.SUP_STATE = 2 ∧ x.barred = false ∧ p.val ∉ s.sup.waiting then s.sup.waiting ++ [p.val]
                else s.sup.waiting } }) ∧
        (sameSender x r.from_.ip r.keySlot id = false →
          exec (.heartbeat p) s = .next { u.answer p r 0 (s.toCore.beatBody 0) with
            regs := storePut s.regs (okey (mgtObj p 0x0C) 0) (count32 (s.rd (mgtObj p 0x0C)) 1) })) ∧
      (10 ≤ period → period ≤ 1000 → s.toCore.reg? p = none →
        let barred := s.sup.dropped.any (fun d => d.1 == p.val && sameSender d.2 r.from_.ip r.keySlot id)
        let role := if barred = true ∨ s.rd OD.SUP_STATE = 2 then 0 else 1
        exec (.heartbeat p) s = .next (State.settle (State.answer { u with
          sup := { s.sup with
            reg := Tab.set s.sup.reg p ⟨r.from_.ip, r.keySlot, id, period, s.up, role, barred, s.frames + 1⟩
            waiting := if s.rd OD.SUP_STATE = 2 ∧ barred = false ∧ p.val ∉ s.sup.waiting then s.sup.waiting ++ [p.val]
              else s.sup.waiting }
          events := if role = 0 then [] else [⟨10, OD.ACTIVE_PATH, s.now, be 1 1 ++ be 1 p⟩] } p r 0 (s.toCore.beatBody role))))) ∧
    (r.type = 8 →
      let basis := fieldAt r.body 32 4
      let now := s.rd OD.TRAVERSES
      let m := if basis ≠ now then 2 else if slice r.body 0 32 = s.toCore.moduleDigest then 0 else 1
      (∀ x, s.toCore.reg? p = some x → x.ip ≠ r.from_.ip ∨ x.keySlot ≠ r.keySlot) →
      exec (.stateDigest p) s = .next (u.answer p r 0 (be 1 m ++ be 3 0 ++ s.toCore.moduleDigest ++ be 4 now))) ∧
    (r.type = 8 → ∀ x, s.toCore.reg? p = some x → x.ip = r.from_.ip → x.keySlot = r.keySlot →
      let basis := fieldAt r.body 32 4
      let now := s.rd OD.TRAVERSES
      let m := if basis ≠ now then 2 else if slice r.body 0 32 = s.toCore.moduleDigest then 0 else 1
      let reply := be 1 m ++ be 3 0 ++ s.toCore.moduleDigest ++ be 4 now
      let noted := { s.sup with
        digests := Tab.set s.sup.digests p ⟨basis, m, s.up⟩
        misses := if m = 1 ∧ x.role = 2 then Tab.set s.sup.misses p ⟨basis, m, s.up⟩ else s.sup.misses }
      let counted := storePut s.regs (okey OD.DIGEST_MISMATCHES 0) (count32 (s.rd OD.DIGEST_MISMATCHES) 1)
      let agrees := ∃ d o, Tab.find? s.sup.digests (1 - p.val) = some d ∧ s.toCore.reg? (1 - p.val) = some o ∧ o.role = 1 ∧
        d.matched = 0 ∧ d.basis = basis ∧ s.up ≤ d.at_ + nsU (s.rd OD.DIGEST_WINDOW)
      ((m ≠ 1 ∨ x.role = 0 ∨ (x.role = 2 ∧ agrees)) →
        exec (.stateDigest p) s = .next (State.answer { u with sup := noted } p r 0 reply)) ∧
      (m = 1 → x.role = 1 → exec (.stateDigest p) s = .next (State.answer { u with sup := noted, regs := counted } p r 0 reply)) ∧
      (m = 1 → x.role = 2 → ¬ agrees → exec (.stateDigest p) s = .next (State.settle (State.answer { u with
        sup := noted, regs := counted, faults := { s.faults with raised := [⟨457, [], [], [], true⟩] } } p r 0 reply))))

/-- In a state in which the engine takes the path's request: an EXPORT of id 0 begins a new export of the path that waits for
its copy; of an id that is not the path's it is answered 0609_0030h; of a copied stream it replies the bytes from the offset
on, at most 1,152, with DONE where they are the last, which completes the export, ends with 0604_0015h after another
traverse, and is answered 0602_0001h at and beyond the end. A TAKEOVER of the path's registered sender stands as a claim of
this frame and waits; another is lost, counted and answered at once. A SUBSCRIBE of OP 1 by a new sender of 1 to 32 indices,
with a place free, takes the place; OP 1 of a subscriber adds the indices that are new to its list, OP 2 takes the named
ones, or with FFFFh all, off it, OP 3 all, and an empty list gives the place up; a list above 32 or a ninth subscriber is
refused with 0605_0000h; OP 4 only replies the list; a COUNT above 32 is refused with 0603_0002h and the full reply body. An
ABORT of OP 2 ends its sender's export of the path and no other; of OP 1 it removes its sender's first queued request of
that id, which is answered 0606_0002h, or replies that none was found. In a live state: SUBSCRIPTION_LAPSE removes a
subscriber unheard for 60 s, and no other; REPLY_CACHE_EXPIRE removes the kept replies of 10 s and more and no others.
Nothing else changes. (The model's, log 31: TOTAL 0 in the reply that begins an export, the place given up without an index,
ABORT limited to its sender, TAKEOVER answered at the decision.) (R285, R297, R298, R299, R306, R319, R321) -/
def Obligations.MotinExportsTakeoversAndSubscriptions : Prop :=
  (∀ (s : State) (p : Path) (r : Request) (rest : List Request), s.Takes p r rest →
    let u := s.taken p rest
    (r.type = 9 →
      let id := fieldAt r.body 0 4
      let off := fieldAt r.body 4 4
      let n := s.motin.exportIds + 1
      (id = 0 → exec (.export_ p) s = .next (
        State.answer { u with motin := { u.motin with exportIds := n, exports := Tab.set s.motin.exports p ⟨n, none, 0, true, r.from_.ip, r.keySlot⟩ } }
          p r 0 (be 4 n ++ be 4 0 ++ be 4 off ++ be 2 0 ++ be 1 0 ++ be 1 0))) ∧
      (id ≠ 0 → (∀ x, Tab.find? s.motin.exports p = some x → x.id ≠ id) →
        exec (.export_ p) s = .next (u.answer p r 0x06090030 (be 4 id ++ be 4 0 ++ be 4 off ++ be 2 0 ++ be 1 0 ++ be 1 0))) ∧
      (∀ (x : Export) (bs : List Byte), id ≠ 0 → Tab.find? s.motin.exports p = some x → x.id = id → x.stream = some bs →
        (s.rd OD.TRAVERSES = x.basis → off + 1152 < bs.length →
          exec (.export_ p) s = .next (u.answer p r 0 (be 4 id ++ be 4 bs.length ++ be 4 off ++ be 2 1152 ++ be 1 0 ++ be 1 0 ++
            slice bs off 1152))) ∧
        (s.rd OD.TRAVERSES = x.basis → off < bs.length → bs.length ≤ off + 1152 →
          let done := be 4 id ++ be 4 bs.length ++ be 4 off ++ be 2 (bs.length - off) ++ be 1 1 ++ be 1 0 ++ bs.drop off
          let closed := { u with motin := { u.motin with exports := Tab.erase s.motin.exports p } }
          (x.counts = false → exec (.export_ p) s = .next (State.answer closed p r 0 done)) ∧
          (x.counts = true → (∀ q, s.toCore.reg? p = some q → q.ip ≠ r.from_.ip ∨ q.keySlot ≠ r.keySlot) →
            exec (.export_ p) s = .next (State.answer { closed with
              sup := { s.sup with
                exported := Tab.set s.sup.exported p x.basis
                dropped := s.sup.dropped.filter (fun d => !(d.1 == p && d.2.ip == r.from_.ip && d.2.keySlot == r.keySlot)) } }
              p r 0 done))) ∧
        (s.rd OD.TRAVERSES = x.basis → bs.length ≤ off →
          exec (.export_ p) s = .next (u.answer p r 0x06020001 (be 4 id ++ be 4 bs.length ++ be 4 off ++ be 2 0 ++ be 1 0 ++ be 1 0))) ∧
        (s.rd OD.TRAVERSES ≠ x.basis → exec (.export_ p) s = .next (
          State.answer { u with motin := { u.motin with exports := Tab.erase s.motin.exports p } }
            p r 0x06040015 (be 4 id ++ be 4 0 ++ be 4 off ++ be 2 0 ++ be 1 0 ++ be 1 0))))) ∧
    (r.type = 10 →
      let id := fieldAt r.body 0 8
      (∀ x, s.toCore.reg? p = some x → sameSender x r.from_.ip r.keySlot id = true →
        (∀ y ∈ s.sup.claims, y.1 ≠ p.val ∨ y.2.1 ≠ s.frames) →
        exec (.takeover p) s = .next { u with
          sup := { s.sup with claims := s.sup.claims ++ [(p.val, s.frames, s.toCore.claimValid p x)] }
          motin := { u.motin with takeovers := s.motin.takeovers ++ [(p.val, s.frames, r)] } }) ∧
      ((∀ x, s.toCore.reg? p = some x → sameSender x r.from_.ip r.keySlot id = false) →
        exec (.takeover p) s = .next { u.answer p r 0 (be 1 (s.toCore.roleOf p r none) ++ be 3 0) with
          regs := storePut s.regs (okey OD.TAKEOVER_LOST 0) (count32 (s.rd OD.TAKEOVER_LOST) 1) })) ∧
    (r.type = 11 →
      let l := (subIndices r).eraseDups
      (∀ k, fieldAt r.body 1 1 ≤ 32 → fieldAt r.body 0 1 = 1 → l ≠ [] → s.motin.subOf p r = none → s.motin.freeSub = some k →
        let subs := Tab.set s.motin.subs k ⟨p, r.from_, r.keySlot, l, 0, 0, [], s.up⟩
        exec (.subscribe p) s = .next (State.answer { u with
          regs := storePut s.regs (okey OD.SUBSCRIBERS 0) subs.length, motin := { u.motin with subs := subs } }
          p r 0 (be 1 l.length ++ be 3 0 ++ l.flatMap (fun i => be 2 i ++ be 2 0)))) ∧
      (∀ k x, fieldAt r.body 1 1 ≤ 32 → 1 ≤ fieldAt r.body 0 1 → fieldAt r.body 0 1 ≤ 3 → s.motin.subOf p r = some k →
        Tab.find? s.motin.subs k = some x →
        let new := if fieldAt r.body 0 1 = 1 then x.indices ++ l.filter (fun i => !x.indices.contains i)
          else if fieldAt r.body 0 1 = 2 then x.indices.filter (fun i => !(subIndices r).contains i && !(subIndices r).contains 0xFFFF)
          else []
        let subs := if new = [] then Tab.erase s.motin.subs k else Tab.set s.motin.subs k { x with indices := new }
        new.length ≤ 32 → ∃ v : State, exec (.subscribe p) s = .next (v.answer p r 0 (be 1 (v.motin.indicesOf p r).length ++ be 3 0 ++
          (v.motin.indicesOf p r).flatMap (fun i => be 2 i ++ be 2 0))) ∧
          v = { u with regs := storePut s.regs (okey OD.SUBSCRIBERS 0) subs.length, motin := { u.motin with subs := subs } }) ∧
      (fieldAt r.body 1 1 ≤ 32 → fieldAt r.body 0 1 = 1 → l ≠ [] → s.motin.subOf p r = none → s.motin.freeSub = none →
        exec (.subscribe p) s = .next (u.answer p r 0x06050000 (be 1 0 ++ be 3 0))) ∧
      (32 < fieldAt r.body 1 1 →
        exec (.subscribe p) s = .next (u.answer p r 0x06030002 (be 1 (s.motin.indicesOf p r).length ++ be 3 0 ++
          (s.motin.indicesOf p r).flatMap (fun i => be 2 i ++ be 2 0)))) ∧
      (fieldAt r.body 1 1 ≤ 32 → fieldAt r.body 0 1 = 4 →
        exec (.subscribe p) s = .next (u.answer p r 0 (be 1 (s.motin.indicesOf p r).length ++ be 3 0 ++
          (s.motin.indicesOf p r).flatMap (fun i => be 2 i ++ be 2 0))))) ∧
    (r.type = 13 →
      (∀ x : Export, fieldAt r.body 4 1 = 2 → Tab.find? s.motin.exports p = some x →
        (x.ip = r.from_.ip → x.keySlot = r.keySlot → exec (.abort p) s = .next (
          State.answer { u with motin := { u.motin with exports := Tab.erase s.motin.exports p } } p r 0 (be 1 1 ++ be 3 0))) ∧
        ((x.ip ≠ r.from_.ip ∨ x.keySlot ≠ r.keySlot) → exec (.abort p) s = .next (u.answer p r 0 (be 1 0 ++ be 3 0)))) ∧
      (∀ (l l' : List Request) (x : Request), fieldAt r.body 4 1 = 1 → rest = l ++ x :: l' → x.id = fieldAt r.body 0 4 →
        sameOrigin x r = true → (∀ y ∈ l, y.id ≠ fieldAt r.body 0 4 ∨ sameOrigin y r = false) →
        exec (.abort p) s = .next (State.answer (State.answer { u with motin := u.motin.setQueue p (l ++ l') } p x 0x06060002 [])
          p r 0 (be 1 1 ++ be 3 0))) ∧
      (fieldAt r.body 4 1 = 1 → (∀ x ∈ rest, x.id ≠ fieldAt r.body 0 4 ∨ sameOrigin x r = false) →
        exec (.abort p) s = .next (u.answer p r 0 (be 1 0 ++ be 3 0))))) ∧
  (∀ s : State, s.Live →
    (∀ (k : Fin 8) (x : Subscriber), Tab.find? s.motin.subs k = some x →
      (x.lastSeen + 60 * secondUnits ≤ s.up →
        ∃ v : State, exec (.subscriptionLapse k) s = .next v ∧
          v = { s with regs := storePut s.regs (okey OD.SUBSCRIBERS 0) v.motin.subs.length, motin := { s.motin with subs := v.motin.subs } } ∧
          Tab.find? v.motin.subs k = none ∧ (∀ j, j ≠ k.val → Tab.find? v.motin.subs j = Tab.find? s.motin.subs j)) ∧
      (s.up < x.lastSeen + 60 * secondUnits → exec (.subscriptionLapse k) s = .next s)) ∧
    (∀ p : Path, ∃ v : State, exec (.replyCacheExpire p) s = .next v ∧ v = { s with motin := { s.motin with cache := v.motin.cache } } ∧
      (∀ x ∈ s.motin.kept p, s.up < x.at_ + 10 * secondUnits → x ∈ v.motin.kept p) ∧
      (∀ x ∈ v.motin.kept p, x ∈ s.motin.kept p ∧ s.up < x.at_ + 10 * secondUnits) ∧
      (∀ q, q ≠ p.val → v.motin.kept q = s.motin.kept q)))

/-- In a live state in which the management paths serve messages, after the time moves on to the datagram's stamp: a datagram of
an address family that the path lacks (the family by its source is the model's reading, log 58) changes nothing else; else
one whose length is not 40 to 1,232 bytes, whose LENGTH is not its length or whose VERSION is not 1 counts as malformed and
changes nothing else; else one whose key slot is empty or whose tag is not the HMAC of what precedes it counts as an
authentication failure, reports source 448 or 449, and changes no sequence number; else one whose number is no fresh one
counts as a replay and reports 450 or 451. Any other is accepted: its number is noted, a subscription of its sender is kept
alive, an EVENT is discarded and counted as malformed, and a request that no kept reply answers joins the end of the path's
queue where it has fewer than 8, and is answered 0605_0001h where it has 8; a request that equals the one of a kept reply is
not queued, the kept reply is sent again and CACHE_HITS counts. An unknown TYPE is answered 0603_0001h and counted. (R276,
R278, R279, R280, R283, R284, R285, R307, R311) -/
def Obligations.DatagramsAreCheckedInOrder : Prop :=
  ∀ (s : State) (p : Path) (at_ : Nat) (src : NetAddr) (bs : List Byte), s.Live → (s.toCore.advance at_).serving = true →
    let c := s.toCore.advance at_
    let n := bs.length
    let wellSized := 40 ≤ n ∧ n ≤ 1232 ∧ fieldAt bs 2 2 = n ∧ fieldAt bs 0 1 = 1
    let slot := fieldAt bs 4 1 % 4
    let seq := fieldAt bs 8 8
    let tagged := s.motin.keyValid slot = true ∧ (hmacSha256 (be 32 (s.motin.key slot)) (bs.take (n - 16))).take 16 = bs.drop (n - 16)
    let r : Request := ⟨fieldAt bs 1 1, fieldAt bs 5 1, fieldAt bs 16 4, slice bs 24 (n - 40), src, slot⟩
    (c.hears p src = false → exec (.motinDatagram p at_ src bs) s = .next { s with toCore := c }) ∧
    (c.hears p src = true → ¬ wellSized → exec (.motinDatagram p at_ src bs) s = .next { s with
      toCore := { c with regs := storePut c.regs (okey OD.MALFORMED_1100 0) (count32 (c.rd OD.MALFORMED_1100) 1) } }) ∧
    (c.hears p src = true → wellSized → ¬ tagged → exec (.motinDatagram p at_ src bs) s = .next (State.settle { s with
      toCore := { c with
        regs := storePut c.regs (okey OD.AUTH_FAILS 0) (count32 (c.rd OD.AUTH_FAILS) 1)
        faults := { s.faults with raised := [⟨448 + p.val, [], [], [], true⟩] } } })) ∧
    (c.hears p src = true → wellSized → tagged → s.motin.fresh slot seq = false → exec (.motinDatagram p at_ src bs) s = .next (State.settle { s with
      toCore := { c with
        regs := storePut c.regs (okey OD.REPLAYS 0) (count32 (c.rd OD.REPLAYS) 1)
        faults := { s.faults with raised := [⟨450 + p.val, [], [], [], true⟩] } } })) ∧
    (c.hears p src = true → wellSized → tagged → s.motin.fresh slot seq = true →
      let m := (s.motin.note slot seq).refresh p src slot c.up
      (r.type = 12 → exec (.motinDatagram p at_ src bs) s = .next { s with
        toCore := { c with regs := storePut c.regs (okey OD.MALFORMED_1100 0) (count32 (c.rd OD.MALFORMED_1100) 1) }, motin := m }) ∧
      ((∀ k ∈ m.kept p, k.id ≠ r.id ∨ k.body ≠ r.body) → r.type ≠ 12 → requestType r.type = false →
        exec (.motinDatagram p at_ src bs) s = .next {
          State.answer { s with toCore := c, motin := m } p { r with type := r.type % 128 } 0x06030001 [] with
          regs := storePut c.regs (okey OD.MALFORMED_1100 0) (count32 (c.rd OD.MALFORMED_1100) 1) }) ∧
      ((∀ k ∈ m.kept p, k.id ≠ r.id ∨ k.body ≠ r.body) → requestType r.type = true →
        ((s.motin.queue p).length < 8 → exec (.motinDatagram p at_ src bs) s = .next { s with
          toCore := c, motin := m.setQueue p (s.motin.queue p ++ [r]) }) ∧
        (8 ≤ (s.motin.queue p).length → exec (.motinDatagram p at_ src bs) s = .next { s with
          toCore := { c with regs := storePut c.regs (okey OD.BUSY 0) (count32 (c.rd OD.BUSY) 1) }
          motin := (State.send { s with toCore := c, motin := m } p src slot (r.type + 128) r.id 0x06050001 []).motin })) ∧
      (∀ (k : Kept) (l l' : List Kept), r.type ≠ 12 → m.kept p = l ++ k :: l' → k.id = r.id → k.body = r.body →
        (∀ x ∈ l, x.id ≠ r.id ∨ x.body ≠ r.body) → exec (.motinDatagram p at_ src bs) s = .next { s with
          toCore := { c with regs := storePut c.regs (okey OD.CACHE_HITS 0) (count32 (c.rd OD.CACHE_HITS) 1) }
          motin := (State.send { s with toCore := c, motin := m } p src slot k.type k.id k.result k.reply).motin }))

/-- In a state in which the engine takes a WRITE of one key slot object by the active supervisor: in a message authenticated
with slot 0, with a value that is not zero for slot 0, the reply with result 0 is tagged with the key that authenticated the
request, and then the slot holds the value (a zero value leaves slots 1 to 3 without a key) with its highest accepted number
back at 0 and its record empty; in a message authenticated with another slot, the object's result is 0604_0011h and no key
changes; a zero value for slot 0 has the result 0609_0030h. The reply stands so on the path unless a pattern generator has
replaced the path's stream (R390). At manufacture slot 0 holds the module's own key and slots 1 to 3 hold none. Nothing else
changes. (R282) -/
def Obligations.KeyWritesTakeEffectAfterTheirReply : Prop :=
  (∀ (s : State) (p : Path) (r : Request) (rest : List Request) (slot : Fin 4) (v : List Byte), s.Takes p r rest → r.type = 2 →
    s.toCore.fromActive p.val r = true → v.length = 32 →
    writeItems (fieldAt r.body 0 1) (r.body.drop 4) = some [((OD.KEY_0 + slot.val) * 256, v)] →
    let u := s.taken p rest
    let reply := fun code => u.answer p r 0 (be 1 1 ++ be 3 0 ++ (be 4 ((OD.KEY_0 + slot.val) * 256) ++ be 4 code))
    (r.keySlot = 0 → ¬ (slot = 0 ∧ beNat v = 0) →
      (exec (.write p) s = .next { reply 0 with
        result := 0
        motin := { (reply 0).motin with
          keys := Tab.put s.motin.keys slot (beNat v) (keyDflt slot), seqIn := Tab.erase s.motin.seqIn slot
          seen := Tab.erase s.motin.seen slot } }) ∧
      (bit (s.rd OD.TEST_CONFIG (144 + p)) 31 = false → (reply 0).motin.outbox = ⟨p, r.from_, 0, Tab.get s.motin.seqOut 0 0 + 1, message (s.motin.key 0) 0x82 0 (Tab.get s.motin.seqOut 0 0 + 1)
        r.id 0 (be 1 1 ++ be 3 0 ++ (be 4 ((OD.KEY_0 + slot.val) * 256) ++ be 4 0))⟩ :: s.motin.outbox)) ∧
    (r.keySlot ≠ 0 → exec (.write p) s = .next { reply 0x06040011 with result := 0x06040011 }) ∧
    (r.keySlot = 0 → slot = 0 → beNat v = 0 → exec (.write p) s = .next { reply 0x06090030 with result := 0x06090030 })) ∧
  (∀ (m : Motin) (slot : Fin 4) (v : Nat), (m.setKey slot v).key slot = v ∧ (m.setKey slot v).high slot = 0 ∧
    (m.setKey slot v).seenOf slot = [] ∧ (slot ≠ 0 → (m.setKey slot v).keyValid slot = decide (v ≠ 0)) ∧
    (∀ j, j ≠ slot.val → (m.setKey slot v).key j = m.key j)) ∧
  State.reset.motin.key 0 = Config.factory OD.KEY_0 0 % 2 ^ 256 ∧ State.reset.motin.keyValid 1 = false ∧
  State.reset.motin.keyValid 2 = false ∧ State.reset.motin.keyValid 3 = false

/-- In a state that serves the path, a write of DEGLITCH_NS with a value from 40 to 320 that is a multiple of 20 is accepted in
the Dormant and Maintenance states, and takes effect with the writes of the next frame boundary; another value of its type
ends there with 0609_0030h; in any other state every write of it, whatever the value, ends with abort 0606_0001h. Nothing
else changes. (R106) -/
def Obligations.DeglitchWritesNeedDormantOrMaintenance : Prop :=
  ∀ (s : State) (p : Path) (v : Nat), s.Serves p → s.motin.keyWrites = [] → s.motin.addrWrites = [] → v < 65536 →
    (s.power = psDormant ∨ s.power = psMaint → 40 ≤ v → v ≤ 320 → v % 20 = 0 →
      exec (.registerWrite p OD.DEGLITCH_NS 0 v) s = .next { s with result := 0, pend := s.pend ++ [(okey OD.DEGLITCH_NS 0, v)] }) ∧
    (s.power = psDormant ∨ s.power = psMaint → (v < 40 ∨ 320 < v ∨ v % 20 ≠ 0) →
      exec (.registerWrite p OD.DEGLITCH_NS 0 v) s = .next { s with result := 0x06090030 }) ∧
    (s.power ≠ psDormant → s.power ≠ psMaint → exec (.registerWrite p OD.DEGLITCH_NS 0 v) s = .next { s with result := 0x06060001 })

/-- In a state that serves the path with no write waiting for a reply: REGISTER_WRITE of an object the dictionary does not name
ends with 0601_0000h, or 0601_0001h where its index exists; of one that is read-only or constant with 0601_0002h; with a
value too wide for its type with 0602_0000h; beyond its last element with 0602_0001h; outside its type or range with
0609_0030h; an RW object of page 12h with a legal value is accepted and waits for the next boundary. MGT_ADDRESS_WRITE of
subindices 2 to 7 with a legal value sets the address at once, of another subindex ends with 0601_0001h. RAW_LOCATE_WRITE
with [7:0] 0 is accepted and waits for the boundary, else it ends with 0609_0030h. RAW_WINDOW_WRITE where nothing decodes
sets RAW_DECODE_ERR of the path; where an address decodes without an object it is accepted in Maintenance only, else refused
and counted; to the one word of an RW object of page 12h it is that object's write; to a higher word of a wider object it is
held for the word at the lowest address. KEY_WRITE does what a WRITE of the key slot does, with the key slot of its path's
registration as that of the message (the model's choice, log 49). Nothing else changes. (DEGLITCH_NS outside Dormant and
Maintenance apart, whose state is checked first; the order of the checks is the model's, log 36.) (R282, R286, R287, R288,
R292, R301, R302, R303, R304, R308, R311) -/
def Obligations.ObjectWritesAreChecked : Prop :=
  ∀ (s : State) (p : Path), s.Serves p → s.motin.keyWrites = [] → s.motin.addrWrites = [] →
    (∀ obj e v : Nat,
      (Dict.find? obj = none → exec (.registerWrite p obj e v) s = .next { s with
        result := if Dict.hasIndex obj then 0x06010001 else 0x06010000 }) ∧
      (∀ row, Dict.find? obj = some row →
        let writable := row.access ≠ .ro ∧ row.access ≠ .rc ∧ row.access ≠ .const
        (¬ writable → exec (.registerWrite p obj e v) s = .next { s with result := 0x06010002 }) ∧
        (writable → 256 ^ row.ty.bytes ≤ v → exec (.registerWrite p obj e v) s = .next { s with result := 0x06020000 }) ∧
        (writable → v < 256 ^ row.ty.bytes → row.size ≤ e → exec (.registerWrite p obj e v) s = .next { s with result := 0x06020001 }) ∧
        (writable → v < 256 ^ row.ty.bytes → e < row.size → obj ≠ OD.RAW_WINDOW →
          (obj ≠ OD.DEGLITCH_NS ∨ s.power = psDormant ∨ s.power = psMaint) →
          (row.ty.admits v = false ∨ row.range.admits row.ty v = false) →
          exec (.registerWrite p obj e v) s = .next { s with result := 0x06090030 }) ∧
        (row.access = .rw → obj / 0x10000 = 0x12 → v < 256 ^ row.ty.bytes → e < row.size → row.ty.admits v = true →
          row.range.admits row.ty v = true →
          exec (.registerWrite p obj e v) s = .next { s with result := 0, pend := s.pend ++ [(okey obj e, v)] }))) ∧
    (∀ (port : Path) (sub v : Nat),
      (∀ row, 2 ≤ sub → sub ≤ 7 → Dict.find? (mgtObj port sub) = some row → v < 256 ^ row.ty.bytes → row.ty.admits v = true →
        row.range.admits row.ty v = true →
        exec (.mgtAddressWrite p port sub v) s = .next { s with
          result := 0, regs := storePut s.regs (okey (mgtObj port sub) 0) v }) ∧
      (sub < 2 ∨ 7 < sub → exec (.mgtAddressWrite p port sub v) s = .next { s with result := 0x06010001 })) ∧
    (∀ v : BitVec 32,
      (v.toNat % 256 = 0 → exec (.rawLocateWrite p v) s = .next { s with
        result := 0, pend := s.pend ++ [(okey OD.RAW_LOCATE p, v.toNat)] }) ∧
      (v.toNat % 256 ≠ 0 → exec (.rawLocateWrite p v) s = .next { s with result := 0x06090030 })) ∧
    (∀ a w : BitVec 32, a.toNat < 0xFFFFFFFF →
      let held := Tab.get s.motin.rawHold p []
      (rawFind a.toNat = none → Config.rawOther a.toNat = false → exec (.rawWindowWrite p a w) s = .next { s with
        result := 0, regs := storePut s.regs (okey OD.RAW_DECODE_ERR p) 1 }) ∧
      (rawFind a.toNat = none → Config.rawOther a.toNat = true → s.power = psMaint →
        exec (.rawWindowWrite p a w) s = .next { s with result := 0 }) ∧
      (rawFind a.toNat = none → Config.rawOther a.toNat = true → s.power ≠ psMaint →
        exec (.rawWindowWrite p a w) s = .next { s with
          result := 0x06040011
          regs := storePut s.regs (okey OD.RAW_REFUSED 0) (count32 (s.rd OD.RAW_REFUSED) 1) }) ∧
      (∀ row e, rawFind a.toNat = some (row, e, 0) → rawWords row = 1 → row.key / 0x10000 = 0x12 → row.access = .rw →
        w.toNat < 256 ^ row.ty.bytes → row.ty.admits w.toNat = true → row.range.admits row.ty w.toNat = true →
        exec (.rawWindowWrite p a w) s = .next { s with
          result := 0, pend := s.pend ++ [(okey row.key e, w.toNat)]
          motin := { s.motin with rawHold := Tab.set s.motin.rawHold p held } }) ∧
      (∀ row e i, rawFind a.toNat = some (row, e, i + 1) → exec (.rawWindowWrite p a w) s = .next { s with
        result := 0, motin := { s.motin with rawHold := Tab.set s.motin.rawHold p (Tab.set held a.toNat w.toNat) } })) ∧
    (∀ (slot : Fin 4) (v : BitVec 256),
      let auth := ((s.toCore.reg? p).map (·.keySlot)).getD 0
      (auth = 0 → ¬ (slot = 0 ∧ v = 0) →
        exec (.keyWrite p slot v) s = .next { s with
          result := 0
          motin := { s.motin with
            keys := Tab.put s.motin.keys slot v.toNat (keyDflt slot), seqIn := Tab.erase s.motin.seqIn slot
            seen := Tab.erase s.motin.seen slot } }) ∧
      (auth ≠ 0 → exec (.keyWrite p slot v) s = .next { s with result := 0x06040011 }) ∧
      (auth = 0 → slot = 0 → v = 0 → exec (.keyWrite p slot v) s = .next { s with result := 0x06090030 }))

/-- In a state at rest whose accepted writes are all of objects that a write only gives its value: FRAME_BOUNDARY answers the
next state in which module time is the end of the frame, the running time has moved on with it, one more frame has ended,
the occurrences that no command stands for have joined their counters (free numbers, log 42), every accepted write has its
value in force, in the order of their acceptance, and none waits, and the snapshot that names this boundary, if there is
one, has begun its copy of the module as it stood before the writes, with the label of the frame before (log 48), and is no
longer scheduled, and the count of the requests handled in the frame begins anew. Nothing else changes. In every live state
with no restart due at the boundary the frame ends, and then the steps of R21 are done one after another, the handled
requests counted and a snapshot taken first. In a live state without loops, running coach programs, checkers and performance
counters in which a restart other than a warm one is due at the boundary, it takes the place of everything else the boundary
does, once the events that wait are sent. (R7, R21, R287, R364, R383, R385) -/
def Obligations.FrameBoundaryAppliesTheWrites : Prop :=
  (∀ s : State, s.AtRest → (∀ w ∈ s.pend, plainObj (okeyObj w.1) = true) →
    let before : Core := { s.toCore with
      now := s.frameEnd, up := s.up + (s.frameEnd - s.now), frames := s.frames + 1, pkt := { s.pkt with epoch := 0 }
      test := { s.test with unseen := ({ s.toCore with now := s.frameEnd, up := s.up + (s.frameEnd - s.now) } : Core).countUnseen.test.unseen } }
    let regs := s.pend.foldl (fun t w => storePut t w.1 w.2) s.regs
    let due := s.snaps.find? (fun x => decide (x.2 = s.frameEnd))
    exec .frameBoundary s = .next { s with
      toCore := { before with regs := regs, pend := [], test := { before.test with inject := [] } }
      copying := match due with
        | some x => some (x.1, x.2, { before with now := s.frameEnd - 1 })
        | none => s.copying
      snaps := match due with
        | some x => s.snaps.filter (fun y => y.1 != x.1)
        | none => s.snaps
      motin := { s.motin with handled := [] } }) ∧
  (∀ (s : State) (cause : Nat) (t : Instant), s.Live → s.boot.restart = some (cause, t) → t ≤ s.frameEnd → cause ≠ 4 →
    s.loops = [] → (∀ x ∈ s.coaches, x.2.running = false) → s.test.since = [] → storeListed s.regs OD.PERF_CONFIG = [] →
    exec .frameBoundary s = .next ((State.restart (State.sendEvents { s with
      now := s.frameEnd, up := s.up + (s.frameEnd - s.now), frames := s.frames + 1, pkt := { s.pkt with epoch := 0 } })
      cause).settle.sendEvents)) ∧
  (∀ s : State, s.Live → (∀ (cause : Nat) (t : Instant), s.boot.restart = some (cause, t) → s.frameEnd < t) →
    let ended := s.toCore.frameEnds
    let t := State.snapStep (State.countHandled { s with toCore := ended })
    ended.now = s.frameEnd ∧ ended.frames = s.frames + 1 ∧ ended.pkt.epoch = 0 ∧
    exec .frameBoundary s = .next (State.sendEvents (State.settle (State.exportCopies { t with
      toCore := (t.toCore.publish.stepTwo.stepThree.stepFour).timeTriggers.loopEdges }))))

/-- In a live state: with no step due TIME_STEP changes nothing. With a step due, no traverse in progress, no timetable armed or
running and no gate list or survey sequence in force, it answers a next state: module time has changed by the step, the step
is no longer due, the remainder is slewed, the time state is Acquiring, STEP_COUNT has counted, the events of the step and
of the change of time state go out, snapshots whose boundary the step skips are cancelled, and the time-stamps held for PTP
and the instants of staged codes, of guard windows and of a staged release move with the label. The running time and
everything else stay as they were. With a step due, whatever else is in progress, module time changes by it, it is no longer
due, it is counted, the state is Acquiring, the skipped snapshots are cancelled, and no code in force, no configuration in
force, no running time and nothing of the engine changes. (R38, R39, R40, R25, R300) -/
def Obligations.TimeStepMovesTheLabelOnly : Prop :=
  ∀ s : State, s.Live →
    (s.time.dueStep = none → exec .timeStep s = .next s) ∧
    (∀ d : Int, s.time.dueStep = some d → s.trav.cur = none → s.rd OD.TT_STATE ≠ 1 → s.rd OD.TT_STATE ≠ 2 → s.pkt.gates = [] →
      s.survey.seqs = [] →
      ∃ u : State, exec .timeStep s = .next (State.settle u) ∧
        u = { s with
          now := ((s.now : Int) + d).toNat, time := u.time, regs := u.regs, events := u.events, ptp := u.ptp, faults := u.faults
          chans := u.chans, trav := { s.trav with
            guards := s.trav.guards.map (fun g => { g with t := ((g.t : Int) + d).toNat })
            release := s.trav.release.map (fun r => { r with at_ := r.at_.map (fun t => ((t : Int) + d).toNat) }) }
          snaps := s.snaps.filter (fun x => !(decide (s.frameEnd ≤ x.2 ∧ x.2 < u.frameEnd))) } ∧
        u.time.dueStep = none ∧ u.time.slew = s.time.slew ∧ u.time.slewing = decide (s.time.slew ≠ 0) ∧
        u.timeState = tsAcquiring ∧ u.rd OD.STEP_COUNT = count32 (s.rd OD.STEP_COUNT) 1 ∧
        (∀ o e, e < 1048576 → o ≠ OD.STEP_COUNT → o ≠ OD.TIME_STATE → u.rd o e = s.rd o e) ∧
        u.events = ⟨3, OD.STEP_COUNT, u.now, be 8 (ofSigned 64 d)⟩ ::
          (if s.timeState = tsAcquiring then [] else [⟨2, OD.TIME_STATE, u.now, be 1 tsAcquiring⟩]) ∧
        (∀ te, u.chan te = { s.chan te with queue := (s.chan te).queue.map (fun e => { e with at_ := ((e.at_ : Int) + d).toNat }) }) ∧
        (d = 0 → u.ptp = s.ptp)) ∧
    (∀ d : Int, s.time.dueStep = some d →
      ∃ u : State, exec .timeStep s = .next (State.settle u) ∧
        u.now = ((s.now : Int) + d).toNat ∧ u.up = s.up ∧ u.frames = s.frames ∧ u.time.dueStep = none ∧
        u.timeState = tsAcquiring ∧ u.rd OD.STEP_COUNT = count32 (s.rd OD.STEP_COUNT) 1 ∧
        u.snaps = s.snaps.filter (fun x => !(decide (s.frameEnd ≤ x.2 ∧ x.2 < u.frameEnd))) ∧
        (∀ te, u.driven te = s.driven te) ∧ u.act = s.act ∧ u.motin = s.motin ∧ u.copy = s.copy ∧ u.pending = s.pending)

/-- In a live state in which a coach has run neither its caboose nor a slot in the frame, its caboose answers a next state,
notes that it has run and moves the coach's largest caboose length up to its cycles. With no traverse due at the end of the
frame every loop of the coach, and no other, has its LIT and, where its link is up and it owes no steps, a request to clear
its Hold taken up, and where drift learning runs in the frame each Locked one that is not frozen and had no missing samples
has learned by one frame; nothing else changes. An overrun does the same with the loops already learned, at 1,448 cycles,
counts and reports source 143. A second caboose in the frame changes nothing. Where a frozen traverse is due at the end of
the frame: with every link in service each moving element of the coach whose queue is empty, at least 1 us ahead and not
clearing, gets its three steps, at T, T + 1.25 us and T + 2.5 us, the third one last, none above its ceiling, and no other
channel changes; with a link down the traverse is marked failed and nothing is staged; of the moving elements' loops the
code too may change. The weight of a loop frame in the drift average and the samples of the regression are the model's
choices (log 52). (R14, R16, R20, R51, R74, R77, R86, R88, R101, R102, R194) -/
def Obligations.CabooseReleasesStepsAndLearnsDrift : Prop :=
  ∀ (s : State) (coach : Sys2Proof.Coach) (cycles : Nat), s.Live →
    let peak := fun n : Nat =>
      let w := s.rd OD.COACH_STATUS coach
      storePut s.regs (okey OD.COACH_STATUS coach) (setBits w 10 0 (max (bits w 10 0) (min n 2047)))
    let noted := Tab.put s.coaches coach { s.coach coach with cabAt := s.frames + 1 } CoachRec.reset
    let after := fun (te : Te) (n : Nat) =>
      if te.val / 256 = coach.val then
        let l := (s.loop te).book (s.teLit te) (s.toCore.inService te)
        if te.val < 256 * coach.val + n ∧ l.st = .locked ∧ l.frozen = false ∧ l.gap = false then
          let dt := frameNs * s.glideStride
          let r := l.regr.add l.u (s.zoneTemp te)
          { l with
            d := driftStep l.d (l.u - l.uPrev) (s.rd OD.DRIFT_TAU) dt, kT := r.slope te, regr := r
            clock := { l.clock with lockedNs := l.clock.lockedNs + dt } }
        else l
      else s.loop te
    let booked := fun (x : State) (n : Nat) => ∀ te : Te, x.loop te = after te (if s.learns then n else 0)
    (s.cabooseAhead coach = false →
      exec (.caboose coach cycles) s = .next s ∧ ∀ n : Fin 257, exec (.cabooseOverrun coach n) s = .next s) ∧
    (s.cabooseAhead coach = true → (∀ k, s.trav.cur = some k → k.frozen = false ∨ s.frameEnd ≠ k.t) →
      (∃ t : State, exec (.caboose coach cycles) s = .next t ∧
        t = { s with regs := peak cycles, loops := t.loops, coaches := noted } ∧ booked t 256) ∧
      (∀ n : Fin 257, ∃ u : State, exec (.cabooseOverrun coach n) s = .next (State.settle u) ∧
        u = { s with
          regs := storePut (peak 1448) (okey OD.CABOOSE_OVERRUNS 0) (count32 (s.rd OD.CABOOSE_OVERRUNS) 1), loops := u.loops
          coaches := noted, faults := { s.faults with raised := [⟨143, [], [], [], true⟩] } } ∧
        booked u n)) ∧
    (∀ k, s.cabooseAhead coach = true → s.trav.cur = some k → k.frozen = true → s.frameEnd = k.t →
      (k.checked = false → (∃ d : Die, (s.link d).up = false) → ∃ t : State, exec (.caboose coach cycles) s = .next t ∧
        t = { s with
          regs := peak cycles, loops := t.loops, coaches := noted
          trav := { s.trav with cur := some { k with checked := true, linkFailed := true } } } ∧
        booked t 256) ∧
      ((∀ d : Die, (s.link d).up = true) → k.linkFailed = false → s.now + nsU 1000 ≤ k.t → k.moving.Nodup →
        (∀ te ∈ k.moving, te < 9216 ∧ (te / 256 = coach.val → (s.chan te).queue = [] ∧ s.clearing te = false)) →
        ∃ t : State, exec (.caboose coach cycles) s = .next t ∧
          t = { s with
            regs := peak cycles, trav := { s.trav with cur := some { k with checked := true } }, chans := t.chans
            loops := t.loops, coaches := noted } ∧
          (∀ te : Te, ∃ code, t.loop te = { after te (if s.learns then 256 else 0) with code := code } ∧
            (¬ (te.val ∈ k.moving ∧ te.val / 256 = coach.val) → code = (s.loop te).code)) ∧
          (∀ te : Nat, te ∈ k.moving ∧ te / 256 = coach.val →
            (t.chan te).queue.map (·.at_) = [k.t, k.t + nsU 1250, k.t + nsU 2500] ∧
            (t.chan te).queue.map (·.last) = [false, false, true] ∧
            (∀ e ∈ (t.chan te).queue, e.seq = true ∧ e.code ≤ s.ceiling te)) ∧
          (∀ te : Nat, ¬ (te ∈ k.moving ∧ te / 256 = coach.val) → t.chan te = s.chan te)))

/-- In a live state: MGT_LINK_CHANGE to the present rate, or to one that the link cannot take in the power state, changes
nothing (the model's choice, log 39); to no link it counts and reports source 458 + path; to another rate it sets the rate
and drops that source, counting where there was no link. HEARTBEAT_TIMEOUT of a path without a registration, off a boundary,
or within its life changes nothing; of a failed one without a role it removes the registration, its claims cannot win and an
export of its own no longer counts; of a failed standby it removes it with source 455, and a gap that it was to end becomes
Unsupervised with source 456; of the failed active one it removes it with LAST_CAUSE 1 and source 453, and the module is in
a gap where the other path has a live standby, else Unsupervised with source 456. DIGEST_FAILURE_DECLARE off a boundary or
without an active path changes nothing; where a digest of the active differed and the standby's last agrees on the same
basis within DIGEST_WINDOW it drops the active with LAST_CAUSE 2 and source 454, bars it, and a gap begins. No path is then
active, and a timetable that is armed or running freezes, with source 266, at once or after the transition that has begun.
(R309, R310, R314, R315, R316, R317, R318, R320, R321, R324) -/
def Obligations.ManagementLinksAndRegistrationsFail : Prop :=
  let freezes := fun s : State =>
    if (s.rd OD.TT_STATE = 1 ∨ s.rd OD.TT_STATE = 2) ∧ s.trav.cur.any (fun k => k.begun) = false then [266] else []
  (∀ (s : State) (p : Path) (rate : BitVec 16), s.Live →
    let was := s.rd (mgtObj p 0x0A)
    let n := rate.toNat
    let set := storePut s.regs (okey (mgtObj p 0x0A) 0) n
    let counted := storePut set (okey (mgtObj p 0x0B) 0) (count32 (s.rd (mgtObj p 0x0B)) 1)
    let lines := s.faults.lines.filter (· != 458 + p.val)
    (s.rateTaken p n = false ∨ n = was → exec (.mgtLinkChange p rate) s = .next s) ∧
    (n = 0 → was ≠ 0 → exec (.mgtLinkChange p rate) s = .next (State.settle { s with
      regs := counted, faults := { s.faults with raised := [⟨458 + p.val, [], [], [], false⟩] } })) ∧
    (s.rateTaken p n = true → n ≠ 0 → was = 0 → exec (.mgtLinkChange p rate) s = .next { s with
      regs := counted, faults := { s.faults with lines := lines } }) ∧
    (s.rateTaken p n = true → n ≠ 0 → was ≠ 0 → n ≠ was → exec (.mgtLinkChange p rate) s = .next { s with
      regs := set, faults := { s.faults with lines := lines } })) ∧
  (∀ (s : State) (p : Path), s.Live →
    (s.toCore.reg? p = none → exec (.heartbeatTimeout p) s = .next s) ∧
    (∀ r, s.toCore.reg? p = some r → isBoundary s.now = false ∨ s.toCore.regFailed p r = false →
      exec (.heartbeatTimeout p) s = .next s) ∧
    (∀ r, s.toCore.reg? p = some r → isBoundary s.now = true → s.toCore.regFailed p r = true → r.role = 0 →
      exec (.heartbeatTimeout p) s = .next { s with
        sup := { s.sup with
          reg := Tab.erase s.sup.reg p, digests := Tab.erase s.sup.digests p, misses := Tab.erase s.sup.misses p, waiting := s.sup.waiting.filter (· != p.val)
          claims := s.sup.claims.map (fun x => if x.1 = p.val then (p.val, x.2.1, false) else x) }
        motin := { s.motin with exports := s.motin.exports.map (fun x =>
          if x.1 = p.val ∧ x.2.ip = r.ip ∧ x.2.keySlot = r.keySlot then (x.1, { x.2 with counts := false }) else x) } }) ∧
    (∀ r, s.toCore.reg? p = some r → isBoundary s.now = true → s.toCore.regFailed p r = true → r.role = 1 →
      let ends := s.rd OD.SUP_STATE = 1 ∧ s.sup.gapPath = p.val
      ∃ u : State, exec (.heartbeatTimeout p) s = .next (s.exportsAfter (State.settle u)) ∧
        u = { s with
          regs := u.regs, loops := u.loops, sup := u.sup, events := u.events, faults := u.faults, chans := u.chans
          trav := u.trav, tt := u.tt } ∧ (s.rd OD.TT_STATE = 0 → u.chans = s.chans ∧ u.trav = s.trav ∧ u.tt = s.tt) ∧
        u.toCore.reg? p = none ∧ (ends → u.rd OD.SUP_STATE = 2) ∧ (¬ ends → u.regs = s.regs ∧ u.loops = s.loops ∧ u.chans = s.chans ∧ u.trav = s.trav ∧ u.tt = s.tt) ∧
        (ends → u.faults.raised.map (·.source) = [455] ++ freezes s ++ [456]) ∧ (¬ ends → u.faults.raised.map (·.source) = [455]) ∧
        ⟨10, OD.ACTIVE_PATH, s.now, be 1 0 ++ be 1 p⟩ ∈ u.events) ∧
    (∀ r, s.toCore.reg? p = some r → isBoundary s.now = true → s.toCore.regFailed p r = true → r.role = 2 →
      let o := 1 - p.val
      let live := (s.toCore.reg? o).any (fun x => x.role == 1 && !s.toCore.regFailed o x)
      ∃ u : State, exec (.heartbeatTimeout p) s = .next (s.exportsAfter (State.settle u)) ∧
        u = { s with
          regs := u.regs, loops := u.loops, sup := u.sup, events := u.events, faults := u.faults, chans := u.chans
          trav := u.trav, tt := u.tt } ∧ (s.rd OD.TT_STATE = 0 → u.chans = s.chans ∧ u.trav = s.trav ∧ u.tt = s.tt) ∧
        u.toCore.reg? p = none ∧ u.toCore.reg? o = s.toCore.reg? o ∧ u.rd OD.LAST_CAUSE = 1 ∧
        u.rd OD.SUP_STATE = (if live then 1 else 2) ∧ u.sup.gapSince.isSome = true ∧ (live → u.sup.gapPath = o) ∧
        u.faults.raised.map (·.source) = [453] ++ freezes s ++ (if live then [] else [456]) ∧
        (freezes s ≠ [] → u.rd OD.TT_STATE = 3) ∧
        u.events = [⟨10, OD.ACTIVE_PATH, s.now, be 1 0 ++ be 1 p⟩])) ∧
  (∀ s : State, s.Live →
    (isBoundary s.now = false ∨ s.toCore.activePath = 0xFF → exec .digestFailureDeclare s = .next s) ∧
    (∀ (a : Path) (x y : DigestRec) (r o : Registration), isBoundary s.now = true → s.toCore.activePath = a.val →
      Tab.find? s.sup.misses a = some x → Tab.find? s.sup.digests (1 - a.val) = some y → s.toCore.reg? a = some r →
      s.toCore.reg? (1 - a.val) = some o → y.matched = 0 → x.basis = y.basis → o.role = 1 →
      s.toCore.regFailed (1 - a.val) o = false → x.at_ ≤ y.at_ + nsU (s.rd OD.DIGEST_WINDOW) →
      y.at_ ≤ x.at_ + nsU (s.rd OD.DIGEST_WINDOW) →
      ∃ u : State, exec .digestFailureDeclare s = .next (s.exportsAfter (State.settle u)) ∧
        u = { s with
          regs := u.regs, loops := u.loops, sup := u.sup, events := u.events, faults := u.faults, chans := u.chans
          trav := u.trav, tt := u.tt } ∧ (s.rd OD.TT_STATE = 0 → u.chans = s.chans ∧ u.trav = s.trav ∧ u.tt = s.tt) ∧
        u.toCore.reg? a = none ∧ u.toCore.reg? (1 - a.val) = some o ∧ u.rd OD.LAST_CAUSE = 2 ∧ u.rd OD.SUP_STATE = 1 ∧
        u.sup.gapPath = 1 - a.val ∧ u.sup.dropped = s.sup.dropped ++ [(a.val, r)] ∧ u.faults.raised.map (·.source) = [454] ++ freezes s))

/-- In a live state: where no claim of an ended frame stands, ROLE_CHANGE off a boundary, or in a supervised module, changes
nothing; at a boundary of a gap whose standby has sent a heartbeat, or of Unsupervised in which one registered path alone
has, or PATH_PRIORITY where both have, with no active path, that path becomes active, another registered path standby (or
none where a digest failure bars it), the module is supervised, SWITCHOVERS counts, LAST_GAP is the time since the active
was lost and UNSYNCHRONIZED tells whether the path's last export is current, and is set for the first active after a reset;
loops that the switch-over held leave it and count in TRIMS_ABANDONED, the others are as they were. TAKEOVER_DECISION at an
instant at which no registration fails, with no claim of an ended frame, changes nothing; with the one claim of a standby,
or claims of both paths of which PATH_PRIORITY's is the standby's, with the other path active, and no request waiting, the
claimant becomes active, the other path standby, and LAST_CAUSE is 3; with one claim that cannot win, TAKEOVER_LOST counts
and no role changes. That SWITCHOVERS counts out of Unsupervised too and LAST_CAUSE then stays (log 34), which claims can
win and their order against failures (log 59) are the model's readings. (R313, R317, R318, R319, R321) -/
def Obligations.RolesChangeAtTheirDecision : Prop :=
  ∀ s : State, s.Live →
    let held := s.loops.filter (fun x => x.2.switchHeld)
    let freed := fun u : State =>
      (held = [] → u.loops = s.loops ∧ u.cal = s.cal ∧ u.rd OD.TRIMS_ABANDONED = s.rd OD.TRIMS_ABANDONED) ∧
      (held ≠ [] → u.rd OD.TRIMS_ABANDONED = count32 (s.rd OD.TRIMS_ABANDONED) held.length) ∧
      (∀ te, (s.loop te).switchHeld = false → u.loop te = s.loop te)
    let due := fun (x : Nat × Nat × Bool) => x.2.1 < s.frames
    let live := s.sup.waiting.filter (fun q => (s.toCore.reg? q).isSome)
    let stands := fun (q : Registration) => { q with role := if q.barred then 0 else 1 }
    ((∀ x ∈ s.sup.claims, ¬ due x) → (isBoundary s.now = false ∨ s.rd OD.SUP_STATE = 0) → exec .roleChange s = .next s) ∧
    (∀ (p : Path) (r : Registration), (∀ x ∈ s.sup.claims, ¬ due x) → isBoundary s.now = true →
      (s.rd OD.SUP_STATE = 1 ∧ s.sup.gapPath = p.val ∧ s.sup.gapBeat = true ∨ s.rd OD.SUP_STATE = 2 ∧
        (live = [p.val] ∨ 2 ≤ live.length ∧ s.rd OD.PATH_PRIORITY = p.val)) →
      s.toCore.reg? p = some r → r.role ≠ 2 → s.toCore.isActive (1 - p.val) = false →
      ∃ u : State, exec .roleChange s = .next (State.settle u) ∧
        u = { s with regs := u.regs, sup := u.sup, events := u.events, loops := u.loops, cal := u.cal } ∧ freed u ∧
        u.toCore.reg? p = some { r with role := 2 } ∧ u.toCore.reg? (1 - p.val) = (s.toCore.reg? (1 - p.val)).map stands ∧
        u.sup.gapSince = none ∧ u.sup.gapBeat = false ∧ u.sup.waiting = [] ∧ u.sup.claims = s.sup.claims ∧
        ⟨10, OD.ACTIVE_PATH, s.now, be 1 2 ++ be 1 p⟩ ∈ u.events ∧
        u.rd OD.SUP_STATE = 0 ∧ u.rd OD.SWITCHOVERS = count32 (s.rd OD.SWITCHOVERS) 1 ∧
        u.rd OD.LAST_GAP = (s.up - s.sup.gapSince.getD 0) / unitsPerNs ∧
        u.rd OD.UNSYNCHRONIZED = (if s.sup.led ∧ s.toCore.synchronized p then 0 else 1) ∧ u.sup.led = true ∧
        (∀ o e, e < 1048576 → o ≠ OD.SUP_STATE → o ≠ OD.SWITCHOVERS → o ≠ OD.LAST_GAP → o ≠ OD.UNSYNCHRONIZED →
          o ≠ OD.TRIMS_ABANDONED → u.rd o e = s.rd o e)) ∧
    (s.toCore.failures = s.toCore →
      ((∀ x ∈ s.sup.claims, ¬ due x) → (∀ x ∈ s.motin.takeovers, s.frames ≤ x.2.1) → exec .takeoverDecision s = .next s) ∧
      (∀ (p : Path) (f : Nat), s.sup.claims = [(p.val, f, false)] → f < s.frames → s.motin.takeovers = [] →
        exec .takeoverDecision s = .next { s with
          regs := storePut s.regs (okey OD.TAKEOVER_LOST 0) (count32 (s.rd OD.TAKEOVER_LOST) 1)
          sup := { s.sup with claims := [] } }) ∧
      (∀ (p : Path) (f : Nat) (r q : Registration), (s.sup.claims = [(p.val, f, true)] ∨
          s.rd OD.PATH_PRIORITY = p.val ∧ (s.sup.claims = [(p.val, f, true), (1 - p.val, f, true)] ∨
            s.sup.claims = [(1 - p.val, f, true), (p.val, f, true)])) → f < s.frames → s.motin.takeovers = [] →
        s.toCore.reg? p = some r → r.role = 1 → s.toCore.reg? (1 - p.val) = some q → q.role = 2 → q.barred = false →
        ∃ u : State, exec .takeoverDecision s = .next (State.settle u) ∧
          u = { s with
            regs := u.regs, loops := u.loops, cal := u.cal
            sup := { s.sup with
              reg := Tab.set (Tab.set s.sup.reg (1 - p.val) { q with role := 1 }) p { r with role := 2 }
              gapSince := none, gapBeat := false, waiting := [], claims := [], led := true }
            events := [⟨10, OD.ACTIVE_PATH, s.now, be 1 1 ++ be 1 (1 - p.val)⟩, ⟨10, OD.ACTIVE_PATH, s.now, be 1 2 ++ be 1 p⟩] } ∧
          freed u ∧ u.rd OD.SUP_STATE = 0 ∧ u.rd OD.LAST_CAUSE = 3 ∧ u.rd OD.SWITCHOVERS = count32 (s.rd OD.SWITCHOVERS) 1 ∧
          u.rd OD.UNSYNCHRONIZED = (if s.sup.led ∧ s.toCore.synchronized p then 0 else 1) ∧
          (∀ o e, e < 1048576 → o ≠ OD.SUP_STATE → o ≠ OD.SWITCHOVERS → o ≠ OD.LAST_CAUSE → o ≠ OD.UNSYNCHRONIZED → o ≠ OD.TAKEOVER_LOST →
            o ≠ OD.TRIMS_ABANDONED → u.rd o e = s.rd o e) ∧
          u.rd OD.TAKEOVER_LOST = count32 (s.rd OD.TAKEOVER_LOST) (s.sup.claims.length - 1)))

/-- In a live state: a CLEAR_N pulse below 50 ns only shows as the pin's level; one of 100 ns and more clears all four dies: the
elements that dies own are at what a clear gives them, their loops Parked, their queues empty, CLEAR_COUNT counts and source
93 is asserted; CLEAR_N_RELEASE shows the level, makes CLEAR_STATE 3 where it was 1, drops source 93 and lets the dies go.
STAGED_RELEASE_STEPS without a release, before its boundary, or a second time changes nothing; at its boundary every element
that is not at its clear code, is not clearing and has its link in service takes the first of its three steps to that code,
by force and none above its ceiling, and its queue holds the other two, at 1.25 us and 2.5 us after the boundary, the third
one last (the model's reading of the release, log 33); every other element's code and queue are as they were.
SNAPSHOT_COPY_DONE puts the copy that is being taken in force, and with none changes nothing. Nothing else changes. (R20,
R112, R113, R114, R194, R355, R385, R407, R408) -/
def Obligations.ClearAndStagedReleasePutElementsAtTheirClearCodes : Prop :=
  ∀ s : State, s.Live →
    (∀ w : Nat,
      (w < 50 → exec (.clearNAssert w) s = .next { s with regs := storePut s.regs (okey OD.CLEAR_N_LEVEL 0) 0 }) ∧
      (100 ≤ w →
        let c := (((s.set OD.CLEAR_N_LEVEL 0).assertClear [0, 1, 2, 3]).ttHalt 4).inc OD.CLEAR_COUNT
        let e : Core := { c with trav := { c.trav with clearDies := [0, 1, 2, 3] } }
        let d := if c.trav.internalClear then e else e.set OD.CLEAR_STATE 1
        exec (.clearNAssert w) s = .next (State.settle { s with toCore := d.hold 93 }) ∧
        (s.trav.cur = none → s.rd OD.TT_STATE = 0 → s.trav.internalClear = false →
          (∀ te : Te, (d.loop te).st = .parked ∧ (d.chan te).queue = []) ∧ d.rd OD.CLEAR_STATE = 1 ∧
          d.rd OD.CLEAR_COUNT = count32 (s.rd OD.CLEAR_COUNT) 1 ∧ d.act = s.act ∧ d.shd = s.shd ∧ d.pend = s.pend ∧ d.now = s.now))) ∧
    exec .clearNRelease s = .next { s with
      regs := storePut (if s.rd OD.CLEAR_STATE = 1 then storePut s.regs (okey OD.CLEAR_STATE 0) 3 else s.regs) (okey OD.CLEAR_N_LEVEL 0) 1
      faults := { s.faults with lines := s.faults.lines.filter (· != 93) }
      trav := { s.trav with clearDies := [] } } ∧
    ((∀ r t, s.trav.release = some r → r.at_ = some t → r.stepped = none → s.now < t) → exec .stagedReleaseSteps s = .next s) ∧
    (∀ r t, s.trav.release = some r → r.at_ = some t → r.stepped = none → t ≤ s.now →
      let code := fun (te : Te) (n : Nat) => min (s.ceiling te) ((forceSteps (s.driven te) (s.clearCode te)).getD n 0)
      let moves := fun te : Te => (s.link (teDie te)).up = true ∧ s.clearing te = false ∧ s.driven te ≠ s.clearCode te
      ∃ v : State, exec .stagedReleaseSteps s = .next v ∧
        v = { s with
          regs := v.regs, chans := v.chans, trav := { s.trav with release := some { r with stepped := some s.frames } } } ∧
        (∀ te : Te, moves te → v.driven te = code te 0 ∧
          v.chan te = ⟨[⟨t + nsU 1250, code te 1, true, false⟩, ⟨t + nsU 2500, code te 2, true, true⟩], none⟩) ∧
        (∀ te : Te, ¬ moves te → v.driven te = s.driven te ∧ v.chan te = s.chan te)) ∧
    (s.copying = none → exec .snapshotCopyDone s = .next s) ∧
    (∀ x, s.copying = some x → exec .snapshotCopyDone s = .next { s with copy := some x, copying := none })

/-- POWER_ON in any state, RESET_N of 10 us and more and POWER_FAIL of 1 us and more in a live state that is not Halted, and
VDD_AUX_LOSS, answer a next state after a reset of their cause: both configuration sets are empty records, no write, loop,
queue, request, reply, subscriber or snapshot is left, module time is 0, while the active-set record of MRAM, the keys, the
sequence numbers sent and accepted and the running time stay, and every number up to the highest accepted one counts as seen
(that the running time goes on, that POWER_ON acts whatever the state and which numbers count as seen are the model's
choices, log 30). The ring of boot records stays but for the copy that VDD_AUX_LOSS finds being written, which a free value
may tear (log 64). After POWER_ON with RESET_N high and after POWER_FAIL the boot runs with its cause in RESET_CAUSE; after
RESET_N and VDD_AUX_LOSS the dies are held. A RESET_N or POWER_FAIL pulse below 1 us, and any in Halted, changes nothing.
RESET_N_RELEASE begins the boot with the sampled pins where RESET_N was low and power is good; where it was not low it
changes nothing. (R280, R281, R364, R365, R372, R402, R407, R408) -/
def Obligations.ResetsAndTheirBoot : Prop :=
  let resets := fun s u : State =>
    u.act = [] ∧ u.shd = [] ∧ u.pend = [] ∧ u.loops = [] ∧ u.chans = [] ∧ u.pkt.queues = [] ∧ u.now = 0 ∧ u.up = s.up ∧
    u.saved = s.saved ∧ u.copy = none ∧ u.snaps = [] ∧ u.motin.queues = [] ∧ u.motin.cache = [] ∧ u.motin.subs = [] ∧
    u.motin.keys = s.motin.keys ∧ u.motin.seqIn = s.motin.seqIn ∧ u.motin.seqOut = s.motin.seqOut ∧ u.pending = s.pending ∧
    u.motin.seen = s.motin.seqIn.map (fun p => (p.1, windowOf p.2)) ∧ u.sup = { Core.reset.sup with gapSince := some s.up }
  let boots := fun (u : State) (cause : Nat) =>
    u.toCore.dead = false ∧ u.boot.booting = true ∧ u.rd OD.RESET_CAUSE = cause ∧ u.rd OD.BOOT_STATE = 0
  (∀ (s : State) (pins : BitVec 2), ∃ u : State, exec (.powerOn pins) s = .next (State.settle u) ∧ resets s u ∧ u.boot.ring = s.boot.ring ∧
    (s.boot.resetLow = false → boots u 1 ∧ u.rd OD.BOOT_MODE = pins.toNat) ∧ (s.boot.resetLow = true → u.toCore.dead = true)) ∧
  (∀ (s : State) (w : Nat), s.Live →
    (w < 1000 ∨ s.power = psHalted ∧ 10000 ≤ w → exec (.resetN w) s = .next s) ∧
    (10000 ≤ w → s.power ≠ psHalted → ∃ u : State, exec (.resetN w) s = .next (State.settle u) ∧ resets s u ∧ u.boot.ring = s.boot.ring ∧
      u.toCore.dead = true) ∧
    (w < 1000 ∨ s.power = psHalted → exec (.powerFail w) s = .next s) ∧
    (1000 ≤ w → s.power ≠ psHalted → ∃ u : State, exec (.powerFail w) s = .next (State.settle u) ∧ resets s u ∧ u.boot.ring = s.boot.ring ∧
      boots u 6 ∧ u.toCore.stepDue 1 = false)) ∧
  (∀ s : State, ∃ u : State, exec .vddAuxLoss s = .next (State.settle u) ∧ resets s u ∧ u.toCore.dead = true ∧
    (∀ j, (∀ t, s.boot.wrote = some (j, t) → t + nsU 45000 ≤ s.up) → Tab.find? u.boot.ring j = Tab.find? s.boot.ring j)) ∧
  (∀ (s : State) (pins : BitVec 2), s.Calm →
    (s.boot.resetLow = false → exec (.resetNRelease pins) s = .next s) ∧
    (s.boot.resetLow = true → s.boot.powered = true → s.boot.good = true → ∃ u : State, exec (.resetNRelease pins) s = .next u ∧
      u = { s with regs := u.regs, boot := u.boot } ∧ u.toCore.dead = false ∧ u.boot.booting = true ∧
      u.rd OD.RESET_CAUSE = s.boot.cause ∧ u.rd OD.BOOT_MODE = pins.toNat) ∧
    (s.boot.resetLow = true → (s.boot.powered = false ∨ s.boot.good = false) → exec (.resetNRelease pins) s = .next { s with
      boot := { s.boot with resetLow := false, pins := pins.toNat } }))

/-- In a live state: BOOT_STEP_END while no step can end, and BOOT_TIME_WAIT_EXPIRE outside S10 or before its time, change
nothing. S01 passing records OUTCOME 2, clears its failures, releases FAULT_N from its hold and step S02 runs, with OUTCOME
1. A later step that passes records OUTCOME 2, or 3 under its alternate, clears its failures, adds its time, and a later
step runs with OUTCOME 1, but that S03 ends a Recovery boot and S14 the boot, with POWER_AT_READY, or the state a warm
restart began in, in force; a warm restart in which S12 passes with a failed lane and without its alternate restarts with
cause 5 and that alternate, and counts no failure. A step failing for the first or second time, where no source enters
Halted, answers the state after a self-restart of cause 5 in which the failure is counted, that of S01 or S02 held for the
record, and its alternate is in force; failing for the third time it leaves the boot ended in Maintenance, with BOOT_STATE
2, and sources 463 and 464, and 462 where the write of its record does not hold, which a free value says (log 64). That
BOOT_MS is the sum of the reported step times and that OUTCOME 3 marks a step replaced by its alternate are the model's
choices (log 30). BOOT_TIME_WAIT_EXPIRE in S10, when its time has elapsed, ends S10 as a passing step. (R366, R368, R369,
R371, R372, R374, R375) -/
def Obligations.BootStepsEndInOrder : Prop :=
  ∀ s : State, s.Live →
    let k := s.rd OD.BOOT_STEP
    (∀ r : BootReport, s.toCore.stepDue k = false → exec (.bootStepEnd r) s = .next s) ∧
    (k ≠ 10 ∨ s.up < s.boot.stepUp + nsU (s.rd OD.BOOT_TIME_WAIT) → exec .bootTimeWaitExpire s = .next s) ∧
    (k = 10 → s.boot.stepUp + nsU (s.rd OD.BOOT_TIME_WAIT) ≤ s.up →
      exec .bootTimeWaitExpire s = exec (.bootStepEnd ⟨true, false, [], 0, 0, 0, [], [], (s.up - s.boot.stepUp) / nsU 1000000⟩) s) ∧
    (∀ r : BootReport, k = 1 → s.toCore.stepDue 1 = true →
      (r.pass = true → exec (.bootStepEnd r) s = .next { s with
        regs := storePut s.regs (okey OD.BOOT_STEP 0) 2
        boot := { s.boot with
          outcome := Tab.put (Tab.put s.boot.outcome 1 2 0) 2 1 0, failCount := setBits s.boot.failCount 1 0 0, bootMs := s.boot.bootMs + r.tookMs
          stepUp := s.up }
        faults := { s.faults with preS01 := false } })) ∧
    (∀ r : BootReport, s.toCore.stepDue k = true → 1 ≤ k → k ≤ 14 →
      let c : Core := { s.toCore with boot := { s.boot with bootMs := s.boot.bootMs + r.tookMs } }
      let hi := 2 * k - 1
      (2 ≤ k → c.stepFails k r = none → c.lanesNeedAlt k r = false → ∃ u : State, exec (.bootStepEnd r) s = .next (State.settle u) ∧
        Tab.get u.boot.outcome k 0 = c.passCode k r ∧ failOf u.boot.failCount k = 0 ∧ u.boot.bootMs = s.boot.bootMs + r.tookMs ∧
        (k < 14 → ¬ (k = 3 ∧ s.toCore.recoveryBoot = true) → k < u.rd OD.BOOT_STEP ∧
          Tab.get u.boot.outcome (u.rd OD.BOOT_STEP) 0 = 1 ∧ u.boot.booting = true) ∧
        (k = 3 → s.toCore.recoveryBoot = true → u.boot.booting = false ∧ u.rd OD.BOOT_STATE = 3) ∧
        (k = 14 → u.boot.booting = false) ∧
        (k = 14 → s.toCore.safeBoot = false → u.rd OD.BOOT_STATE = 1 ∧
          u.rd OD.POWER_STATE = s.boot.warm.getD (s.rd OD.POWER_AT_READY)) ∧
        (k = 14 → s.toCore.safeBoot = true → u.rd OD.BOOT_STATE = 3)) ∧
      (c.lanesNeedAlt k r = true → ∃ u : State, exec (.bootStepEnd r) s = .next (State.settle u) ∧
        u.rd OD.RESET_CAUSE = 5 ∧ u.boot.booting = true ∧ bit u.boot.failCount 22 = false ∧ bit u.boot.failCount 23 = false ∧
        u.boot.altMask = setBits s.boot.altMask 11 11 1 - Nat.land (setBits s.boot.altMask 11 11 1) s.boot.altClear ∧ u.act = [] ∧ u.shd = [] ∧ u.motin.keys = s.motin.keys) ∧
      (∀ d, c.stepFails k r = some d →
        let n := min 3 (failOf s.boot.failCount k + 1)
        let f := c.failStep k d r.failedLinks.toNat
        let masked := setBits s.boot.altMask (k - 1) (k - 1) 1
        (n < 3 → (f.1.collect 4).power ≠ psHalted → ∃ u : State, exec (.bootStepEnd r) s = .next (State.settle u) ∧
          u.rd OD.RESET_CAUSE = 5 ∧ u.boot.booting = true ∧ u.boot.failCount = setBits s.boot.failCount hi (2 * k - 2) n ∧
          u.boot.held = (if k ≤ 2 then some (k, d) else s.boot.held) ∧ u.boot.altMask = masked - Nat.land masked s.boot.altClear ∧
          u.act = [] ∧ u.shd = [] ∧ u.motin.keys = s.motin.keys) ∧
        (n = 3 → ∃ u : State, exec (.bootStepEnd r) s = .next (State.settle { s with toCore := u.toCore.collect 4 }) ∧
          u = { s with regs := storePut s.regs (okey OD.BOOT_STATE 0) 2, boot := u.boot, faults := u.faults } ∧
          u.boot.booting = false ∧ u.boot.endState = 4 ∧ u.boot.failStep = k ∧ u.boot.failDetail = d ∧
          u.boot.held = (if k ≤ 2 then some (k, d) else s.boot.held) ∧ u.boot.failCount = setBits s.boot.failCount hi (2 * k - 2) 3 ∧
          u.faults.raised.map (·.source) = [463, 464] ++
            (if 4 ≤ k ∧ Config.recordHolds (s.rd OD.BOOT_COUNT) (s.boot.writeN + 1) = false then [462] else []))))
end

