-- ==== Sys2Proof/Laws/Ecc.lean ====
section
/-! SUPPORT. Injected ECC errors (R342): the operations on marked words leave the machine as it is where no word carries an
inverted check bit and none waits. -/

namespace Sys2Proof.Machine

variable {c : Core}

/-- No marked word is read where there is none. -/
theorem Core.eccRead_none (h : c.faults.eccWords = []) (hit : Nat → Bool) : c.eccRead hit = c := by
  simp [Core.eccRead, h]

/-- A read of other words shows nothing. -/
theorem Core.eccRead_other (hit : Nat → Bool) (h : ∀ p ∈ c.faults.eccWords, hit p.1 = false) : c.eccRead hit = c := by
  have h0 : c.faults.eccWords.filter (fun p => hit p.1) = [] := by
    rw [List.filter_eq_nil_iff]; intro p hp; simp [h p hp]
  simp [Core.eccRead, h0]

/-- No mark is dropped where there is none. -/
theorem Core.eccDrop_none (h : c.faults.eccWords = []) (which : Nat → Bool) : c.eccDrop which = c := by
  have hf : c.faults.eccWords.filter (fun p => !which p.1) = c.faults.eccWords := by simp [h]
  simp only [Core.eccDrop, hf]

/-- An injection that waits for another store is not used up. -/
theorem Core.eccTake_other {store : Nat} (h : bits c.faults.eccArmed 15 12 ≠ store) : c.eccTake store = (0, c) := by
  simp [Core.eccTake, h]

/-- A write where no word carries an inversion and none waits for its store leaves the machine as it is. -/
theorem Core.eccWrite_none {store : Nat} (key : Nat) (h : bits c.faults.eccArmed 15 12 ≠ store) (he : c.faults.eccWords = []) :
    c.eccWrite store key = c := by
  have hp : Tab.put ([] : Tab Nat) key 0 0 = [] := rfl
  simp only [Core.eccWrite, Core.eccTake_other h, he, hp]
  rw [← he]

/-- A write under an injection that waits for its store uses it up and marks the word. -/
theorem Core.eccWrite_armed {store : Nat} (key : Nat) (h : bits c.faults.eccArmed 15 12 = store)
    (hm : bits c.faults.eccArmed 11 10 ≠ 0) (he : c.faults.eccWords = []) :
    c.eccWrite store key =
      { c with faults := { c.faults with eccArmed := 0, eccWords := [(key, bits c.faults.eccArmed 11 10)] } } := by
  simp only [Core.eccWrite, Core.eccTake, h, if_true, he]
  simp [Tab.put, hm, Tab.erase, Tab.insert]

end Sys2Proof.Machine
end

