-- ==== Sys2Proof/Laws/State.lean ====
section
/-! SUPPORT. What each named update of the module's record changes and what it leaves: one lemma for each field. -/

namespace Sys2Proof.Machine

variable (c : Core)

/-! `Core.wr` writes one element: it changes `regs` and nothing else. -/

@[simp] theorem Core.wr_regs (o e v : Nat) : (c.wr o e v).regs = storePut c.regs (okey o e) v := rfl
@[simp] theorem Core.wr_act (o e v : Nat) : (c.wr o e v).act = c.act := rfl
@[simp] theorem Core.wr_shd (o e v : Nat) : (c.wr o e v).shd = c.shd := rfl
@[simp] theorem Core.wr_saved (o e v : Nat) : (c.wr o e v).saved = c.saved := rfl
@[simp] theorem Core.wr_pend (o e v : Nat) : (c.wr o e v).pend = c.pend := rfl
@[simp] theorem Core.wr_now (o e v : Nat) : (c.wr o e v).now = c.now := rfl
@[simp] theorem Core.wr_up (o e v : Nat) : (c.wr o e v).up = c.up := rfl
@[simp] theorem Core.wr_frames (o e v : Nat) : (c.wr o e v).frames = c.frames := rfl
@[simp] theorem Core.wr_time (o e v : Nat) : (c.wr o e v).time = c.time := rfl
@[simp] theorem Core.wr_ptp (o e v : Nat) : (c.wr o e v).ptp = c.ptp := rfl
@[simp] theorem Core.wr_links (o e v : Nat) : (c.wr o e v).links = c.links := rfl
@[simp] theorem Core.wr_chans (o e v : Nat) : (c.wr o e v).chans = c.chans := rfl
@[simp] theorem Core.wr_loops (o e v : Nat) : (c.wr o e v).loops = c.loops := rfl
@[simp] theorem Core.wr_coaches (o e v : Nat) : (c.wr o e v).coaches = c.coaches := rfl
@[simp] theorem Core.wr_micro (o e v : Nat) : (c.wr o e v).micro = c.micro := rfl
@[simp] theorem Core.wr_ucode (o e v : Nat) : (c.wr o e v).ucode = c.ucode := rfl
@[simp] theorem Core.wr_inputs (o e v : Nat) : (c.wr o e v).inputs = c.inputs := rfl
@[simp] theorem Core.wr_monAt (o e v : Nat) : (c.wr o e v).monAt = c.monAt := rfl
@[simp] theorem Core.wr_monPrev (o e v : Nat) : (c.wr o e v).monPrev = c.monPrev := rfl
@[simp] theorem Core.wr_lanes (o e v : Nat) : (c.wr o e v).lanes = c.lanes := rfl
@[simp] theorem Core.wr_ports (o e v : Nat) : (c.wr o e v).ports = c.ports := rfl
@[simp] theorem Core.wr_pkt (o e v : Nat) : (c.wr o e v).pkt = c.pkt := rfl
@[simp] theorem Core.wr_survey (o e v : Nat) : (c.wr o e v).survey = c.survey := rfl
@[simp] theorem Core.wr_elsDark (o e v : Nat) : (c.wr o e v).elsDark = c.elsDark := rfl
@[simp] theorem Core.wr_therm (o e v : Nat) : (c.wr o e v).therm = c.therm := rfl
@[simp] theorem Core.wr_pwr (o e v : Nat) : (c.wr o e v).pwr = c.pwr := rfl
@[simp] theorem Core.wr_cal (o e v : Nat) : (c.wr o e v).cal = c.cal := rfl
@[simp] theorem Core.wr_test (o e v : Nat) : (c.wr o e v).test = c.test := rfl
@[simp] theorem Core.wr_boot (o e v : Nat) : (c.wr o e v).boot = c.boot := rfl
@[simp] theorem Core.wr_jtag (o e v : Nat) : (c.wr o e v).jtag = c.jtag := rfl
@[simp] theorem Core.wr_trav (o e v : Nat) : (c.wr o e v).trav = c.trav := rfl
@[simp] theorem Core.wr_col (o e v : Nat) : (c.wr o e v).col = c.col := rfl
@[simp] theorem Core.wr_tt (o e v : Nat) : (c.wr o e v).tt = c.tt := rfl
@[simp] theorem Core.wr_sup (o e v : Nat) : (c.wr o e v).sup = c.sup := rfl
@[simp] theorem Core.wr_faults (o e v : Nat) : (c.wr o e v).faults = c.faults := rfl
@[simp] theorem Core.wr_events (o e v : Nat) : (c.wr o e v).events = c.events := rfl
@[simp] theorem Core.wr_free (o e v : Nat) : (c.wr o e v).free = c.free := rfl
@[simp] theorem Core.wr_result (o e v : Nat) : (c.wr o e v).result = c.result := rfl

/-! `Core.wrS` writes one element of the shadow set: it changes `shd` and nothing else. -/

@[simp] theorem Core.wrS_regs (o e v : Nat) : (c.wrS o e v).regs = c.regs := rfl
@[simp] theorem Core.wrS_act (o e v : Nat) : (c.wrS o e v).act = c.act := rfl
@[simp] theorem Core.wrS_shd (o e v : Nat) : (c.wrS o e v).shd = storePut c.shd (okey o e) v := rfl
@[simp] theorem Core.wrS_saved (o e v : Nat) : (c.wrS o e v).saved = c.saved := rfl
@[simp] theorem Core.wrS_pend (o e v : Nat) : (c.wrS o e v).pend = c.pend := rfl
@[simp] theorem Core.wrS_now (o e v : Nat) : (c.wrS o e v).now = c.now := rfl
@[simp] theorem Core.wrS_up (o e v : Nat) : (c.wrS o e v).up = c.up := rfl
@[simp] theorem Core.wrS_frames (o e v : Nat) : (c.wrS o e v).frames = c.frames := rfl
@[simp] theorem Core.wrS_time (o e v : Nat) : (c.wrS o e v).time = c.time := rfl
@[simp] theorem Core.wrS_ptp (o e v : Nat) : (c.wrS o e v).ptp = c.ptp := rfl
@[simp] theorem Core.wrS_links (o e v : Nat) : (c.wrS o e v).links = c.links := rfl
@[simp] theorem Core.wrS_chans (o e v : Nat) : (c.wrS o e v).chans = c.chans := rfl
@[simp] theorem Core.wrS_loops (o e v : Nat) : (c.wrS o e v).loops = c.loops := rfl
@[simp] theorem Core.wrS_coaches (o e v : Nat) : (c.wrS o e v).coaches = c.coaches := rfl
@[simp] theorem Core.wrS_micro (o e v : Nat) : (c.wrS o e v).micro = c.micro := rfl
@[simp] theorem Core.wrS_ucode (o e v : Nat) : (c.wrS o e v).ucode = c.ucode := rfl
@[simp] theorem Core.wrS_inputs (o e v : Nat) : (c.wrS o e v).inputs = c.inputs := rfl
@[simp] theorem Core.wrS_monAt (o e v : Nat) : (c.wrS o e v).monAt = c.monAt := rfl
@[simp] theorem Core.wrS_monPrev (o e v : Nat) : (c.wrS o e v).monPrev = c.monPrev := rfl
@[simp] theorem Core.wrS_lanes (o e v : Nat) : (c.wrS o e v).lanes = c.lanes := rfl
@[simp] theorem Core.wrS_ports (o e v : Nat) : (c.wrS o e v).ports = c.ports := rfl
@[simp] theorem Core.wrS_pkt (o e v : Nat) : (c.wrS o e v).pkt = c.pkt := rfl
@[simp] theorem Core.wrS_survey (o e v : Nat) : (c.wrS o e v).survey = c.survey := rfl
@[simp] theorem Core.wrS_elsDark (o e v : Nat) : (c.wrS o e v).elsDark = c.elsDark := rfl
@[simp] theorem Core.wrS_therm (o e v : Nat) : (c.wrS o e v).therm = c.therm := rfl
@[simp] theorem Core.wrS_pwr (o e v : Nat) : (c.wrS o e v).pwr = c.pwr := rfl
@[simp] theorem Core.wrS_cal (o e v : Nat) : (c.wrS o e v).cal = c.cal := rfl
@[simp] theorem Core.wrS_test (o e v : Nat) : (c.wrS o e v).test = c.test := rfl
@[simp] theorem Core.wrS_boot (o e v : Nat) : (c.wrS o e v).boot = c.boot := rfl
@[simp] theorem Core.wrS_jtag (o e v : Nat) : (c.wrS o e v).jtag = c.jtag := rfl
@[simp] theorem Core.wrS_trav (o e v : Nat) : (c.wrS o e v).trav = c.trav := rfl
@[simp] theorem Core.wrS_col (o e v : Nat) : (c.wrS o e v).col = c.col := rfl
@[simp] theorem Core.wrS_tt (o e v : Nat) : (c.wrS o e v).tt = c.tt := rfl
@[simp] theorem Core.wrS_sup (o e v : Nat) : (c.wrS o e v).sup = c.sup := rfl
@[simp] theorem Core.wrS_faults (o e v : Nat) : (c.wrS o e v).faults = c.faults := rfl
@[simp] theorem Core.wrS_events (o e v : Nat) : (c.wrS o e v).events = c.events := rfl
@[simp] theorem Core.wrS_free (o e v : Nat) : (c.wrS o e v).free = c.free := rfl
@[simp] theorem Core.wrS_result (o e v : Nat) : (c.wrS o e v).result = c.result := rfl

/-! `Core.defer` accepts an RW write: it changes `pend` and nothing else. -/

@[simp] theorem Core.defer_regs (o e v : Nat) : (c.defer o e v).regs = c.regs := rfl
@[simp] theorem Core.defer_act (o e v : Nat) : (c.defer o e v).act = c.act := rfl
@[simp] theorem Core.defer_shd (o e v : Nat) : (c.defer o e v).shd = c.shd := rfl
@[simp] theorem Core.defer_saved (o e v : Nat) : (c.defer o e v).saved = c.saved := rfl
@[simp] theorem Core.defer_pend (o e v : Nat) : (c.defer o e v).pend = c.pend ++ [(okey o e, v)] := rfl
@[simp] theorem Core.defer_now (o e v : Nat) : (c.defer o e v).now = c.now := rfl
@[simp] theorem Core.defer_up (o e v : Nat) : (c.defer o e v).up = c.up := rfl
@[simp] theorem Core.defer_frames (o e v : Nat) : (c.defer o e v).frames = c.frames := rfl
@[simp] theorem Core.defer_time (o e v : Nat) : (c.defer o e v).time = c.time := rfl
@[simp] theorem Core.defer_ptp (o e v : Nat) : (c.defer o e v).ptp = c.ptp := rfl
@[simp] theorem Core.defer_links (o e v : Nat) : (c.defer o e v).links = c.links := rfl
@[simp] theorem Core.defer_chans (o e v : Nat) : (c.defer o e v).chans = c.chans := rfl
@[simp] theorem Core.defer_loops (o e v : Nat) : (c.defer o e v).loops = c.loops := rfl
@[simp] theorem Core.defer_coaches (o e v : Nat) : (c.defer o e v).coaches = c.coaches := rfl
@[simp] theorem Core.defer_micro (o e v : Nat) : (c.defer o e v).micro = c.micro := rfl
@[simp] theorem Core.defer_ucode (o e v : Nat) : (c.defer o e v).ucode = c.ucode := rfl
@[simp] theorem Core.defer_inputs (o e v : Nat) : (c.defer o e v).inputs = c.inputs := rfl
@[simp] theorem Core.defer_monAt (o e v : Nat) : (c.defer o e v).monAt = c.monAt := rfl
@[simp] theorem Core.defer_monPrev (o e v : Nat) : (c.defer o e v).monPrev = c.monPrev := rfl
@[simp] theorem Core.defer_lanes (o e v : Nat) : (c.defer o e v).lanes = c.lanes := rfl
@[simp] theorem Core.defer_ports (o e v : Nat) : (c.defer o e v).ports = c.ports := rfl
@[simp] theorem Core.defer_pkt (o e v : Nat) : (c.defer o e v).pkt = c.pkt := rfl
@[simp] theorem Core.defer_survey (o e v : Nat) : (c.defer o e v).survey = c.survey := rfl
@[simp] theorem Core.defer_elsDark (o e v : Nat) : (c.defer o e v).elsDark = c.elsDark := rfl
@[simp] theorem Core.defer_therm (o e v : Nat) : (c.defer o e v).therm = c.therm := rfl
@[simp] theorem Core.defer_pwr (o e v : Nat) : (c.defer o e v).pwr = c.pwr := rfl
@[simp] theorem Core.defer_cal (o e v : Nat) : (c.defer o e v).cal = c.cal := rfl
@[simp] theorem Core.defer_test (o e v : Nat) : (c.defer o e v).test = c.test := rfl
@[simp] theorem Core.defer_boot (o e v : Nat) : (c.defer o e v).boot = c.boot := rfl
@[simp] theorem Core.defer_jtag (o e v : Nat) : (c.defer o e v).jtag = c.jtag := rfl
@[simp] theorem Core.defer_trav (o e v : Nat) : (c.defer o e v).trav = c.trav := rfl
@[simp] theorem Core.defer_col (o e v : Nat) : (c.defer o e v).col = c.col := rfl
@[simp] theorem Core.defer_tt (o e v : Nat) : (c.defer o e v).tt = c.tt := rfl
@[simp] theorem Core.defer_sup (o e v : Nat) : (c.defer o e v).sup = c.sup := rfl
@[simp] theorem Core.defer_faults (o e v : Nat) : (c.defer o e v).faults = c.faults := rfl
@[simp] theorem Core.defer_events (o e v : Nat) : (c.defer o e v).events = c.events := rfl
@[simp] theorem Core.defer_free (o e v : Nat) : (c.defer o e v).free = c.free := rfl
@[simp] theorem Core.defer_result (o e v : Nat) : (c.defer o e v).result = c.result := rfl

/-! `Core.drawn` uses one free value: it changes `free` and nothing else. -/

@[simp] theorem Core.drawn_regs : (c.drawn).regs = c.regs := rfl
@[simp] theorem Core.drawn_act : (c.drawn).act = c.act := rfl
@[simp] theorem Core.drawn_shd : (c.drawn).shd = c.shd := rfl
@[simp] theorem Core.drawn_saved : (c.drawn).saved = c.saved := rfl
@[simp] theorem Core.drawn_pend : (c.drawn).pend = c.pend := rfl
@[simp] theorem Core.drawn_now : (c.drawn).now = c.now := rfl
@[simp] theorem Core.drawn_up : (c.drawn).up = c.up := rfl
@[simp] theorem Core.drawn_frames : (c.drawn).frames = c.frames := rfl
@[simp] theorem Core.drawn_time : (c.drawn).time = c.time := rfl
@[simp] theorem Core.drawn_ptp : (c.drawn).ptp = c.ptp := rfl
@[simp] theorem Core.drawn_links : (c.drawn).links = c.links := rfl
@[simp] theorem Core.drawn_chans : (c.drawn).chans = c.chans := rfl
@[simp] theorem Core.drawn_loops : (c.drawn).loops = c.loops := rfl
@[simp] theorem Core.drawn_coaches : (c.drawn).coaches = c.coaches := rfl
@[simp] theorem Core.drawn_micro : (c.drawn).micro = c.micro := rfl
@[simp] theorem Core.drawn_ucode : (c.drawn).ucode = c.ucode := rfl
@[simp] theorem Core.drawn_inputs : (c.drawn).inputs = c.inputs := rfl
@[simp] theorem Core.drawn_monAt : (c.drawn).monAt = c.monAt := rfl
@[simp] theorem Core.drawn_monPrev : (c.drawn).monPrev = c.monPrev := rfl
@[simp] theorem Core.drawn_lanes : (c.drawn).lanes = c.lanes := rfl
@[simp] theorem Core.drawn_ports : (c.drawn).ports = c.ports := rfl
@[simp] theorem Core.drawn_pkt : (c.drawn).pkt = c.pkt := rfl
@[simp] theorem Core.drawn_survey : (c.drawn).survey = c.survey := rfl
@[simp] theorem Core.drawn_elsDark : (c.drawn).elsDark = c.elsDark := rfl
@[simp] theorem Core.drawn_therm : (c.drawn).therm = c.therm := rfl
@[simp] theorem Core.drawn_pwr : (c.drawn).pwr = c.pwr := rfl
@[simp] theorem Core.drawn_cal : (c.drawn).cal = c.cal := rfl
@[simp] theorem Core.drawn_test : (c.drawn).test = c.test := rfl
@[simp] theorem Core.drawn_boot : (c.drawn).boot = c.boot := rfl
@[simp] theorem Core.drawn_jtag : (c.drawn).jtag = c.jtag := rfl
@[simp] theorem Core.drawn_trav : (c.drawn).trav = c.trav := rfl
@[simp] theorem Core.drawn_col : (c.drawn).col = c.col := rfl
@[simp] theorem Core.drawn_tt : (c.drawn).tt = c.tt := rfl
@[simp] theorem Core.drawn_sup : (c.drawn).sup = c.sup := rfl
@[simp] theorem Core.drawn_faults : (c.drawn).faults = c.faults := rfl
@[simp] theorem Core.drawn_events : (c.drawn).events = c.events := rfl
@[simp] theorem Core.drawn_free : (c.drawn).free = c.free + 1 := rfl
@[simp] theorem Core.drawn_result : (c.drawn).result = c.result := rfl

/-! `Core.ends` ends a command with a code: it changes `result` and nothing else. -/

@[simp] theorem Core.ends_regs (k : Nat) : (c.ends k).regs = c.regs := rfl
@[simp] theorem Core.ends_act (k : Nat) : (c.ends k).act = c.act := rfl
@[simp] theorem Core.ends_shd (k : Nat) : (c.ends k).shd = c.shd := rfl
@[simp] theorem Core.ends_saved (k : Nat) : (c.ends k).saved = c.saved := rfl
@[simp] theorem Core.ends_pend (k : Nat) : (c.ends k).pend = c.pend := rfl
@[simp] theorem Core.ends_now (k : Nat) : (c.ends k).now = c.now := rfl
@[simp] theorem Core.ends_up (k : Nat) : (c.ends k).up = c.up := rfl
@[simp] theorem Core.ends_frames (k : Nat) : (c.ends k).frames = c.frames := rfl
@[simp] theorem Core.ends_time (k : Nat) : (c.ends k).time = c.time := rfl
@[simp] theorem Core.ends_ptp (k : Nat) : (c.ends k).ptp = c.ptp := rfl
@[simp] theorem Core.ends_links (k : Nat) : (c.ends k).links = c.links := rfl
@[simp] theorem Core.ends_chans (k : Nat) : (c.ends k).chans = c.chans := rfl
@[simp] theorem Core.ends_loops (k : Nat) : (c.ends k).loops = c.loops := rfl
@[simp] theorem Core.ends_coaches (k : Nat) : (c.ends k).coaches = c.coaches := rfl
@[simp] theorem Core.ends_micro (k : Nat) : (c.ends k).micro = c.micro := rfl
@[simp] theorem Core.ends_ucode (k : Nat) : (c.ends k).ucode = c.ucode := rfl
@[simp] theorem Core.ends_inputs (k : Nat) : (c.ends k).inputs = c.inputs := rfl
@[simp] theorem Core.ends_monAt (k : Nat) : (c.ends k).monAt = c.monAt := rfl
@[simp] theorem Core.ends_monPrev (k : Nat) : (c.ends k).monPrev = c.monPrev := rfl
@[simp] theorem Core.ends_lanes (k : Nat) : (c.ends k).lanes = c.lanes := rfl
@[simp] theorem Core.ends_ports (k : Nat) : (c.ends k).ports = c.ports := rfl
@[simp] theorem Core.ends_pkt (k : Nat) : (c.ends k).pkt = c.pkt := rfl
@[simp] theorem Core.ends_survey (k : Nat) : (c.ends k).survey = c.survey := rfl
@[simp] theorem Core.ends_elsDark (k : Nat) : (c.ends k).elsDark = c.elsDark := rfl
@[simp] theorem Core.ends_therm (k : Nat) : (c.ends k).therm = c.therm := rfl
@[simp] theorem Core.ends_pwr (k : Nat) : (c.ends k).pwr = c.pwr := rfl
@[simp] theorem Core.ends_cal (k : Nat) : (c.ends k).cal = c.cal := rfl
@[simp] theorem Core.ends_test (k : Nat) : (c.ends k).test = c.test := rfl
@[simp] theorem Core.ends_boot (k : Nat) : (c.ends k).boot = c.boot := rfl
@[simp] theorem Core.ends_jtag (k : Nat) : (c.ends k).jtag = c.jtag := rfl
@[simp] theorem Core.ends_trav (k : Nat) : (c.ends k).trav = c.trav := rfl
@[simp] theorem Core.ends_col (k : Nat) : (c.ends k).col = c.col := rfl
@[simp] theorem Core.ends_tt (k : Nat) : (c.ends k).tt = c.tt := rfl
@[simp] theorem Core.ends_sup (k : Nat) : (c.ends k).sup = c.sup := rfl
@[simp] theorem Core.ends_faults (k : Nat) : (c.ends k).faults = c.faults := rfl
@[simp] theorem Core.ends_events (k : Nat) : (c.ends k).events = c.events := rfl
@[simp] theorem Core.ends_free (k : Nat) : (c.ends k).free = c.free := rfl
@[simp] theorem Core.ends_result (k : Nat) : (c.ends k).result = k := rfl

/-! `Core.pulse` reports a line that drops again: it changes `faults` and nothing else. -/

@[simp] theorem Core.pulse_regs (n : Nat) (ls ks : List Nat) : (c.pulse n ls ks).regs = c.regs := rfl
@[simp] theorem Core.pulse_act (n : Nat) (ls ks : List Nat) : (c.pulse n ls ks).act = c.act := rfl
@[simp] theorem Core.pulse_shd (n : Nat) (ls ks : List Nat) : (c.pulse n ls ks).shd = c.shd := rfl
@[simp] theorem Core.pulse_saved (n : Nat) (ls ks : List Nat) : (c.pulse n ls ks).saved = c.saved := rfl
@[simp] theorem Core.pulse_pend (n : Nat) (ls ks : List Nat) : (c.pulse n ls ks).pend = c.pend := rfl
@[simp] theorem Core.pulse_now (n : Nat) (ls ks : List Nat) : (c.pulse n ls ks).now = c.now := rfl
@[simp] theorem Core.pulse_up (n : Nat) (ls ks : List Nat) : (c.pulse n ls ks).up = c.up := rfl
@[simp] theorem Core.pulse_frames (n : Nat) (ls ks : List Nat) : (c.pulse n ls ks).frames = c.frames := rfl
@[simp] theorem Core.pulse_time (n : Nat) (ls ks : List Nat) : (c.pulse n ls ks).time = c.time := rfl
@[simp] theorem Core.pulse_ptp (n : Nat) (ls ks : List Nat) : (c.pulse n ls ks).ptp = c.ptp := rfl
@[simp] theorem Core.pulse_links (n : Nat) (ls ks : List Nat) : (c.pulse n ls ks).links = c.links := rfl
@[simp] theorem Core.pulse_chans (n : Nat) (ls ks : List Nat) : (c.pulse n ls ks).chans = c.chans := rfl
@[simp] theorem Core.pulse_loops (n : Nat) (ls ks : List Nat) : (c.pulse n ls ks).loops = c.loops := rfl
@[simp] theorem Core.pulse_coaches (n : Nat) (ls ks : List Nat) : (c.pulse n ls ks).coaches = c.coaches := rfl
@[simp] theorem Core.pulse_micro (n : Nat) (ls ks : List Nat) : (c.pulse n ls ks).micro = c.micro := rfl
@[simp] theorem Core.pulse_ucode (n : Nat) (ls ks : List Nat) : (c.pulse n ls ks).ucode = c.ucode := rfl
@[simp] theorem Core.pulse_inputs (n : Nat) (ls ks : List Nat) : (c.pulse n ls ks).inputs = c.inputs := rfl
@[simp] theorem Core.pulse_monAt (n : Nat) (ls ks : List Nat) : (c.pulse n ls ks).monAt = c.monAt := rfl
@[simp] theorem Core.pulse_monPrev (n : Nat) (ls ks : List Nat) : (c.pulse n ls ks).monPrev = c.monPrev := rfl
@[simp] theorem Core.pulse_lanes (n : Nat) (ls ks : List Nat) : (c.pulse n ls ks).lanes = c.lanes := rfl
@[simp] theorem Core.pulse_ports (n : Nat) (ls ks : List Nat) : (c.pulse n ls ks).ports = c.ports := rfl
@[simp] theorem Core.pulse_pkt (n : Nat) (ls ks : List Nat) : (c.pulse n ls ks).pkt = c.pkt := rfl
@[simp] theorem Core.pulse_survey (n : Nat) (ls ks : List Nat) : (c.pulse n ls ks).survey = c.survey := rfl
@[simp] theorem Core.pulse_elsDark (n : Nat) (ls ks : List Nat) : (c.pulse n ls ks).elsDark = c.elsDark := rfl
@[simp] theorem Core.pulse_therm (n : Nat) (ls ks : List Nat) : (c.pulse n ls ks).therm = c.therm := rfl
@[simp] theorem Core.pulse_pwr (n : Nat) (ls ks : List Nat) : (c.pulse n ls ks).pwr = c.pwr := rfl
@[simp] theorem Core.pulse_cal (n : Nat) (ls ks : List Nat) : (c.pulse n ls ks).cal = c.cal := rfl
@[simp] theorem Core.pulse_test (n : Nat) (ls ks : List Nat) : (c.pulse n ls ks).test = c.test := rfl
@[simp] theorem Core.pulse_boot (n : Nat) (ls ks : List Nat) : (c.pulse n ls ks).boot = c.boot := rfl
@[simp] theorem Core.pulse_jtag (n : Nat) (ls ks : List Nat) : (c.pulse n ls ks).jtag = c.jtag := rfl
@[simp] theorem Core.pulse_trav (n : Nat) (ls ks : List Nat) : (c.pulse n ls ks).trav = c.trav := rfl
@[simp] theorem Core.pulse_col (n : Nat) (ls ks : List Nat) : (c.pulse n ls ks).col = c.col := rfl
@[simp] theorem Core.pulse_tt (n : Nat) (ls ks : List Nat) : (c.pulse n ls ks).tt = c.tt := rfl
@[simp] theorem Core.pulse_sup (n : Nat) (ls ks : List Nat) : (c.pulse n ls ks).sup = c.sup := rfl
@[simp] theorem Core.pulse_faults (n : Nat) (ls ks : List Nat) : (c.pulse n ls ks).faults = { c.faults with raised := c.faults.raised ++ [⟨n, ls, ks, [], true⟩] } := rfl
@[simp] theorem Core.pulse_events (n : Nat) (ls ks : List Nat) : (c.pulse n ls ks).events = c.events := rfl
@[simp] theorem Core.pulse_free (n : Nat) (ls ks : List Nat) : (c.pulse n ls ks).free = c.free := rfl
@[simp] theorem Core.pulse_result (n : Nat) (ls ks : List Nat) : (c.pulse n ls ks).result = c.result := rfl

/-! `Core.hold` asserts a line: it changes `faults` and nothing else. -/

@[simp] theorem Core.hold_regs (n : Nat) (ls ks : List Nat) : (c.hold n ls ks).regs = c.regs := rfl
@[simp] theorem Core.hold_act (n : Nat) (ls ks : List Nat) : (c.hold n ls ks).act = c.act := rfl
@[simp] theorem Core.hold_shd (n : Nat) (ls ks : List Nat) : (c.hold n ls ks).shd = c.shd := rfl
@[simp] theorem Core.hold_saved (n : Nat) (ls ks : List Nat) : (c.hold n ls ks).saved = c.saved := rfl
@[simp] theorem Core.hold_pend (n : Nat) (ls ks : List Nat) : (c.hold n ls ks).pend = c.pend := rfl
@[simp] theorem Core.hold_now (n : Nat) (ls ks : List Nat) : (c.hold n ls ks).now = c.now := rfl
@[simp] theorem Core.hold_up (n : Nat) (ls ks : List Nat) : (c.hold n ls ks).up = c.up := rfl
@[simp] theorem Core.hold_frames (n : Nat) (ls ks : List Nat) : (c.hold n ls ks).frames = c.frames := rfl
@[simp] theorem Core.hold_time (n : Nat) (ls ks : List Nat) : (c.hold n ls ks).time = c.time := rfl
@[simp] theorem Core.hold_ptp (n : Nat) (ls ks : List Nat) : (c.hold n ls ks).ptp = c.ptp := rfl
@[simp] theorem Core.hold_links (n : Nat) (ls ks : List Nat) : (c.hold n ls ks).links = c.links := rfl
@[simp] theorem Core.hold_chans (n : Nat) (ls ks : List Nat) : (c.hold n ls ks).chans = c.chans := rfl
@[simp] theorem Core.hold_loops (n : Nat) (ls ks : List Nat) : (c.hold n ls ks).loops = c.loops := rfl
@[simp] theorem Core.hold_coaches (n : Nat) (ls ks : List Nat) : (c.hold n ls ks).coaches = c.coaches := rfl
@[simp] theorem Core.hold_micro (n : Nat) (ls ks : List Nat) : (c.hold n ls ks).micro = c.micro := rfl
@[simp] theorem Core.hold_ucode (n : Nat) (ls ks : List Nat) : (c.hold n ls ks).ucode = c.ucode := rfl
@[simp] theorem Core.hold_inputs (n : Nat) (ls ks : List Nat) : (c.hold n ls ks).inputs = c.inputs := rfl
@[simp] theorem Core.hold_monAt (n : Nat) (ls ks : List Nat) : (c.hold n ls ks).monAt = c.monAt := rfl
@[simp] theorem Core.hold_monPrev (n : Nat) (ls ks : List Nat) : (c.hold n ls ks).monPrev = c.monPrev := rfl
@[simp] theorem Core.hold_lanes (n : Nat) (ls ks : List Nat) : (c.hold n ls ks).lanes = c.lanes := rfl
@[simp] theorem Core.hold_ports (n : Nat) (ls ks : List Nat) : (c.hold n ls ks).ports = c.ports := rfl
@[simp] theorem Core.hold_pkt (n : Nat) (ls ks : List Nat) : (c.hold n ls ks).pkt = c.pkt := rfl
@[simp] theorem Core.hold_survey (n : Nat) (ls ks : List Nat) : (c.hold n ls ks).survey = c.survey := rfl
@[simp] theorem Core.hold_elsDark (n : Nat) (ls ks : List Nat) : (c.hold n ls ks).elsDark = c.elsDark := rfl
@[simp] theorem Core.hold_therm (n : Nat) (ls ks : List Nat) : (c.hold n ls ks).therm = c.therm := rfl
@[simp] theorem Core.hold_pwr (n : Nat) (ls ks : List Nat) : (c.hold n ls ks).pwr = c.pwr := rfl
@[simp] theorem Core.hold_cal (n : Nat) (ls ks : List Nat) : (c.hold n ls ks).cal = c.cal := rfl
@[simp] theorem Core.hold_test (n : Nat) (ls ks : List Nat) : (c.hold n ls ks).test = c.test := rfl
@[simp] theorem Core.hold_boot (n : Nat) (ls ks : List Nat) : (c.hold n ls ks).boot = c.boot := rfl
@[simp] theorem Core.hold_jtag (n : Nat) (ls ks : List Nat) : (c.hold n ls ks).jtag = c.jtag := rfl
@[simp] theorem Core.hold_trav (n : Nat) (ls ks : List Nat) : (c.hold n ls ks).trav = c.trav := rfl
@[simp] theorem Core.hold_col (n : Nat) (ls ks : List Nat) : (c.hold n ls ks).col = c.col := rfl
@[simp] theorem Core.hold_tt (n : Nat) (ls ks : List Nat) : (c.hold n ls ks).tt = c.tt := rfl
@[simp] theorem Core.hold_sup (n : Nat) (ls ks : List Nat) : (c.hold n ls ks).sup = c.sup := rfl
@[simp] theorem Core.hold_faults (n : Nat) (ls ks : List Nat) : (c.hold n ls ks).faults = { c.faults with raised := c.faults.raised ++ [⟨n, ls, ks, [], false⟩] } := rfl
@[simp] theorem Core.hold_events (n : Nat) (ls ks : List Nat) : (c.hold n ls ks).events = c.events := rfl
@[simp] theorem Core.hold_free (n : Nat) (ls ks : List Nat) : (c.hold n ls ks).free = c.free := rfl
@[simp] theorem Core.hold_result (n : Nat) (ls ks : List Nat) : (c.hold n ls ks).result = c.result := rfl

/-! `Core.drop` drops a line: it changes `faults` and nothing else. -/

@[simp] theorem Core.drop_regs (n : Nat) : (c.drop n).regs = c.regs := rfl
@[simp] theorem Core.drop_act (n : Nat) : (c.drop n).act = c.act := rfl
@[simp] theorem Core.drop_shd (n : Nat) : (c.drop n).shd = c.shd := rfl
@[simp] theorem Core.drop_saved (n : Nat) : (c.drop n).saved = c.saved := rfl
@[simp] theorem Core.drop_pend (n : Nat) : (c.drop n).pend = c.pend := rfl
@[simp] theorem Core.drop_now (n : Nat) : (c.drop n).now = c.now := rfl
@[simp] theorem Core.drop_up (n : Nat) : (c.drop n).up = c.up := rfl
@[simp] theorem Core.drop_frames (n : Nat) : (c.drop n).frames = c.frames := rfl
@[simp] theorem Core.drop_time (n : Nat) : (c.drop n).time = c.time := rfl
@[simp] theorem Core.drop_ptp (n : Nat) : (c.drop n).ptp = c.ptp := rfl
@[simp] theorem Core.drop_links (n : Nat) : (c.drop n).links = c.links := rfl
@[simp] theorem Core.drop_chans (n : Nat) : (c.drop n).chans = c.chans := rfl
@[simp] theorem Core.drop_loops (n : Nat) : (c.drop n).loops = c.loops := rfl
@[simp] theorem Core.drop_coaches (n : Nat) : (c.drop n).coaches = c.coaches := rfl
@[simp] theorem Core.drop_micro (n : Nat) : (c.drop n).micro = c.micro := rfl
@[simp] theorem Core.drop_ucode (n : Nat) : (c.drop n).ucode = c.ucode := rfl
@[simp] theorem Core.drop_inputs (n : Nat) : (c.drop n).inputs = c.inputs := rfl
@[simp] theorem Core.drop_monAt (n : Nat) : (c.drop n).monAt = c.monAt := rfl
@[simp] theorem Core.drop_monPrev (n : Nat) : (c.drop n).monPrev = c.monPrev := rfl
@[simp] theorem Core.drop_lanes (n : Nat) : (c.drop n).lanes = c.lanes := rfl
@[simp] theorem Core.drop_ports (n : Nat) : (c.drop n).ports = c.ports := rfl
@[simp] theorem Core.drop_pkt (n : Nat) : (c.drop n).pkt = c.pkt := rfl
@[simp] theorem Core.drop_survey (n : Nat) : (c.drop n).survey = c.survey := rfl
@[simp] theorem Core.drop_elsDark (n : Nat) : (c.drop n).elsDark = c.elsDark := rfl
@[simp] theorem Core.drop_therm (n : Nat) : (c.drop n).therm = c.therm := rfl
@[simp] theorem Core.drop_pwr (n : Nat) : (c.drop n).pwr = c.pwr := rfl
@[simp] theorem Core.drop_cal (n : Nat) : (c.drop n).cal = c.cal := rfl
@[simp] theorem Core.drop_test (n : Nat) : (c.drop n).test = c.test := rfl
@[simp] theorem Core.drop_boot (n : Nat) : (c.drop n).boot = c.boot := rfl
@[simp] theorem Core.drop_jtag (n : Nat) : (c.drop n).jtag = c.jtag := rfl
@[simp] theorem Core.drop_trav (n : Nat) : (c.drop n).trav = c.trav := rfl
@[simp] theorem Core.drop_col (n : Nat) : (c.drop n).col = c.col := rfl
@[simp] theorem Core.drop_tt (n : Nat) : (c.drop n).tt = c.tt := rfl
@[simp] theorem Core.drop_sup (n : Nat) : (c.drop n).sup = c.sup := rfl
@[simp] theorem Core.drop_faults (n : Nat) : (c.drop n).faults = { c.faults with lines := c.faults.lines.filter (· != n) } := rfl
@[simp] theorem Core.drop_events (n : Nat) : (c.drop n).events = c.events := rfl
@[simp] theorem Core.drop_free (n : Nat) : (c.drop n).free = c.free := rfl
@[simp] theorem Core.drop_result (n : Nat) : (c.drop n).result = c.result := rfl

/-! `Core.emit` has an event sent: it changes `events` and nothing else. -/

@[simp] theorem Core.emit_regs (k o : Nat) (d : List Byte) : (c.emit k o d).regs = c.regs := rfl
@[simp] theorem Core.emit_act (k o : Nat) (d : List Byte) : (c.emit k o d).act = c.act := rfl
@[simp] theorem Core.emit_shd (k o : Nat) (d : List Byte) : (c.emit k o d).shd = c.shd := rfl
@[simp] theorem Core.emit_saved (k o : Nat) (d : List Byte) : (c.emit k o d).saved = c.saved := rfl
@[simp] theorem Core.emit_pend (k o : Nat) (d : List Byte) : (c.emit k o d).pend = c.pend := rfl
@[simp] theorem Core.emit_now (k o : Nat) (d : List Byte) : (c.emit k o d).now = c.now := rfl
@[simp] theorem Core.emit_up (k o : Nat) (d : List Byte) : (c.emit k o d).up = c.up := rfl
@[simp] theorem Core.emit_frames (k o : Nat) (d : List Byte) : (c.emit k o d).frames = c.frames := rfl
@[simp] theorem Core.emit_time (k o : Nat) (d : List Byte) : (c.emit k o d).time = c.time := rfl
@[simp] theorem Core.emit_ptp (k o : Nat) (d : List Byte) : (c.emit k o d).ptp = c.ptp := rfl
@[simp] theorem Core.emit_links (k o : Nat) (d : List Byte) : (c.emit k o d).links = c.links := rfl
@[simp] theorem Core.emit_chans (k o : Nat) (d : List Byte) : (c.emit k o d).chans = c.chans := rfl
@[simp] theorem Core.emit_loops (k o : Nat) (d : List Byte) : (c.emit k o d).loops = c.loops := rfl
@[simp] theorem Core.emit_coaches (k o : Nat) (d : List Byte) : (c.emit k o d).coaches = c.coaches := rfl
@[simp] theorem Core.emit_micro (k o : Nat) (d : List Byte) : (c.emit k o d).micro = c.micro := rfl
@[simp] theorem Core.emit_ucode (k o : Nat) (d : List Byte) : (c.emit k o d).ucode = c.ucode := rfl
@[simp] theorem Core.emit_inputs (k o : Nat) (d : List Byte) : (c.emit k o d).inputs = c.inputs := rfl
@[simp] theorem Core.emit_monAt (k o : Nat) (d : List Byte) : (c.emit k o d).monAt = c.monAt := rfl
@[simp] theorem Core.emit_monPrev (k o : Nat) (d : List Byte) : (c.emit k o d).monPrev = c.monPrev := rfl
@[simp] theorem Core.emit_lanes (k o : Nat) (d : List Byte) : (c.emit k o d).lanes = c.lanes := rfl
@[simp] theorem Core.emit_ports (k o : Nat) (d : List Byte) : (c.emit k o d).ports = c.ports := rfl
@[simp] theorem Core.emit_pkt (k o : Nat) (d : List Byte) : (c.emit k o d).pkt = c.pkt := rfl
@[simp] theorem Core.emit_survey (k o : Nat) (d : List Byte) : (c.emit k o d).survey = c.survey := rfl
@[simp] theorem Core.emit_elsDark (k o : Nat) (d : List Byte) : (c.emit k o d).elsDark = c.elsDark := rfl
@[simp] theorem Core.emit_therm (k o : Nat) (d : List Byte) : (c.emit k o d).therm = c.therm := rfl
@[simp] theorem Core.emit_pwr (k o : Nat) (d : List Byte) : (c.emit k o d).pwr = c.pwr := rfl
@[simp] theorem Core.emit_cal (k o : Nat) (d : List Byte) : (c.emit k o d).cal = c.cal := rfl
@[simp] theorem Core.emit_test (k o : Nat) (d : List Byte) : (c.emit k o d).test = c.test := rfl
@[simp] theorem Core.emit_boot (k o : Nat) (d : List Byte) : (c.emit k o d).boot = c.boot := rfl
@[simp] theorem Core.emit_jtag (k o : Nat) (d : List Byte) : (c.emit k o d).jtag = c.jtag := rfl
@[simp] theorem Core.emit_trav (k o : Nat) (d : List Byte) : (c.emit k o d).trav = c.trav := rfl
@[simp] theorem Core.emit_col (k o : Nat) (d : List Byte) : (c.emit k o d).col = c.col := rfl
@[simp] theorem Core.emit_tt (k o : Nat) (d : List Byte) : (c.emit k o d).tt = c.tt := rfl
@[simp] theorem Core.emit_sup (k o : Nat) (d : List Byte) : (c.emit k o d).sup = c.sup := rfl
@[simp] theorem Core.emit_faults (k o : Nat) (d : List Byte) : (c.emit k o d).faults = c.faults := rfl
@[simp] theorem Core.emit_events (k o : Nat) (d : List Byte) : (c.emit k o d).events = c.events ++ [⟨k, o, c.now, d⟩] := rfl
@[simp] theorem Core.emit_free (k o : Nat) (d : List Byte) : (c.emit k o d).free = c.free := rfl
@[simp] theorem Core.emit_result (k o : Nat) (d : List Byte) : (c.emit k o d).result = c.result := rfl

/-! `Core.setLoop` sets a loop: it changes `loops` and nothing else. -/

@[simp] theorem Core.setLoop_regs (te : Nat) (l : Loop) : (c.setLoop te l).regs = c.regs := rfl
@[simp] theorem Core.setLoop_act (te : Nat) (l : Loop) : (c.setLoop te l).act = c.act := rfl
@[simp] theorem Core.setLoop_shd (te : Nat) (l : Loop) : (c.setLoop te l).shd = c.shd := rfl
@[simp] theorem Core.setLoop_saved (te : Nat) (l : Loop) : (c.setLoop te l).saved = c.saved := rfl
@[simp] theorem Core.setLoop_pend (te : Nat) (l : Loop) : (c.setLoop te l).pend = c.pend := rfl
@[simp] theorem Core.setLoop_now (te : Nat) (l : Loop) : (c.setLoop te l).now = c.now := rfl
@[simp] theorem Core.setLoop_up (te : Nat) (l : Loop) : (c.setLoop te l).up = c.up := rfl
@[simp] theorem Core.setLoop_frames (te : Nat) (l : Loop) : (c.setLoop te l).frames = c.frames := rfl
@[simp] theorem Core.setLoop_time (te : Nat) (l : Loop) : (c.setLoop te l).time = c.time := rfl
@[simp] theorem Core.setLoop_ptp (te : Nat) (l : Loop) : (c.setLoop te l).ptp = c.ptp := rfl
@[simp] theorem Core.setLoop_links (te : Nat) (l : Loop) : (c.setLoop te l).links = c.links := rfl
@[simp] theorem Core.setLoop_chans (te : Nat) (l : Loop) : (c.setLoop te l).chans = c.chans := rfl
@[simp] theorem Core.setLoop_loops (te : Nat) (l : Loop) : (c.setLoop te l).loops = Tab.put c.loops te l Loop.reset := rfl
@[simp] theorem Core.setLoop_coaches (te : Nat) (l : Loop) : (c.setLoop te l).coaches = c.coaches := rfl
@[simp] theorem Core.setLoop_micro (te : Nat) (l : Loop) : (c.setLoop te l).micro = c.micro := rfl
@[simp] theorem Core.setLoop_ucode (te : Nat) (l : Loop) : (c.setLoop te l).ucode = c.ucode := rfl
@[simp] theorem Core.setLoop_inputs (te : Nat) (l : Loop) : (c.setLoop te l).inputs = c.inputs := rfl
@[simp] theorem Core.setLoop_monAt (te : Nat) (l : Loop) : (c.setLoop te l).monAt = c.monAt := rfl
@[simp] theorem Core.setLoop_monPrev (te : Nat) (l : Loop) : (c.setLoop te l).monPrev = c.monPrev := rfl
@[simp] theorem Core.setLoop_lanes (te : Nat) (l : Loop) : (c.setLoop te l).lanes = c.lanes := rfl
@[simp] theorem Core.setLoop_ports (te : Nat) (l : Loop) : (c.setLoop te l).ports = c.ports := rfl
@[simp] theorem Core.setLoop_pkt (te : Nat) (l : Loop) : (c.setLoop te l).pkt = c.pkt := rfl
@[simp] theorem Core.setLoop_survey (te : Nat) (l : Loop) : (c.setLoop te l).survey = c.survey := rfl
@[simp] theorem Core.setLoop_elsDark (te : Nat) (l : Loop) : (c.setLoop te l).elsDark = c.elsDark := rfl
@[simp] theorem Core.setLoop_therm (te : Nat) (l : Loop) : (c.setLoop te l).therm = c.therm := rfl
@[simp] theorem Core.setLoop_pwr (te : Nat) (l : Loop) : (c.setLoop te l).pwr = c.pwr := rfl
@[simp] theorem Core.setLoop_cal (te : Nat) (l : Loop) : (c.setLoop te l).cal = c.cal := rfl
@[simp] theorem Core.setLoop_test (te : Nat) (l : Loop) : (c.setLoop te l).test = c.test := rfl
@[simp] theorem Core.setLoop_boot (te : Nat) (l : Loop) : (c.setLoop te l).boot = c.boot := rfl
@[simp] theorem Core.setLoop_jtag (te : Nat) (l : Loop) : (c.setLoop te l).jtag = c.jtag := rfl
@[simp] theorem Core.setLoop_trav (te : Nat) (l : Loop) : (c.setLoop te l).trav = c.trav := rfl
@[simp] theorem Core.setLoop_col (te : Nat) (l : Loop) : (c.setLoop te l).col = c.col := rfl
@[simp] theorem Core.setLoop_tt (te : Nat) (l : Loop) : (c.setLoop te l).tt = c.tt := rfl
@[simp] theorem Core.setLoop_sup (te : Nat) (l : Loop) : (c.setLoop te l).sup = c.sup := rfl
@[simp] theorem Core.setLoop_faults (te : Nat) (l : Loop) : (c.setLoop te l).faults = c.faults := rfl
@[simp] theorem Core.setLoop_events (te : Nat) (l : Loop) : (c.setLoop te l).events = c.events := rfl
@[simp] theorem Core.setLoop_free (te : Nat) (l : Loop) : (c.setLoop te l).free = c.free := rfl
@[simp] theorem Core.setLoop_result (te : Nat) (l : Loop) : (c.setLoop te l).result = c.result := rfl

/-! `Core.setChan` sets a drive channel: it changes `chans` and nothing else. -/

@[simp] theorem Core.setChan_regs (te : Nat) (x : Chan) : (c.setChan te x).regs = c.regs := rfl
@[simp] theorem Core.setChan_act (te : Nat) (x : Chan) : (c.setChan te x).act = c.act := rfl
@[simp] theorem Core.setChan_shd (te : Nat) (x : Chan) : (c.setChan te x).shd = c.shd := rfl
@[simp] theorem Core.setChan_saved (te : Nat) (x : Chan) : (c.setChan te x).saved = c.saved := rfl
@[simp] theorem Core.setChan_pend (te : Nat) (x : Chan) : (c.setChan te x).pend = c.pend := rfl
@[simp] theorem Core.setChan_now (te : Nat) (x : Chan) : (c.setChan te x).now = c.now := rfl
@[simp] theorem Core.setChan_up (te : Nat) (x : Chan) : (c.setChan te x).up = c.up := rfl
@[simp] theorem Core.setChan_frames (te : Nat) (x : Chan) : (c.setChan te x).frames = c.frames := rfl
@[simp] theorem Core.setChan_time (te : Nat) (x : Chan) : (c.setChan te x).time = c.time := rfl
@[simp] theorem Core.setChan_ptp (te : Nat) (x : Chan) : (c.setChan te x).ptp = c.ptp := rfl
@[simp] theorem Core.setChan_links (te : Nat) (x : Chan) : (c.setChan te x).links = c.links := rfl
@[simp] theorem Core.setChan_chans (te : Nat) (x : Chan) : (c.setChan te x).chans = Tab.put c.chans te x Chan.reset := rfl
@[simp] theorem Core.setChan_loops (te : Nat) (x : Chan) : (c.setChan te x).loops = c.loops := rfl
@[simp] theorem Core.setChan_coaches (te : Nat) (x : Chan) : (c.setChan te x).coaches = c.coaches := rfl
@[simp] theorem Core.setChan_micro (te : Nat) (x : Chan) : (c.setChan te x).micro = c.micro := rfl
@[simp] theorem Core.setChan_ucode (te : Nat) (x : Chan) : (c.setChan te x).ucode = c.ucode := rfl
@[simp] theorem Core.setChan_inputs (te : Nat) (x : Chan) : (c.setChan te x).inputs = c.inputs := rfl
@[simp] theorem Core.setChan_monAt (te : Nat) (x : Chan) : (c.setChan te x).monAt = c.monAt := rfl
@[simp] theorem Core.setChan_monPrev (te : Nat) (x : Chan) : (c.setChan te x).monPrev = c.monPrev := rfl
@[simp] theorem Core.setChan_lanes (te : Nat) (x : Chan) : (c.setChan te x).lanes = c.lanes := rfl
@[simp] theorem Core.setChan_ports (te : Nat) (x : Chan) : (c.setChan te x).ports = c.ports := rfl
@[simp] theorem Core.setChan_pkt (te : Nat) (x : Chan) : (c.setChan te x).pkt = c.pkt := rfl
@[simp] theorem Core.setChan_survey (te : Nat) (x : Chan) : (c.setChan te x).survey = c.survey := rfl
@[simp] theorem Core.setChan_elsDark (te : Nat) (x : Chan) : (c.setChan te x).elsDark = c.elsDark := rfl
@[simp] theorem Core.setChan_therm (te : Nat) (x : Chan) : (c.setChan te x).therm = c.therm := rfl
@[simp] theorem Core.setChan_pwr (te : Nat) (x : Chan) : (c.setChan te x).pwr = c.pwr := rfl
@[simp] theorem Core.setChan_cal (te : Nat) (x : Chan) : (c.setChan te x).cal = c.cal := rfl
@[simp] theorem Core.setChan_test (te : Nat) (x : Chan) : (c.setChan te x).test = c.test := rfl
@[simp] theorem Core.setChan_boot (te : Nat) (x : Chan) : (c.setChan te x).boot = c.boot := rfl
@[simp] theorem Core.setChan_jtag (te : Nat) (x : Chan) : (c.setChan te x).jtag = c.jtag := rfl
@[simp] theorem Core.setChan_trav (te : Nat) (x : Chan) : (c.setChan te x).trav = c.trav := rfl
@[simp] theorem Core.setChan_col (te : Nat) (x : Chan) : (c.setChan te x).col = c.col := rfl
@[simp] theorem Core.setChan_tt (te : Nat) (x : Chan) : (c.setChan te x).tt = c.tt := rfl
@[simp] theorem Core.setChan_sup (te : Nat) (x : Chan) : (c.setChan te x).sup = c.sup := rfl
@[simp] theorem Core.setChan_faults (te : Nat) (x : Chan) : (c.setChan te x).faults = c.faults := rfl
@[simp] theorem Core.setChan_events (te : Nat) (x : Chan) : (c.setChan te x).events = c.events := rfl
@[simp] theorem Core.setChan_free (te : Nat) (x : Chan) : (c.setChan te x).free = c.free := rfl
@[simp] theorem Core.setChan_result (te : Nat) (x : Chan) : (c.setChan te x).result = c.result := rfl

/-! `Core.setCoach` sets a coach: it changes `coaches` and nothing else. -/

@[simp] theorem Core.setCoach_regs (k : Nat) (x : CoachRec) : (c.setCoach k x).regs = c.regs := rfl
@[simp] theorem Core.setCoach_act (k : Nat) (x : CoachRec) : (c.setCoach k x).act = c.act := rfl
@[simp] theorem Core.setCoach_shd (k : Nat) (x : CoachRec) : (c.setCoach k x).shd = c.shd := rfl
@[simp] theorem Core.setCoach_saved (k : Nat) (x : CoachRec) : (c.setCoach k x).saved = c.saved := rfl
@[simp] theorem Core.setCoach_pend (k : Nat) (x : CoachRec) : (c.setCoach k x).pend = c.pend := rfl
@[simp] theorem Core.setCoach_now (k : Nat) (x : CoachRec) : (c.setCoach k x).now = c.now := rfl
@[simp] theorem Core.setCoach_up (k : Nat) (x : CoachRec) : (c.setCoach k x).up = c.up := rfl
@[simp] theorem Core.setCoach_frames (k : Nat) (x : CoachRec) : (c.setCoach k x).frames = c.frames := rfl
@[simp] theorem Core.setCoach_time (k : Nat) (x : CoachRec) : (c.setCoach k x).time = c.time := rfl
@[simp] theorem Core.setCoach_ptp (k : Nat) (x : CoachRec) : (c.setCoach k x).ptp = c.ptp := rfl
@[simp] theorem Core.setCoach_links (k : Nat) (x : CoachRec) : (c.setCoach k x).links = c.links := rfl
@[simp] theorem Core.setCoach_chans (k : Nat) (x : CoachRec) : (c.setCoach k x).chans = c.chans := rfl
@[simp] theorem Core.setCoach_loops (k : Nat) (x : CoachRec) : (c.setCoach k x).loops = c.loops := rfl
@[simp] theorem Core.setCoach_coaches (k : Nat) (x : CoachRec) : (c.setCoach k x).coaches = Tab.put c.coaches k x CoachRec.reset := rfl
@[simp] theorem Core.setCoach_micro (k : Nat) (x : CoachRec) : (c.setCoach k x).micro = c.micro := rfl
@[simp] theorem Core.setCoach_ucode (k : Nat) (x : CoachRec) : (c.setCoach k x).ucode = c.ucode := rfl
@[simp] theorem Core.setCoach_inputs (k : Nat) (x : CoachRec) : (c.setCoach k x).inputs = c.inputs := rfl
@[simp] theorem Core.setCoach_monAt (k : Nat) (x : CoachRec) : (c.setCoach k x).monAt = c.monAt := rfl
@[simp] theorem Core.setCoach_monPrev (k : Nat) (x : CoachRec) : (c.setCoach k x).monPrev = c.monPrev := rfl
@[simp] theorem Core.setCoach_lanes (k : Nat) (x : CoachRec) : (c.setCoach k x).lanes = c.lanes := rfl
@[simp] theorem Core.setCoach_ports (k : Nat) (x : CoachRec) : (c.setCoach k x).ports = c.ports := rfl
@[simp] theorem Core.setCoach_pkt (k : Nat) (x : CoachRec) : (c.setCoach k x).pkt = c.pkt := rfl
@[simp] theorem Core.setCoach_survey (k : Nat) (x : CoachRec) : (c.setCoach k x).survey = c.survey := rfl
@[simp] theorem Core.setCoach_elsDark (k : Nat) (x : CoachRec) : (c.setCoach k x).elsDark = c.elsDark := rfl
@[simp] theorem Core.setCoach_therm (k : Nat) (x : CoachRec) : (c.setCoach k x).therm = c.therm := rfl
@[simp] theorem Core.setCoach_pwr (k : Nat) (x : CoachRec) : (c.setCoach k x).pwr = c.pwr := rfl
@[simp] theorem Core.setCoach_cal (k : Nat) (x : CoachRec) : (c.setCoach k x).cal = c.cal := rfl
@[simp] theorem Core.setCoach_test (k : Nat) (x : CoachRec) : (c.setCoach k x).test = c.test := rfl
@[simp] theorem Core.setCoach_boot (k : Nat) (x : CoachRec) : (c.setCoach k x).boot = c.boot := rfl
@[simp] theorem Core.setCoach_jtag (k : Nat) (x : CoachRec) : (c.setCoach k x).jtag = c.jtag := rfl
@[simp] theorem Core.setCoach_trav (k : Nat) (x : CoachRec) : (c.setCoach k x).trav = c.trav := rfl
@[simp] theorem Core.setCoach_col (k : Nat) (x : CoachRec) : (c.setCoach k x).col = c.col := rfl
@[simp] theorem Core.setCoach_tt (k : Nat) (x : CoachRec) : (c.setCoach k x).tt = c.tt := rfl
@[simp] theorem Core.setCoach_sup (k : Nat) (x : CoachRec) : (c.setCoach k x).sup = c.sup := rfl
@[simp] theorem Core.setCoach_faults (k : Nat) (x : CoachRec) : (c.setCoach k x).faults = c.faults := rfl
@[simp] theorem Core.setCoach_events (k : Nat) (x : CoachRec) : (c.setCoach k x).events = c.events := rfl
@[simp] theorem Core.setCoach_free (k : Nat) (x : CoachRec) : (c.setCoach k x).free = c.free := rfl
@[simp] theorem Core.setCoach_result (k : Nat) (x : CoachRec) : (c.setCoach k x).result = c.result := rfl

/-! `Core.setLink` sets a link: it changes `links` and nothing else. -/

@[simp] theorem Core.setLink_regs (d : Nat) (x : Link) : (c.setLink d x).regs = c.regs := rfl
@[simp] theorem Core.setLink_act (d : Nat) (x : Link) : (c.setLink d x).act = c.act := rfl
@[simp] theorem Core.setLink_shd (d : Nat) (x : Link) : (c.setLink d x).shd = c.shd := rfl
@[simp] theorem Core.setLink_saved (d : Nat) (x : Link) : (c.setLink d x).saved = c.saved := rfl
@[simp] theorem Core.setLink_pend (d : Nat) (x : Link) : (c.setLink d x).pend = c.pend := rfl
@[simp] theorem Core.setLink_now (d : Nat) (x : Link) : (c.setLink d x).now = c.now := rfl
@[simp] theorem Core.setLink_up (d : Nat) (x : Link) : (c.setLink d x).up = c.up := rfl
@[simp] theorem Core.setLink_frames (d : Nat) (x : Link) : (c.setLink d x).frames = c.frames := rfl
@[simp] theorem Core.setLink_time (d : Nat) (x : Link) : (c.setLink d x).time = c.time := rfl
@[simp] theorem Core.setLink_ptp (d : Nat) (x : Link) : (c.setLink d x).ptp = c.ptp := rfl
@[simp] theorem Core.setLink_links (d : Nat) (x : Link) : (c.setLink d x).links = Tab.put c.links d x Link.reset := rfl
@[simp] theorem Core.setLink_chans (d : Nat) (x : Link) : (c.setLink d x).chans = c.chans := rfl
@[simp] theorem Core.setLink_loops (d : Nat) (x : Link) : (c.setLink d x).loops = c.loops := rfl
@[simp] theorem Core.setLink_coaches (d : Nat) (x : Link) : (c.setLink d x).coaches = c.coaches := rfl
@[simp] theorem Core.setLink_micro (d : Nat) (x : Link) : (c.setLink d x).micro = c.micro := rfl
@[simp] theorem Core.setLink_ucode (d : Nat) (x : Link) : (c.setLink d x).ucode = c.ucode := rfl
@[simp] theorem Core.setLink_inputs (d : Nat) (x : Link) : (c.setLink d x).inputs = c.inputs := rfl
@[simp] theorem Core.setLink_monAt (d : Nat) (x : Link) : (c.setLink d x).monAt = c.monAt := rfl
@[simp] theorem Core.setLink_monPrev (d : Nat) (x : Link) : (c.setLink d x).monPrev = c.monPrev := rfl
@[simp] theorem Core.setLink_lanes (d : Nat) (x : Link) : (c.setLink d x).lanes = c.lanes := rfl
@[simp] theorem Core.setLink_ports (d : Nat) (x : Link) : (c.setLink d x).ports = c.ports := rfl
@[simp] theorem Core.setLink_pkt (d : Nat) (x : Link) : (c.setLink d x).pkt = c.pkt := rfl
@[simp] theorem Core.setLink_survey (d : Nat) (x : Link) : (c.setLink d x).survey = c.survey := rfl
@[simp] theorem Core.setLink_elsDark (d : Nat) (x : Link) : (c.setLink d x).elsDark = c.elsDark := rfl
@[simp] theorem Core.setLink_therm (d : Nat) (x : Link) : (c.setLink d x).therm = c.therm := rfl
@[simp] theorem Core.setLink_pwr (d : Nat) (x : Link) : (c.setLink d x).pwr = c.pwr := rfl
@[simp] theorem Core.setLink_cal (d : Nat) (x : Link) : (c.setLink d x).cal = c.cal := rfl
@[simp] theorem Core.setLink_test (d : Nat) (x : Link) : (c.setLink d x).test = c.test := rfl
@[simp] theorem Core.setLink_boot (d : Nat) (x : Link) : (c.setLink d x).boot = c.boot := rfl
@[simp] theorem Core.setLink_jtag (d : Nat) (x : Link) : (c.setLink d x).jtag = c.jtag := rfl
@[simp] theorem Core.setLink_trav (d : Nat) (x : Link) : (c.setLink d x).trav = c.trav := rfl
@[simp] theorem Core.setLink_col (d : Nat) (x : Link) : (c.setLink d x).col = c.col := rfl
@[simp] theorem Core.setLink_tt (d : Nat) (x : Link) : (c.setLink d x).tt = c.tt := rfl
@[simp] theorem Core.setLink_sup (d : Nat) (x : Link) : (c.setLink d x).sup = c.sup := rfl
@[simp] theorem Core.setLink_faults (d : Nat) (x : Link) : (c.setLink d x).faults = c.faults := rfl
@[simp] theorem Core.setLink_events (d : Nat) (x : Link) : (c.setLink d x).events = c.events := rfl
@[simp] theorem Core.setLink_free (d : Nat) (x : Link) : (c.setLink d x).free = c.free := rfl
@[simp] theorem Core.setLink_result (d : Nat) (x : Link) : (c.setLink d x).result = c.result := rfl

/-! `Core.setLane` sets a lane: it changes `lanes` and nothing else. -/

@[simp] theorem Core.setLane_regs (k : Nat) (l : LaneRec) : (c.setLane k l).regs = c.regs := rfl
@[simp] theorem Core.setLane_act (k : Nat) (l : LaneRec) : (c.setLane k l).act = c.act := rfl
@[simp] theorem Core.setLane_shd (k : Nat) (l : LaneRec) : (c.setLane k l).shd = c.shd := rfl
@[simp] theorem Core.setLane_saved (k : Nat) (l : LaneRec) : (c.setLane k l).saved = c.saved := rfl
@[simp] theorem Core.setLane_pend (k : Nat) (l : LaneRec) : (c.setLane k l).pend = c.pend := rfl
@[simp] theorem Core.setLane_now (k : Nat) (l : LaneRec) : (c.setLane k l).now = c.now := rfl
@[simp] theorem Core.setLane_up (k : Nat) (l : LaneRec) : (c.setLane k l).up = c.up := rfl
@[simp] theorem Core.setLane_frames (k : Nat) (l : LaneRec) : (c.setLane k l).frames = c.frames := rfl
@[simp] theorem Core.setLane_time (k : Nat) (l : LaneRec) : (c.setLane k l).time = c.time := rfl
@[simp] theorem Core.setLane_ptp (k : Nat) (l : LaneRec) : (c.setLane k l).ptp = c.ptp := rfl
@[simp] theorem Core.setLane_links (k : Nat) (l : LaneRec) : (c.setLane k l).links = c.links := rfl
@[simp] theorem Core.setLane_chans (k : Nat) (l : LaneRec) : (c.setLane k l).chans = c.chans := rfl
@[simp] theorem Core.setLane_loops (k : Nat) (l : LaneRec) : (c.setLane k l).loops = c.loops := rfl
@[simp] theorem Core.setLane_coaches (k : Nat) (l : LaneRec) : (c.setLane k l).coaches = c.coaches := rfl
@[simp] theorem Core.setLane_micro (k : Nat) (l : LaneRec) : (c.setLane k l).micro = c.micro := rfl
@[simp] theorem Core.setLane_ucode (k : Nat) (l : LaneRec) : (c.setLane k l).ucode = c.ucode := rfl
@[simp] theorem Core.setLane_inputs (k : Nat) (l : LaneRec) : (c.setLane k l).inputs = c.inputs := rfl
@[simp] theorem Core.setLane_monAt (k : Nat) (l : LaneRec) : (c.setLane k l).monAt = c.monAt := rfl
@[simp] theorem Core.setLane_monPrev (k : Nat) (l : LaneRec) : (c.setLane k l).monPrev = c.monPrev := rfl
@[simp] theorem Core.setLane_lanes (k : Nat) (l : LaneRec) : (c.setLane k l).lanes = Tab.put c.lanes k l LaneRec.reset := rfl
@[simp] theorem Core.setLane_ports (k : Nat) (l : LaneRec) : (c.setLane k l).ports = c.ports := rfl
@[simp] theorem Core.setLane_pkt (k : Nat) (l : LaneRec) : (c.setLane k l).pkt = c.pkt := rfl
@[simp] theorem Core.setLane_survey (k : Nat) (l : LaneRec) : (c.setLane k l).survey = c.survey := rfl
@[simp] theorem Core.setLane_elsDark (k : Nat) (l : LaneRec) : (c.setLane k l).elsDark = c.elsDark := rfl
@[simp] theorem Core.setLane_therm (k : Nat) (l : LaneRec) : (c.setLane k l).therm = c.therm := rfl
@[simp] theorem Core.setLane_pwr (k : Nat) (l : LaneRec) : (c.setLane k l).pwr = c.pwr := rfl
@[simp] theorem Core.setLane_cal (k : Nat) (l : LaneRec) : (c.setLane k l).cal = c.cal := rfl
@[simp] theorem Core.setLane_test (k : Nat) (l : LaneRec) : (c.setLane k l).test = c.test := rfl
@[simp] theorem Core.setLane_boot (k : Nat) (l : LaneRec) : (c.setLane k l).boot = c.boot := rfl
@[simp] theorem Core.setLane_jtag (k : Nat) (l : LaneRec) : (c.setLane k l).jtag = c.jtag := rfl
@[simp] theorem Core.setLane_trav (k : Nat) (l : LaneRec) : (c.setLane k l).trav = c.trav := rfl
@[simp] theorem Core.setLane_col (k : Nat) (l : LaneRec) : (c.setLane k l).col = c.col := rfl
@[simp] theorem Core.setLane_tt (k : Nat) (l : LaneRec) : (c.setLane k l).tt = c.tt := rfl
@[simp] theorem Core.setLane_sup (k : Nat) (l : LaneRec) : (c.setLane k l).sup = c.sup := rfl
@[simp] theorem Core.setLane_faults (k : Nat) (l : LaneRec) : (c.setLane k l).faults = c.faults := rfl
@[simp] theorem Core.setLane_events (k : Nat) (l : LaneRec) : (c.setLane k l).events = c.events := rfl
@[simp] theorem Core.setLane_free (k : Nat) (l : LaneRec) : (c.setLane k l).free = c.free := rfl
@[simp] theorem Core.setLane_result (k : Nat) (l : LaneRec) : (c.setLane k l).result = c.result := rfl

/-! `Core.setPort` sets a port: it changes `ports` and nothing else. -/

@[simp] theorem Core.setPort_regs (p : Nat) (r : PortRec) : (c.setPort p r).regs = c.regs := rfl
@[simp] theorem Core.setPort_act (p : Nat) (r : PortRec) : (c.setPort p r).act = c.act := rfl
@[simp] theorem Core.setPort_shd (p : Nat) (r : PortRec) : (c.setPort p r).shd = c.shd := rfl
@[simp] theorem Core.setPort_saved (p : Nat) (r : PortRec) : (c.setPort p r).saved = c.saved := rfl
@[simp] theorem Core.setPort_pend (p : Nat) (r : PortRec) : (c.setPort p r).pend = c.pend := rfl
@[simp] theorem Core.setPort_now (p : Nat) (r : PortRec) : (c.setPort p r).now = c.now := rfl
@[simp] theorem Core.setPort_up (p : Nat) (r : PortRec) : (c.setPort p r).up = c.up := rfl
@[simp] theorem Core.setPort_frames (p : Nat) (r : PortRec) : (c.setPort p r).frames = c.frames := rfl
@[simp] theorem Core.setPort_time (p : Nat) (r : PortRec) : (c.setPort p r).time = c.time := rfl
@[simp] theorem Core.setPort_ptp (p : Nat) (r : PortRec) : (c.setPort p r).ptp = c.ptp := rfl
@[simp] theorem Core.setPort_links (p : Nat) (r : PortRec) : (c.setPort p r).links = c.links := rfl
@[simp] theorem Core.setPort_chans (p : Nat) (r : PortRec) : (c.setPort p r).chans = c.chans := rfl
@[simp] theorem Core.setPort_loops (p : Nat) (r : PortRec) : (c.setPort p r).loops = c.loops := rfl
@[simp] theorem Core.setPort_coaches (p : Nat) (r : PortRec) : (c.setPort p r).coaches = c.coaches := rfl
@[simp] theorem Core.setPort_micro (p : Nat) (r : PortRec) : (c.setPort p r).micro = c.micro := rfl
@[simp] theorem Core.setPort_ucode (p : Nat) (r : PortRec) : (c.setPort p r).ucode = c.ucode := rfl
@[simp] theorem Core.setPort_inputs (p : Nat) (r : PortRec) : (c.setPort p r).inputs = c.inputs := rfl
@[simp] theorem Core.setPort_monAt (p : Nat) (r : PortRec) : (c.setPort p r).monAt = c.monAt := rfl
@[simp] theorem Core.setPort_monPrev (p : Nat) (r : PortRec) : (c.setPort p r).monPrev = c.monPrev := rfl
@[simp] theorem Core.setPort_lanes (p : Nat) (r : PortRec) : (c.setPort p r).lanes = c.lanes := rfl
@[simp] theorem Core.setPort_ports (p : Nat) (r : PortRec) : (c.setPort p r).ports = Tab.put c.ports p r PortRec.reset := rfl
@[simp] theorem Core.setPort_pkt (p : Nat) (r : PortRec) : (c.setPort p r).pkt = c.pkt := rfl
@[simp] theorem Core.setPort_survey (p : Nat) (r : PortRec) : (c.setPort p r).survey = c.survey := rfl
@[simp] theorem Core.setPort_elsDark (p : Nat) (r : PortRec) : (c.setPort p r).elsDark = c.elsDark := rfl
@[simp] theorem Core.setPort_therm (p : Nat) (r : PortRec) : (c.setPort p r).therm = c.therm := rfl
@[simp] theorem Core.setPort_pwr (p : Nat) (r : PortRec) : (c.setPort p r).pwr = c.pwr := rfl
@[simp] theorem Core.setPort_cal (p : Nat) (r : PortRec) : (c.setPort p r).cal = c.cal := rfl
@[simp] theorem Core.setPort_test (p : Nat) (r : PortRec) : (c.setPort p r).test = c.test := rfl
@[simp] theorem Core.setPort_boot (p : Nat) (r : PortRec) : (c.setPort p r).boot = c.boot := rfl
@[simp] theorem Core.setPort_jtag (p : Nat) (r : PortRec) : (c.setPort p r).jtag = c.jtag := rfl
@[simp] theorem Core.setPort_trav (p : Nat) (r : PortRec) : (c.setPort p r).trav = c.trav := rfl
@[simp] theorem Core.setPort_col (p : Nat) (r : PortRec) : (c.setPort p r).col = c.col := rfl
@[simp] theorem Core.setPort_tt (p : Nat) (r : PortRec) : (c.setPort p r).tt = c.tt := rfl
@[simp] theorem Core.setPort_sup (p : Nat) (r : PortRec) : (c.setPort p r).sup = c.sup := rfl
@[simp] theorem Core.setPort_faults (p : Nat) (r : PortRec) : (c.setPort p r).faults = c.faults := rfl
@[simp] theorem Core.setPort_events (p : Nat) (r : PortRec) : (c.setPort p r).events = c.events := rfl
@[simp] theorem Core.setPort_free (p : Nat) (r : PortRec) : (c.setPort p r).free = c.free := rfl
@[simp] theorem Core.setPort_result (p : Nat) (r : PortRec) : (c.setPort p r).result = c.result := rfl

/-! `Core.setPtp` sets a PTP instance: it changes `ptp` and nothing else. -/

@[simp] theorem Core.setPtp_regs (p : Nat) (x : PtpPort) : (c.setPtp p x).regs = c.regs := rfl
@[simp] theorem Core.setPtp_act (p : Nat) (x : PtpPort) : (c.setPtp p x).act = c.act := rfl
@[simp] theorem Core.setPtp_shd (p : Nat) (x : PtpPort) : (c.setPtp p x).shd = c.shd := rfl
@[simp] theorem Core.setPtp_saved (p : Nat) (x : PtpPort) : (c.setPtp p x).saved = c.saved := rfl
@[simp] theorem Core.setPtp_pend (p : Nat) (x : PtpPort) : (c.setPtp p x).pend = c.pend := rfl
@[simp] theorem Core.setPtp_now (p : Nat) (x : PtpPort) : (c.setPtp p x).now = c.now := rfl
@[simp] theorem Core.setPtp_up (p : Nat) (x : PtpPort) : (c.setPtp p x).up = c.up := rfl
@[simp] theorem Core.setPtp_frames (p : Nat) (x : PtpPort) : (c.setPtp p x).frames = c.frames := rfl
@[simp] theorem Core.setPtp_time (p : Nat) (x : PtpPort) : (c.setPtp p x).time = c.time := rfl
@[simp] theorem Core.setPtp_ptp (p : Nat) (x : PtpPort) : (c.setPtp p x).ptp = Tab.put c.ptp p x PtpPort.reset := rfl
@[simp] theorem Core.setPtp_links (p : Nat) (x : PtpPort) : (c.setPtp p x).links = c.links := rfl
@[simp] theorem Core.setPtp_chans (p : Nat) (x : PtpPort) : (c.setPtp p x).chans = c.chans := rfl
@[simp] theorem Core.setPtp_loops (p : Nat) (x : PtpPort) : (c.setPtp p x).loops = c.loops := rfl
@[simp] theorem Core.setPtp_coaches (p : Nat) (x : PtpPort) : (c.setPtp p x).coaches = c.coaches := rfl
@[simp] theorem Core.setPtp_micro (p : Nat) (x : PtpPort) : (c.setPtp p x).micro = c.micro := rfl
@[simp] theorem Core.setPtp_ucode (p : Nat) (x : PtpPort) : (c.setPtp p x).ucode = c.ucode := rfl
@[simp] theorem Core.setPtp_inputs (p : Nat) (x : PtpPort) : (c.setPtp p x).inputs = c.inputs := rfl
@[simp] theorem Core.setPtp_monAt (p : Nat) (x : PtpPort) : (c.setPtp p x).monAt = c.monAt := rfl
@[simp] theorem Core.setPtp_monPrev (p : Nat) (x : PtpPort) : (c.setPtp p x).monPrev = c.monPrev := rfl
@[simp] theorem Core.setPtp_lanes (p : Nat) (x : PtpPort) : (c.setPtp p x).lanes = c.lanes := rfl
@[simp] theorem Core.setPtp_ports (p : Nat) (x : PtpPort) : (c.setPtp p x).ports = c.ports := rfl
@[simp] theorem Core.setPtp_pkt (p : Nat) (x : PtpPort) : (c.setPtp p x).pkt = c.pkt := rfl
@[simp] theorem Core.setPtp_survey (p : Nat) (x : PtpPort) : (c.setPtp p x).survey = c.survey := rfl
@[simp] theorem Core.setPtp_elsDark (p : Nat) (x : PtpPort) : (c.setPtp p x).elsDark = c.elsDark := rfl
@[simp] theorem Core.setPtp_therm (p : Nat) (x : PtpPort) : (c.setPtp p x).therm = c.therm := rfl
@[simp] theorem Core.setPtp_pwr (p : Nat) (x : PtpPort) : (c.setPtp p x).pwr = c.pwr := rfl
@[simp] theorem Core.setPtp_cal (p : Nat) (x : PtpPort) : (c.setPtp p x).cal = c.cal := rfl
@[simp] theorem Core.setPtp_test (p : Nat) (x : PtpPort) : (c.setPtp p x).test = c.test := rfl
@[simp] theorem Core.setPtp_boot (p : Nat) (x : PtpPort) : (c.setPtp p x).boot = c.boot := rfl
@[simp] theorem Core.setPtp_jtag (p : Nat) (x : PtpPort) : (c.setPtp p x).jtag = c.jtag := rfl
@[simp] theorem Core.setPtp_trav (p : Nat) (x : PtpPort) : (c.setPtp p x).trav = c.trav := rfl
@[simp] theorem Core.setPtp_col (p : Nat) (x : PtpPort) : (c.setPtp p x).col = c.col := rfl
@[simp] theorem Core.setPtp_tt (p : Nat) (x : PtpPort) : (c.setPtp p x).tt = c.tt := rfl
@[simp] theorem Core.setPtp_sup (p : Nat) (x : PtpPort) : (c.setPtp p x).sup = c.sup := rfl
@[simp] theorem Core.setPtp_faults (p : Nat) (x : PtpPort) : (c.setPtp p x).faults = c.faults := rfl
@[simp] theorem Core.setPtp_events (p : Nat) (x : PtpPort) : (c.setPtp p x).events = c.events := rfl
@[simp] theorem Core.setPtp_free (p : Nat) (x : PtpPort) : (c.setPtp p x).free = c.free := rfl
@[simp] theorem Core.setPtp_result (p : Nat) (x : PtpPort) : (c.setPtp p x).result = c.result := rfl

end Sys2Proof.Machine
end

