-- ==== Sys2Proof/Laws/Ending.lean ====
section
/-! SUPPORT. How a command ends and who may send it: what the collector and the delivery of events leave alone, and what a
command of a path does when the path is served and when it is not. -/

namespace Sys2Proof.Machine

theorem Core.collect_calm {c : Core} (h : c.faults.raised = [] ∧ c.faults.forcing = []) (k : Nat) : c.collect k = c := by
  cases k with
  | zero => rfl
  | succ k => simp [Core.collect, h]

theorem State.deliver_calm {s : State} (h : s.toCore.events = []) : s.deliver = s := by
  obtain ⟨c, _, _, _, _, _, _⟩ := s
  simp only at h
  simp only [State.deliver, h, List.foldl_nil]
  rw [← h]

/-- With no line and no event waiting, a command ends with nothing more. -/
theorem State.settle_calm {s : State} (h : s.Calm) : s.settle = s := by
  simp only [State.settle]
  rw [Core.collect_calm h.1, State.deliver_calm h.2, Core.collect_calm h.1]

/-- Dies that are held in reset take no command (R364). -/
theorem State.lift_dead {s : State} (f : Core → Core) (h : s.toCore.dead = true) : s.lift f = s := by
  simp [State.lift, h]

/-- A command on the module alone that reports no line and no event changes the module and nothing else. -/
theorem State.lift_calm {s : State} (f : Core → Core) (h : s.toCore.dead = false)
    (hr : (f s.toCore).faults.raised = [] ∧ (f s.toCore).faults.forcing = []) (he : (f s.toCore).events = []) : s.lift f = { s with toCore := f s.toCore } := by
  simp only [State.lift, h, State.pin, Bool.false_eq_true, if_false]
  exact State.settle_calm ⟨hr, he⟩

theorem State.pin_calm {s : State} (f : Core → Core)
    (hr : (f s.toCore).faults.raised = [] ∧ (f s.toCore).faults.forcing = []) (he : (f s.toCore).events = []) : s.pin f = { s with toCore := f s.toCore } :=
  State.settle_calm ⟨hr, he⟩

/-- A command of a path whose supervisor is active runs (R283). -/
theorem Core.byActive_served {c : Core} {p : Path} (f : Core → Core) (h1 : c.power ≠ psHalted) (h2 : c.rd OD.BOOT_STATE ≠ 0)
    (h3 : c.isActive p.val = true) : c.byActive p f = f (c.ends 0) := by
  simp [Core.byActive, h1, h2, h3]

/-- A command of a path that is not served changes the result and nothing else (R283, R339, R375). -/
theorem Core.byActive_refused {c : Core} {p : Path} (f : Core → Core)
    (h : c.power = psHalted ∨ c.rd OD.BOOT_STATE = 0 ∨ c.isActive p.val = false) : c.byActive p f = c.ends abRole := by
  simp only [Core.byActive, if_pos h]

/-- What a command of a served path answers when it reports no line and no event. -/
theorem State.does_served {s : State} {p : Path} (f : Core → Core) (h : s.Serves p)
    (hr : (f (s.toCore.ends 0)).faults.raised = [] ∧ (f (s.toCore.ends 0)).faults.forcing = []) (he : (f (s.toCore.ends 0)).events = []) :
    s.does (fun c => c.byActive p f) = .next { s with toCore := f (s.toCore.ends 0) } := by
  obtain ⟨⟨hd, _⟩, h1, h2, h3⟩ := h
  have e : s.toCore.byActive p f = f (s.toCore.ends 0) := Core.byActive_served f h1 h2 h3
  have l := State.lift_calm (fun c => c.byActive p f) hd (by rw [e]; exact hr) (by rw [e]; exact he)
  rw [State.does, l, e]

/-- An RW write of a served path waits for the boundary where no check refuses it, ends with the check's abort code where one
does, and does nothing else (R7, R287). -/
theorem State.does_rwWrite {s : State} {p : Path} (obj e v : Nat) (check : Core → Nat) (h : s.Serves p) :
    s.does (fun c => c.byActive p (fun c => c.rwWrite obj e v (check c))) =
      .next (if check (s.toCore.ends 0) = 0 then { s with result := 0, pend := s.pend ++ [(okey obj e, v)] }
        else { s with result := check (s.toCore.ends 0) }) := by
  have hr : (s.toCore.ends 0).rwWrite obj e v (check (s.toCore.ends 0)) = if check (s.toCore.ends 0) = 0
      then (s.toCore.ends 0).defer obj e v else s.toCore.ends (check (s.toCore.ends 0)) := by
    simp only [Core.rwWrite]; rfl
  rw [State.does_served _ h (by rw [hr]; split <;> exact h.1.2.1.1) (by rw [hr]; split <;> exact h.1.2.1.2), hr]
  split <;> rfl

end Sys2Proof.Machine
end

