-- ==== Sys2Proof/Laws/Frames.lean ====
section
/-! SUPPORT. What shared operations on the module can change, each said once: the parts of the record named in the equation, and
nothing else. -/

namespace Sys2Proof.Machine

variable (c : Core)

/-- The counters that no command feeds: their numbers alone (R378, R381). -/
theorem Core.countUnseen_eq : c.countUnseen = { c with test := { c.test with unseen := c.countUnseen.test.unseen } } := by
  simp only [Core.countUnseen]

/-- A step of the label moves what is staged: queues, and in the traverse unit its check, its guards and a release (R38, R40). -/
theorem Core.shiftStaged_eq (d : Int) : c.shiftStaged d = { c with
    chans := (c.shiftStaged d).chans
    trav := { c.trav with
      cur := (c.shiftStaged d).trav.cur, guards := (c.shiftStaged d).trav.guards, release := (c.shiftStaged d).trav.release } } := rfl

/-- The three clear-code steps of an element change its code and its queue (R194, R355). -/
theorem Core.clearSteps_eq (te : Nat) (t : Instant) : c.clearSteps te t = { c with
    regs := (c.clearSteps te t).regs, chans := (c.clearSteps te t).chans } := rfl

/-- A boot that begins changes registers and the boot's own record (R365, R375). -/
theorem Core.beginBoot_eq : c.beginBoot = { c with regs := c.beginBoot.regs, boot := c.beginBoot.boot } := by
  simp only [Core.beginBoot]; split <;> rfl

/-- A loss of VDD_AUX can change the ring of boot records, and uses up a free value (R402). -/
theorem Core.tearRecord_eq : c.tearRecord = { c with
    free := c.tearRecord.free, boot := { c.boot with ring := c.tearRecord.boot.ring } } := by
  simp only [Core.tearRecord]; split
  · split <;> rfl
  · rfl

/-- A property of both ways of a choice. -/
theorem ite_of {α : Type} {q : α → Prop} (p : Prop) [Decidable p] (x y : α) (hx : q x) (hy : q y) : q (if p then x else y) := by
  split
  · exact hx
  · exact hy

/-- A write of the boot record changes the boot's own record, and may fire source 462 (R372). -/
theorem Core.writeRecord_frame : ∃ (b : Boot) (f : FaultUnit), c.writeRecord = { c with boot := b, faults := f } :=
  ite_of (q := fun d : Core => ∃ (b : Boot) (f : FaultUnit), d = { c with boot := b, faults := f }) _ _ _ ⟨_, _, rfl⟩ ⟨_, _, rfl⟩

end Sys2Proof.Machine
end

