-- ==== Sys2Proof/Laws/Tab.lean ====
section
/-! SUPPORT. Sparse tables: what is read after a write, and that every operation keeps the canonical form. -/

namespace Sys2Proof.Machine

variable {α : Type}

/-! ### Reading after writing -/

theorem Tab.get_erase_self (t : Tab α) (k : Nat) (d : α) : Tab.get (Tab.erase t k) k d = d := by
  induction t with
  | nil => rfl
  | cons x r ih => simp only [Tab.erase]; split <;> simp_all [Tab.get]

theorem Tab.get_erase_ne (t : Tab α) {k j : Nat} (d : α) (h : j ≠ k) : Tab.get (Tab.erase t k) j d = Tab.get t j d := by
  induction t with
  | nil => rfl
  | cons x r ih =>
    simp only [Tab.erase]
    split
    · next e => rw [ih, Tab.get, if_neg (by omega)]
    · simp only [Tab.get, ih]

theorem Tab.get_insert_ne (t : Tab α) {k j : Nat} (v d : α) (h : j ≠ k) : Tab.get (Tab.insert t k v) j d = Tab.get t j d := by
  induction t with
  | nil => simp [Tab.insert, Tab.get, Ne.symm h]
  | cons x r ih =>
    simp only [Tab.insert]
    split
    · simp [Tab.get, Ne.symm h]
    · simp only [Tab.get, ih]

theorem Tab.get_insert_self (t : Tab α) (k : Nat) (v d : α) : Tab.get (Tab.insert (Tab.erase t k) k v) k d = v := by
  induction t with
  | nil => simp [Tab.erase, Tab.insert, Tab.get]
  | cons x r ih =>
    simp only [Tab.erase]
    split
    · exact ih
    · next h => simp only [Tab.insert]; split <;> simp [Tab.get, h, ih]

/-- A value written is the value read. -/
@[simp] theorem Tab.get_put_self [DecidableEq α] (t : Tab α) (k : Nat) (v d : α) : Tab.get (Tab.put t k v d) k d = v := by
  simp only [Tab.put]
  split
  · next h => rw [Tab.get_erase_self, h]
  · exact Tab.get_insert_self t k v d

/-- A write leaves every other key alone. -/
theorem Tab.get_put_ne [DecidableEq α] (t : Tab α) {k j : Nat} (v d e : α) (h : j ≠ k) :
    Tab.get (Tab.put t k v d) j e = Tab.get t j e := by
  simp only [Tab.put]
  split
  · exact Tab.get_erase_ne t e h
  · rw [Tab.get_insert_ne _ v e h, Tab.get_erase_ne t e h]

theorem Tab.erase_insert_self (t : Tab α) (k : Nat) (v : α) : Tab.erase (Tab.insert t k v) k = Tab.erase t k := by
  induction t with
  | nil => simp [Tab.insert, Tab.erase]
  | cons p r ih =>
    simp only [Tab.insert]
    split
    · simp [Tab.erase]
    · simp [Tab.erase, ih]

theorem Tab.erase_erase (t : Tab α) (k : Nat) : Tab.erase (Tab.erase t k) k = Tab.erase t k := by
  induction t with
  | nil => rfl
  | cons p r ih =>
    simp only [Tab.erase]
    split
    · exact ih
    · next h => simp [Tab.erase, h, ih]

/-- The last write of a key counts. -/
@[simp] theorem Tab.put_put [DecidableEq α] (t : Tab α) (k : Nat) (v w d : α) :
    Tab.put (Tab.put t k v d) k w d = Tab.put t k w d := by
  have e : Tab.erase (Tab.put t k v d) k = Tab.erase t k := by
    unfold Tab.put; split
    · exact Tab.erase_erase t k
    · rw [Tab.erase_insert_self, Tab.erase_erase]
  rw [Tab.put, e]; rfl

@[simp] theorem Tab.get_set_self (t : Tab α) (k : Nat) (v d : α) : Tab.get (Tab.set t k v) k d = v :=
  Tab.get_insert_self t k v d

theorem Tab.get_set_ne (t : Tab α) {k j : Nat} (v d : α) (h : j ≠ k) : Tab.get (Tab.set t k v) j d = Tab.get t j d := by
  rw [Tab.set, Tab.get_insert_ne _ v d h, Tab.get_erase_ne t d h]

theorem Tab.find?_eq_get (t : Tab α) (k : Nat) : Tab.find? t k = Tab.get (t.map (fun p => (p.1, some p.2))) k none := by
  induction t with
  | nil => rfl
  | cons x r ih => simp only [Tab.find?, Tab.get, List.map_cons, ih]

theorem Tab.find?_erase_self (t : Tab α) (k : Nat) : Tab.find? (Tab.erase t k) k = none := by
  induction t with
  | nil => rfl
  | cons x r ih => simp only [Tab.erase]; split <;> simp_all [Tab.find?]

theorem Tab.find?_erase_ne (t : Tab α) {k j : Nat} (h : j ≠ k) : Tab.find? (Tab.erase t k) j = Tab.find? t j := by
  induction t with
  | nil => rfl
  | cons x r ih =>
    simp only [Tab.erase]
    split
    · next e => rw [ih, Tab.find?, if_neg (by omega)]
    · simp only [Tab.find?, ih]

@[simp] theorem Tab.find?_set_self (t : Tab α) (k : Nat) (v : α) : Tab.find? (Tab.set t k v) k = some v := by
  simp only [Tab.set]
  induction t with
  | nil => simp [Tab.erase, Tab.insert, Tab.find?]
  | cons x r ih =>
    simp only [Tab.erase]
    split
    · exact ih
    · next h => simp only [Tab.insert]; split <;> simp [Tab.find?, h, ih]

theorem Tab.find?_insert_ne (t : Tab α) {k j : Nat} (v : α) (h : j ≠ k) : Tab.find? (Tab.insert t k v) j = Tab.find? t j := by
  induction t with
  | nil => simp [Tab.insert, Tab.find?, Ne.symm h]
  | cons x r ih =>
    simp only [Tab.insert]
    split
    · simp [Tab.find?, Ne.symm h]
    · simp only [Tab.find?, ih]

theorem Tab.find?_set_ne (t : Tab α) {k j : Nat} (v : α) (h : j ≠ k) : Tab.find? (Tab.set t k v) j = Tab.find? t j := by
  rw [Tab.set, Tab.find?_insert_ne _ v h, Tab.find?_erase_ne t h]

/-! ### The canonical form -/

theorem Tab.risingFrom_mono {t : Tab α} {a b : Nat} (h : a ≤ b) (w : Tab.risingFrom b t = true) : Tab.risingFrom a t = true := by
  cases t with
  | nil => rfl
  | cons x r =>
    simp only [Tab.risingFrom, Bool.and_eq_true, decide_eq_true_eq] at w ⊢
    exact ⟨by omega, w.2⟩

theorem Tab.risingFrom_erase {t : Tab α} {b k : Nat} (w : Tab.risingFrom b t = true) : Tab.risingFrom b (Tab.erase t k) = true := by
  induction t generalizing b with
  | nil => rfl
  | cons x r ih =>
    simp only [Tab.risingFrom, Bool.and_eq_true, decide_eq_true_eq] at w
    simp only [Tab.erase]
    split
    · exact Tab.risingFrom_mono (by omega) (ih w.2)
    · simp only [Tab.risingFrom, Bool.and_eq_true, decide_eq_true_eq]
      exact ⟨w.1, ih w.2⟩

theorem Tab.risingFrom_insert {t : Tab α} {b k : Nat} {v : α} (hb : b ≤ k) (hk : ∀ p ∈ t, p.1 ≠ k)
    (w : Tab.risingFrom b t = true) : Tab.risingFrom b (Tab.insert t k v) = true := by
  induction t generalizing b with
  | nil => simp [Tab.insert, Tab.risingFrom, hb]
  | cons x r ih =>
    simp only [Tab.risingFrom, Bool.and_eq_true, decide_eq_true_eq] at w
    have hx := hk x (by simp)
    simp only [Tab.insert]
    split
    · next h =>
      simp only [Tab.risingFrom, Bool.and_eq_true, decide_eq_true_eq]
      exact ⟨hb, by omega, w.2⟩
    · simp only [Tab.risingFrom, Bool.and_eq_true, decide_eq_true_eq]
      exact ⟨w.1, ih (by omega) (fun p hp => hk p (by simp [hp])) w.2⟩

theorem Tab.not_mem_erase (t : Tab α) (k : Nat) : ∀ p ∈ Tab.erase t k, p.1 ≠ k := by
  induction t with
  | nil => simp [Tab.erase]
  | cons x r ih =>
    simp only [Tab.erase]
    split
    · exact ih
    · next h =>
      intro p hp
      rcases List.mem_cons.1 hp with rfl | hp
      · exact h
      · exact ih p hp

theorem Tab.mem_erase {t : Tab α} {k : Nat} {p : Nat × α} (h : p ∈ Tab.erase t k) : p ∈ t := by
  induction t with
  | nil => simp [Tab.erase] at h
  | cons x r ih =>
    simp only [Tab.erase] at h
    split at h
    · exact List.mem_cons_of_mem _ (ih h)
    · rcases List.mem_cons.1 h with rfl | h
      · exact List.mem_cons_self
      · exact List.mem_cons_of_mem _ (ih h)

theorem Tab.mem_insert {t : Tab α} {k : Nat} {v : α} {p : Nat × α} (h : p ∈ Tab.insert t k v) : p = (k, v) ∨ p ∈ t := by
  induction t with
  | nil => simpa [Tab.insert] using h
  | cons x r ih =>
    simp only [Tab.insert] at h
    split at h
    · simpa using h
    · rcases List.mem_cons.1 h with rfl | h
      · simp
      · rcases ih h with h | h <;> simp [h]

/-- A write keeps the canonical form: keys rise, and no entry equals what its unlisted key reads as. -/
theorem Tab.wf_put [DecidableEq α] {d : Nat → α} {t : Tab α} (k : Nat) (v : α) (w : Tab.wf d t = true) :
    Tab.wf d (Tab.put t k v (d k)) = true := by
  simp only [Tab.wf, Bool.and_eq_true, List.all_eq_true, decide_eq_true_eq] at w ⊢
  simp only [Tab.put]
  split
  · exact ⟨Tab.risingFrom_erase w.1, fun p hp => w.2 p (Tab.mem_erase hp)⟩
  · next hv =>
    refine ⟨Tab.risingFrom_insert (Nat.zero_le _) (Tab.not_mem_erase t k) (Tab.risingFrom_erase w.1), ?_⟩
    intro p hp
    rcases Tab.mem_insert hp with rfl | hp
    · exact hv
    · exact w.2 p (Tab.mem_erase hp)

theorem storePut_wf {t : Tab Nat} (k v : Nat) (w : Tab.wf dfltOf t = true) : Tab.wf dfltOf (storePut t k v) = true :=
  Tab.wf_put k v w

/-! ### The register file -/

@[simp] theorem storeGet_storePut_self (t : Tab Nat) (k v : Nat) : storeGet (storePut t k v) k = v := Tab.get_put_self ..

theorem storeGet_storePut_ne (t : Tab Nat) {k j : Nat} (v : Nat) (h : j ≠ k) : storeGet (storePut t k v) j = storeGet t j :=
  Tab.get_put_ne t v _ _ h

/-- The value written to an element is the value read. -/
@[simp] theorem Core.rd_wr_self (c : Core) (o e v : Nat) : (c.wr o e v).rd o e = v := storeGet_storePut_self ..

/-- A write of one element leaves every other element alone. -/
theorem Core.rd_wr_ne (c : Core) {o e p f : Nat} (v : Nat) (h : okey p f ≠ okey o e) : (c.wr o e v).rd p f = c.rd p f :=
  storeGet_storePut_ne _ _ h

@[simp] theorem Core.rdS_wrS_self (c : Core) (o e v : Nat) : (c.wrS o e v).rdS o e = v := storeGet_storePut_self ..

theorem Core.rdS_wrS_ne (c : Core) {o e p f : Nat} (v : Nat) (h : okey p f ≠ okey o e) : (c.wrS o e v).rdS p f = c.rdS p f :=
  storeGet_storePut_ne _ _ h

end Sys2Proof.Machine
end

