-- ==== Sys2Proof/Laws/Motin.lean ====
section
/-! SUPPORT. What the Motin engine's shared operations can do: sending and answering, taking a request, and the writes that
wait for a reply. -/

namespace Sys2Proof.Machine

/-- Sending leaves the module itself alone. -/
@[simp] theorem State.send_toCore (s : State) (p : Nat) (a : NetAddr) (k ty id r : Nat) (b : List Byte) :
    (s.send p a k ty id r b).toCore = s.toCore := rfl

/-- Answering leaves the module itself alone (R277, R285). -/
@[simp] theorem State.answer_toCore (s : State) (p : Nat) (r : Request) (c : Nat) (b : List Byte) :
    (s.answer p r c b).toCore = s.toCore := rfl

@[simp] theorem State.answer_pending (s : State) (p : Nat) (r : Request) (c : Nat) (b : List Byte) :
    (s.answer p r c b).pending = s.pending := rfl

@[simp] theorem State.answer_keyWrites (s : State) (p : Nat) (r : Request) (c : Nat) (b : List Byte) :
    (s.answer p r c b).motin.keyWrites = s.motin.keyWrites := by
  unfold State.answer State.send; dsimp only; split <;> rfl

@[simp] theorem State.answer_addrWrites (s : State) (p : Nat) (r : Request) (c : Nat) (b : List Byte) :
    (s.answer p r c b).motin.addrWrites = s.motin.addrWrites := by
  unfold State.answer State.send; dsimp only; split <;> rfl

/-- A message sent is the newest of the outbox, under the number after the last one of its key slot (R281). -/
theorem Motin.send_outbox (m : Motin) (p : Nat) (a : NetAddr) (k ty id r : Nat) (b : List Byte) :
    (m.send p a k ty id r b).outbox = ⟨p, a, k, Tab.get m.seqOut k 0 + 1,
      message (m.key k) ty k (Tab.get m.seqOut k 0 + 1) id r b⟩ :: m.outbox := rfl

/-- Sending moves the last number of its key slot up by one and leaves the other slots' numbers (R281). -/
theorem Motin.send_seqOut (m : Motin) (p : Nat) (a : NetAddr) (k ty id r : Nat) (b : List Byte) (j : Nat) :
    Tab.get (m.send p a k ty id r b).seqOut j 0 = if j = k then Tab.get m.seqOut k 0 + 1 else Tab.get m.seqOut j 0 := by
  simp only [Motin.send]
  split
  · next h => subst h; exact Tab.get_put_self _ _ _ _
  · next h => exact Tab.get_put_ne _ _ _ _ h

/-- Where no key and no address waits for its reply, the end of a reply changes nothing (R282, R311). -/
theorem State.afterReply_nil {s : State} (h1 : s.motin.keyWrites = []) (h2 : s.motin.addrWrites = []) : s.afterReply = s := by
  have e : ({ s.motin with keyWrites := [], addrWrites := [] } : Motin) = s.motin := by
    cases hm : s.motin; simp_all
  simp only [State.afterReply, h1, h2, List.foldl_nil]
  rw [e]

/-- What a command of a TYPE does when the engine takes a request of it whose sender may send it: it handles the request on
the state without it, and the collector samples the lines (R283, R284). -/
theorem State.serves_takes {s : State} {p : Path} {r : Request} {rest : List Request} {type : Nat} {h : Request → State → State}
    (t : s.Takes p r rest) (e : r.type = type) (ha : activeOnly type = true → s.toCore.fromActive p.val r = true)
    (k1 : (h r (s.taken p rest)).motin.keyWrites = []) (k2 : (h r (s.taken p rest)).motin.addrWrites = []) :
    s.serves p.val type h = .next (State.settle (h r (s.taken p rest))) := by
  obtain ⟨hl, hq, ht, hb, hs, hn, _, _⟩ := t
  have hn : (s.motin.take p.val rest).repeats p.val r = none := hn
  simp only [State.serves, State.serve, hl.1, hq, e, ht, hb]
  have : (activeOnly type && !s.toCore.fromActive p.val r) = false := by
    cases x : activeOnly type
    · rfl
    · simp [ha x]
  simp only [ne_eq, not_true_eq_false, Bool.true_eq_false, or_self, if_false, this, hs, Bool.false_eq_true, hn]
  rw [State.afterReply_nil k1 k2]

/-- The same where handling it reports no line and no event. -/
theorem State.serves_takes_calm {s : State} {p : Path} {r : Request} {rest : List Request} {type : Nat}
    {h : Request → State → State} (t : s.Takes p r rest) (e : r.type = type)
    (ha : activeOnly type = true → s.toCore.fromActive p.val r = true) (v : State) (hv : h r (s.taken p rest) = v)
    (k1 : v.motin.keyWrites = []) (k2 : v.motin.addrWrites = []) (k3 : v.Calm) :
    s.serves p.val type h = .next v := by
  rw [State.serves_takes t e ha (hv ▸ k1) (hv ▸ k2), hv, State.settle_calm k3]

end Sys2Proof.Machine
end

