-- ==== Sys2Proof/Laws/PerInstr.lean ====
section
/-! SUPPORT. A statement about every command, as syntax: the units it names exist. -/

namespace Sys2Proof.Laws.Units

/-- The numbers of units that a command names, and the position in the frame it carries, each with the number of such units
(R6, R8). -/
def named : Instr → List (Nat × Nat)
  | .frameBoundary => []
  | .caboose coach _ => [(coach.val, 36)]
  | .cabooseOverrun coach learned => [(coach.val, 36), (learned.val, 257)]
  | .loopSlot te => [(te.val, 9216)]
  | .slotOverrun coach => [(coach.val, 36)]
  | .endLoop coach => [(coach.val, 36)]
  | .ldm coach => [(coach.val, 36)]
  | .nrm coach => [(coach.val, 36)]
  | .phs coach => [(coach.val, 36)]
  | .err coach => [(coach.val, 36)]
  | .biq coach => [(coach.val, 36)]
  | .sat coach => [(coach.val, 36)]
  | .ffw coach => [(coach.val, 36)]
  | .prf coach => [(coach.val, 36)]
  | .fel coach => [(coach.val, 36)]
  | .dth coach => [(coach.val, 36)]
  | .cst coach => [(coach.val, 36)]
  | .drv coach => [(coach.val, 36)]
  | .jmp coach => [(coach.val, 36)]
  | .loopLock te => [(te.val, 9216)]
  | .acquireTimeout te => [(te.val, 9216)]
  | .followingErrorTrip te => [(te.val, 9216)]
  | .coastExpiry te => [(te.val, 9216)]
  | .loopSaturationTimeout te => [(te.val, 9216)]
  | .unobservableTimeout te => [(te.val, 9216)]
  | .litStateChange input => [(input.val, 512)]
  | .monitorResult channel _ => [(channel.val, 9880)]
  | .monitorResultMissing channel => [(channel.val, 9880)]
  | .linkSamplesMissing link => [(link.val, 4)]
  | .stagingEntry die _ => [(die.val, 4)]
  | .deglitchLoad te => [(te.val, 9216)]
  | .codeApply te => [(te.val, 9216)]
  | .linkFlitReplay link => [(link.val, 4)]
  | .linkDown link => [(link.val, 4)]
  | .linkReturn link lanes _ => [(link.val, 4), (lanes.val, 5)]
  | .linkRestoreSnap link => [(link.val, 4)]
  | .ptpSync path at_ _ _ => [(path.val, 2), (at_, frameNs)]
  | .ptpAnnounce path _ _ => [(path.val, 2)]
  | .ptpDelayResp path _ _ => [(path.val, 2)]
  | .ptpDelayReqSend path => [(path.val, 2)]
  | .ptpPdelayReq path at_ => [(path.val, 2), (at_, frameNs)]
  | .ptpPdelayResp path at_ _ _ _ => [(path.val, 2), (at_, frameNs)]
  | .ptpUnsupportedMessage path => [(path.val, 2)]
  | .ppsInEdge _ at_ => [(at_, frameNs)]
  | .ppsOutRise => []
  | .ppsOutFall => []
  | .lossTimeout => []
  | .slewEnd => []
  | .timeStep => []
  | .timeSet path _ => [(path.val, 2)]
  | .stepAccept path _ => [(path.val, 2)]
  | .timeSourceWrite path _ => [(path.val, 2)]
  | .motinDatagram path at_ _ _ => [(path.val, 2), (at_, frameNs)]
  | .read path => [(path.val, 2)]
  | .write path => [(path.val, 2)]
  | .readTable path => [(path.val, 2)]
  | .writeTable path => [(path.val, 2)]
  | .commit path => [(path.val, 2)]
  | .snap path => [(path.val, 2)]
  | .heartbeat path => [(path.val, 2)]
  | .stateDigest path => [(path.val, 2)]
  | .export_ path => [(path.val, 2)]
  | .takeover path => [(path.val, 2)]
  | .subscribe path => [(path.val, 2)]
  | .abort path => [(path.val, 2)]
  | .subscriptionLapse subscriber => [(subscriber.val, 8)]
  | .replyCacheExpire path => [(path.val, 2)]
  | .keyWrite path slot _ => [(path.val, 2), (slot.val, 4)]
  | .mgtAddressWrite path port _ _ => [(path.val, 2), (port.val, 2)]
  | .registerWrite path _ _ _ => [(path.val, 2)]
  | .rawWindowWrite path _ _ => [(path.val, 2)]
  | .rawLocateWrite path _ => [(path.val, 2)]
  | .holdClear path _ => [(path.val, 2)]
  | .ucodeImageWrite path _ _ => [(path.val, 2)]
  | .loadVerify path => [(path.val, 2)]
  | .loadVerifyArm path => [(path.val, 2)]
  | .loadAbandon path => [(path.val, 2)]
  | .ucodeVerifyEnd => []
  | .activateAtWrite path _ => [(path.val, 2)]
  | .ownerKeyWrite path _ => [(path.val, 2)]
  | .ownerKeyClear path _ => [(path.val, 2)]
  | .ceilingWrite path te _ => [(path.val, 2), (te.val, 9216)]
  | .clearCodeWrite path te _ => [(path.val, 2), (te.val, 9216)]
  | .clearNAssert _ => []
  | .clearNRelease => []
  | .hvOvervoltage _ => []
  | .elsLightLoss fiber => [(fiber.val, 8)]
  | .surveyScan => []
  | .surveyConversionDone converter _ _ _ => [(converter.val, 9)]
  | .surveyConversionStart converter at_ => [(converter.val, 9), (at_, frameNs)]
  | .surveyTrigEdge _ at_ => [(at_, frameNs)]
  | .seqStart path seq _ => [(path.val, 2), (seq.val, 4)]
  | .seqEnableWrite path seq _ => [(path.val, 2), (seq.val, 4)]
  | .injectRequest path _ => [(path.val, 2)]
  | .fringeCalCmd path _ => [(path.val, 2)]
  | .fringeCalEnd _ unreached => [(unreached.val, 4353)]
  | .calRequest path _ => [(path.val, 2)]
  | .trimStart te bin => [(te.val, 9216), (bin.val, 256)]
  | .trimRunEnd te bin pair run => [(te.val, 9216), (bin.val, 256), (pair.val, 3), (run.val, 2)]
  | .monSweepStart => []
  | .tenderOverlapStart group channel => [(group.val, 152), (channel.val, 64)]
  | .tenderRunEnd group run => [(group.val, 152), (run.val, 2)]
  | .surveyCalStart converter => [(converter.val, 8)]
  | .surveyCalEnd converter run => [(converter.val, 8), (run.val, 2)]
  | .calNotCurrent te => [(te.val, 9216)]
  | .mapEntryWrite path output _ => [(path.val, 2), (output.val, 512)]
  | .solveCmd path _ => [(path.val, 2)]
  | .colSolveEnd => []
  | .slotWrite path _ _ _ => [(path.val, 2)]
  | .slotVerify path slot => [(path.val, 2), (slot.val, 64)]
  | .slotLoad path slot => [(path.val, 2), (slot.val, 64)]
  | .slotSave path slot => [(path.val, 2), (slot.val, 64)]
  | .slotErase path slot => [(path.val, 2), (slot.val, 64)]
  | .commitCancel path _ => [(path.val, 2)]
  | .glideRampDownStart output => [(output.val, 512)]
  | .traverseBegin => []
  | .copyBackDone => []
  | .retiredSetRelease => []
  | .guardOpen => []
  | .guardMinEnd => []
  | .guardRelockTimeout => []
  | .ttArm path => [(path.val, 2)]
  | .ttStop path => [(path.val, 2)]
  | .ttReplace path => [(path.val, 2)]
  | .ttResume path => [(path.val, 2)]
  | .ttTrace path => [(path.val, 2)]
  | .portConfigWrite path port _ => [(path.val, 2), (port.val, 128)]
  | .laneLock lane at_ => [(lane.val, 128), (at_, frameNs)]
  | .laneLockLoss lane => [(lane.val, 128)]
  | .upHoldExpire port => [(port.val, 128)]
  | .packetReceive port at_ _ => [(port.val, 128), (at_, frameNs)]
  | .packetPass port => [(port.val, 128)]
  | .packetSecondPass pipe => [(pipe.val, 4)]
  | .egressSchedule port at_ => [(port.val, 128), (at_, frameNs)]
  | .frameTxComplete port at_ => [(port.val, 128), (at_, frameNs)]
  | .refillEpoch epoch => [(epoch.val, 49)]
  | .gateEntryChange port at_ => [(port.val, 128), (at_, frameNs)]
  | .portDownFlush port => [(port.val, 128)]
  | .queueConfigWrite path queue _ => [(path.val, 2), (queue.val, 262144)]
  | .classInsert path => [(path.val, 2)]
  | .classDelete path => [(path.val, 2)]
  | .classLookupShadow path => [(path.val, 2)]
  | .classLookupActive path => [(path.val, 2)]
  | .classClear path => [(path.val, 2)]
  | .classTableWrite path position _ => [(path.val, 2), (position.val, 263168)]
  | .flowClear path context => [(path.val, 2), (context.val, 262144)]
  | .flowClearAll path => [(path.val, 2)]
  | .bwWindowEnd at_ => [(at_, frameNs)]
  | .bwPeakClear path _ => [(path.val, 2)]
  | .faultSourceFire _ => []
  | .clearSource path _ => [(path.val, 2)]
  | .firstClear path _ => [(path.val, 2)]
  | .pinRearm path _ => [(path.val, 2)]
  | .faultPulseEnd => []
  | .sourceConfigWrite path source _ => [(path.val, 2), (source.val, 512)]
  | .eccInject path _ => [(path.val, 2)]
  | .throttleStep => []
  | .stagedReleaseSteps => []
  | .zoneOverrideWrite path zone _ => [(path.val, 2), (zone.val, 8)]
  | .powerCmdRun path => [(path.val, 2)]
  | .powerCmdQuiet path => [(path.val, 2)]
  | .powerCmdDormant path => [(path.val, 2)]
  | .powerChangeComplete => []
  | .rateGraceEnd path => [(path.val, 2)]
  | .mgtLinkChange path _ => [(path.val, 2)]
  | .heartbeatTimeout path => [(path.val, 2)]
  | .digestFailureDeclare => []
  | .roleChange => []
  | .takeoverDecision => []
  | .powerOn _ => []
  | .resetN _ => []
  | .powerFail _ => []
  | .restartWarm path => [(path.val, 2)]
  | .restartCold path => [(path.val, 2)]
  | .bootStepEnd _ => []
  | .bootTimeWaitExpire => []
  | .laneRetrain path lane _ => [(path.val, 2), (lane.val, 128)]
  | .snapshotCopyDone => []
  | .wrapClear path _ => [(path.val, 2)]
  | .perfConfigWrite path counter _ => [(path.val, 2), (counter.val, 64)]
  | .testConfigWrite path point _ => [(path.val, 2), (point.val, 146)]
  | .testInject path _ => [(path.val, 2)]
  | .testClear path _ => [(path.val, 2)]
  | .proveStart path _ => [(path.val, 2)]
  | .proveStop path _ => [(path.val, 2)]
  | .proveTimeExpire => []
  | .checkerLock point _ at_ => [(point.val, 146), (at_, frameNs)]
  | .checkerLockLoss point _ _ => [(point.val, 146)]
  | .elsLightReturn fiber => [(fiber.val, 8)]
  | .resetNRelease _ => []
  | .vddAuxLoss => []
  | .tckEdge _ _ _ _ _ => []

/-- Every unit that a well-formed command names exists (R6). -/
def Statement (i : Instr) : Prop := i.wf = true → ∀ q ∈ named i, q.1 < q.2

theorem nil : ∀ q ∈ ([] : List (Nat × Nat)), q.1 < q.2 := fun _ h => nomatch h

theorem cons {a b : Nat} {l : List (Nat × Nat)} (h : a < b) (t : ∀ q ∈ l, q.1 < q.2) : ∀ q ∈ (a, b) :: l, q.1 < q.2 :=
  List.forall_mem_cons.2 ⟨h, t⟩

theorem frameBoundary : Statement (.frameBoundary) :=
  fun _ => nil
theorem caboose (coach : Coach) (cycles : Nat) : Statement (.caboose coach cycles) :=
  fun _ => cons coach.isLt nil
theorem cabooseOverrun (coach : Coach) (learned : Fin 257) : Statement (.cabooseOverrun coach learned) :=
  fun _ => cons coach.isLt (cons learned.isLt nil)
theorem loopSlot (te : Te) : Statement (.loopSlot te) :=
  fun _ => cons te.isLt nil
theorem slotOverrun (coach : Coach) : Statement (.slotOverrun coach) :=
  fun _ => cons coach.isLt nil
theorem endLoop (coach : Coach) : Statement (.endLoop coach) :=
  fun _ => cons coach.isLt nil
theorem ldm (coach : Coach) : Statement (.ldm coach) :=
  fun _ => cons coach.isLt nil
theorem nrm (coach : Coach) : Statement (.nrm coach) :=
  fun _ => cons coach.isLt nil
theorem phs (coach : Coach) : Statement (.phs coach) :=
  fun _ => cons coach.isLt nil
theorem err (coach : Coach) : Statement (.err coach) :=
  fun _ => cons coach.isLt nil
theorem biq (coach : Coach) : Statement (.biq coach) :=
  fun _ => cons coach.isLt nil
theorem sat (coach : Coach) : Statement (.sat coach) :=
  fun _ => cons coach.isLt nil
theorem ffw (coach : Coach) : Statement (.ffw coach) :=
  fun _ => cons coach.isLt nil
theorem prf (coach : Coach) : Statement (.prf coach) :=
  fun _ => cons coach.isLt nil
theorem fel (coach : Coach) : Statement (.fel coach) :=
  fun _ => cons coach.isLt nil
theorem dth (coach : Coach) : Statement (.dth coach) :=
  fun _ => cons coach.isLt nil
theorem cst (coach : Coach) : Statement (.cst coach) :=
  fun _ => cons coach.isLt nil
theorem drv (coach : Coach) : Statement (.drv coach) :=
  fun _ => cons coach.isLt nil
theorem jmp (coach : Coach) : Statement (.jmp coach) :=
  fun _ => cons coach.isLt nil
theorem loopLock (te : Te) : Statement (.loopLock te) :=
  fun _ => cons te.isLt nil
theorem acquireTimeout (te : Te) : Statement (.acquireTimeout te) :=
  fun _ => cons te.isLt nil
theorem followingErrorTrip (te : Te) : Statement (.followingErrorTrip te) :=
  fun _ => cons te.isLt nil
theorem coastExpiry (te : Te) : Statement (.coastExpiry te) :=
  fun _ => cons te.isLt nil
theorem loopSaturationTimeout (te : Te) : Statement (.loopSaturationTimeout te) :=
  fun _ => cons te.isLt nil
theorem unobservableTimeout (te : Te) : Statement (.unobservableTimeout te) :=
  fun _ => cons te.isLt nil
theorem litStateChange (input : Fin 512) : Statement (.litStateChange input) :=
  fun _ => cons input.isLt nil
theorem monitorResult (channel : Fin 9880) (word : BitVec 32) : Statement (.monitorResult channel word) :=
  fun _ => cons channel.isLt nil
theorem monitorResultMissing (channel : Fin 9880) : Statement (.monitorResultMissing channel) :=
  fun _ => cons channel.isLt nil
theorem linkSamplesMissing (link : Die) : Statement (.linkSamplesMissing link) :=
  fun _ => cons link.isLt nil
theorem stagingEntry (die : Die) (entry : BitVec 64) : Statement (.stagingEntry die entry) :=
  fun _ => cons die.isLt nil
theorem deglitchLoad (te : Te) : Statement (.deglitchLoad te) :=
  fun _ => cons te.isLt nil
theorem codeApply (te : Te) : Statement (.codeApply te) :=
  fun _ => cons te.isLt nil
theorem linkFlitReplay (link : Die) : Statement (.linkFlitReplay link) :=
  fun _ => cons link.isLt nil
theorem linkDown (link : Die) : Statement (.linkDown link) :=
  fun _ => cons link.isLt nil
theorem linkReturn (link : Die) (lanes : Fin 5) (half : Bool) : Statement (.linkReturn link lanes half) :=
  fun _ => cons link.isLt (cons lanes.isLt nil)
theorem linkRestoreSnap (link : Die) : Statement (.linkRestoreSnap link) :=
  fun _ => cons link.isLt nil
theorem ptpSync (path : Path) (at_ : Nat) (origin : Instant) (correction : Offset) : Statement (.ptpSync path at_ origin correction) :=
  fun h => cons path.isLt (cons (of_decide_eq_true h) nil)
theorem ptpAnnounce (path : Path) (dataset : PtpDataset) (utcOffset : BitVec 16) : Statement (.ptpAnnounce path dataset utcOffset) :=
  fun _ => cons path.isLt nil
theorem ptpDelayResp (path : Path) (received : Instant) (correction : Offset) : Statement (.ptpDelayResp path received correction) :=
  fun _ => cons path.isLt nil
theorem ptpDelayReqSend (path : Path) : Statement (.ptpDelayReqSend path) :=
  fun _ => cons path.isLt nil
theorem ptpPdelayReq (path : Path) (at_ : Nat) : Statement (.ptpPdelayReq path at_) :=
  fun h => cons path.isLt (cons (of_decide_eq_true h) nil)
theorem ptpPdelayResp (path : Path) (at_ : Nat) (received : Instant) (sent : Instant) (correction : Offset) : Statement (.ptpPdelayResp path at_ received sent correction) :=
  fun h => cons path.isLt (cons (of_decide_eq_true h) nil)
theorem ptpUnsupportedMessage (path : Path) : Statement (.ptpUnsupportedMessage path) :=
  fun _ => cons path.isLt nil
theorem ppsInEdge (rising : Bool) (at_ : Nat) : Statement (.ppsInEdge rising at_) :=
  fun h => cons (of_decide_eq_true h) nil
theorem ppsOutRise : Statement (.ppsOutRise) :=
  fun _ => nil
theorem ppsOutFall : Statement (.ppsOutFall) :=
  fun _ => nil
theorem lossTimeout : Statement (.lossTimeout) :=
  fun _ => nil
theorem slewEnd : Statement (.slewEnd) :=
  fun _ => nil
theorem timeStep : Statement (.timeStep) :=
  fun _ => nil
theorem timeSet (path : Path) (value : BitVec 112) : Statement (.timeSet path value) :=
  fun _ => cons path.isLt nil
theorem stepAccept (path : Path) (value : BitVec 8) : Statement (.stepAccept path value) :=
  fun _ => cons path.isLt nil
theorem timeSourceWrite (path : Path) (value : BitVec 8) : Statement (.timeSourceWrite path value) :=
  fun _ => cons path.isLt nil
theorem motinDatagram (path : Path) (at_ : Nat) (source : NetAddr) (bytes : List Byte) : Statement (.motinDatagram path at_ source bytes) :=
  fun h => cons path.isLt (cons ((of_decide_eq_true h).1) nil)
theorem read (path : Path) : Statement (.read path) :=
  fun _ => cons path.isLt nil
theorem write (path : Path) : Statement (.write path) :=
  fun _ => cons path.isLt nil
theorem readTable (path : Path) : Statement (.readTable path) :=
  fun _ => cons path.isLt nil
theorem writeTable (path : Path) : Statement (.writeTable path) :=
  fun _ => cons path.isLt nil
theorem commit (path : Path) : Statement (.commit path) :=
  fun _ => cons path.isLt nil
theorem snap (path : Path) : Statement (.snap path) :=
  fun _ => cons path.isLt nil
theorem heartbeat (path : Path) : Statement (.heartbeat path) :=
  fun _ => cons path.isLt nil
theorem stateDigest (path : Path) : Statement (.stateDigest path) :=
  fun _ => cons path.isLt nil
theorem export_ (path : Path) : Statement (.export_ path) :=
  fun _ => cons path.isLt nil
theorem takeover (path : Path) : Statement (.takeover path) :=
  fun _ => cons path.isLt nil
theorem subscribe (path : Path) : Statement (.subscribe path) :=
  fun _ => cons path.isLt nil
theorem abort (path : Path) : Statement (.abort path) :=
  fun _ => cons path.isLt nil
theorem subscriptionLapse (subscriber : Fin 8) : Statement (.subscriptionLapse subscriber) :=
  fun _ => cons subscriber.isLt nil
theorem replyCacheExpire (path : Path) : Statement (.replyCacheExpire path) :=
  fun _ => cons path.isLt nil
theorem keyWrite (path : Path) (slot : Fin 4) (value : BitVec 256) : Statement (.keyWrite path slot value) :=
  fun _ => cons path.isLt (cons slot.isLt nil)
theorem mgtAddressWrite (path : Path) (port : Path) (sub : Nat) (value : Nat) : Statement (.mgtAddressWrite path port sub value) :=
  fun _ => cons path.isLt (cons port.isLt nil)
theorem registerWrite (path : Path) (object : Nat) (element : Nat) (value : Nat) : Statement (.registerWrite path object element value) :=
  fun _ => cons path.isLt nil
theorem rawWindowWrite (path : Path) (address : BitVec 32) (word : BitVec 32) : Statement (.rawWindowWrite path address word) :=
  fun _ => cons path.isLt nil
theorem rawLocateWrite (path : Path) (value : BitVec 32) : Statement (.rawLocateWrite path value) :=
  fun _ => cons path.isLt nil
theorem holdClear (path : Path) (value : BitVec 16) : Statement (.holdClear path value) :=
  fun _ => cons path.isLt nil
theorem ucodeImageWrite (path : Path) (element : Nat) (word : BitVec 32) : Statement (.ucodeImageWrite path element word) :=
  fun _ => cons path.isLt nil
theorem loadVerify (path : Path) : Statement (.loadVerify path) :=
  fun _ => cons path.isLt nil
theorem loadVerifyArm (path : Path) : Statement (.loadVerifyArm path) :=
  fun _ => cons path.isLt nil
theorem loadAbandon (path : Path) : Statement (.loadAbandon path) :=
  fun _ => cons path.isLt nil
theorem ucodeVerifyEnd : Statement (.ucodeVerifyEnd) :=
  fun _ => nil
theorem activateAtWrite (path : Path) (value : BitVec 112) : Statement (.activateAtWrite path value) :=
  fun _ => cons path.isLt nil
theorem ownerKeyWrite (path : Path) (value : BitVec 512) : Statement (.ownerKeyWrite path value) :=
  fun _ => cons path.isLt nil
theorem ownerKeyClear (path : Path) (value : BitVec 8) : Statement (.ownerKeyClear path value) :=
  fun _ => cons path.isLt nil
theorem ceilingWrite (path : Path) (te : Te) (value : BitVec 32) : Statement (.ceilingWrite path te value) :=
  fun _ => cons path.isLt (cons te.isLt nil)
theorem clearCodeWrite (path : Path) (te : Te) (value : BitVec 32) : Statement (.clearCodeWrite path te value) :=
  fun _ => cons path.isLt (cons te.isLt nil)
theorem clearNAssert (widthNs : Nat) : Statement (.clearNAssert widthNs) :=
  fun _ => nil
theorem clearNRelease : Statement (.clearNRelease) :=
  fun _ => nil
theorem hvOvervoltage (dies : BitVec 4) : Statement (.hvOvervoltage dies) :=
  fun _ => nil
theorem elsLightLoss (fiber : Fin 8) : Statement (.elsLightLoss fiber) :=
  fun _ => cons fiber.isLt nil
theorem surveyScan : Statement (.surveyScan) :=
  fun _ => nil
theorem surveyConversionDone (converter : Fin 9) (result : BitVec 24) (ovld : Bool) (clip : Bool) : Statement (.surveyConversionDone converter result ovld clip) :=
  fun _ => cons converter.isLt nil
theorem surveyConversionStart (converter : Fin 9) (at_ : Nat) : Statement (.surveyConversionStart converter at_) :=
  fun h => cons converter.isLt (cons (of_decide_eq_true h) nil)
theorem surveyTrigEdge (rising : Bool) (at_ : Nat) : Statement (.surveyTrigEdge rising at_) :=
  fun h => cons (of_decide_eq_true h) nil
theorem seqStart (path : Path) (seq : Fin 4) (value : BitVec 8) : Statement (.seqStart path seq value) :=
  fun _ => cons path.isLt (cons seq.isLt nil)
theorem seqEnableWrite (path : Path) (seq : Fin 4) (value : BitVec 8) : Statement (.seqEnableWrite path seq value) :=
  fun _ => cons path.isLt (cons seq.isLt nil)
theorem injectRequest (path : Path) (value : BitVec 16) : Statement (.injectRequest path value) :=
  fun _ => cons path.isLt nil
theorem fringeCalCmd (path : Path) (value : BitVec 8) : Statement (.fringeCalCmd path value) :=
  fun _ => cons path.isLt nil
theorem fringeCalEnd (result : BitVec 8) (unreached : Fin 4353) : Statement (.fringeCalEnd result unreached) :=
  fun _ => cons unreached.isLt nil
theorem calRequest (path : Path) (value : BitVec 32) : Statement (.calRequest path value) :=
  fun _ => cons path.isLt nil
theorem trimStart (te : Te) (bin : Fin 256) : Statement (.trimStart te bin) :=
  fun _ => cons te.isLt (cons bin.isLt nil)
theorem trimRunEnd (te : Te) (bin : Fin 256) (pair : Fin 3) (run : Fin 2) : Statement (.trimRunEnd te bin pair run) :=
  fun _ => cons te.isLt (cons bin.isLt (cons pair.isLt (cons run.isLt nil)))
theorem monSweepStart : Statement (.monSweepStart) :=
  fun _ => nil
theorem tenderOverlapStart (group : Fin 152) (channel : Fin 64) : Statement (.tenderOverlapStart group channel) :=
  fun _ => cons group.isLt (cons channel.isLt nil)
theorem tenderRunEnd (group : Fin 152) (run : Fin 2) : Statement (.tenderRunEnd group run) :=
  fun _ => cons group.isLt (cons run.isLt nil)
theorem surveyCalStart (converter : Fin 8) : Statement (.surveyCalStart converter) :=
  fun _ => cons converter.isLt nil
theorem surveyCalEnd (converter : Fin 8) (run : Fin 2) : Statement (.surveyCalEnd converter run) :=
  fun _ => cons converter.isLt (cons run.isLt nil)
theorem calNotCurrent (te : Te) : Statement (.calNotCurrent te) :=
  fun _ => cons te.isLt nil
theorem mapEntryWrite (path : Path) (output : Fin 512) (value : BitVec 16) : Statement (.mapEntryWrite path output value) :=
  fun _ => cons path.isLt (cons output.isLt nil)
theorem solveCmd (path : Path) (value : BitVec 32) : Statement (.solveCmd path value) :=
  fun _ => cons path.isLt nil
theorem colSolveEnd : Statement (.colSolveEnd) :=
  fun _ => nil
theorem slotWrite (path : Path) (settings : Bool) (element : Nat) (value : BitVec 32) : Statement (.slotWrite path settings element value) :=
  fun _ => cons path.isLt nil
theorem slotVerify (path : Path) (slot : Fin 64) : Statement (.slotVerify path slot) :=
  fun _ => cons path.isLt (cons slot.isLt nil)
theorem slotLoad (path : Path) (slot : Fin 64) : Statement (.slotLoad path slot) :=
  fun _ => cons path.isLt (cons slot.isLt nil)
theorem slotSave (path : Path) (slot : Fin 64) : Statement (.slotSave path slot) :=
  fun _ => cons path.isLt (cons slot.isLt nil)
theorem slotErase (path : Path) (slot : Fin 64) : Statement (.slotErase path slot) :=
  fun _ => cons path.isLt (cons slot.isLt nil)
theorem commitCancel (path : Path) (value : BitVec 8) : Statement (.commitCancel path value) :=
  fun _ => cons path.isLt nil
theorem glideRampDownStart (output : Fin 512) : Statement (.glideRampDownStart output) :=
  fun _ => cons output.isLt nil
theorem traverseBegin : Statement (.traverseBegin) :=
  fun _ => nil
theorem copyBackDone : Statement (.copyBackDone) :=
  fun _ => nil
theorem retiredSetRelease : Statement (.retiredSetRelease) :=
  fun _ => nil
theorem guardOpen : Statement (.guardOpen) :=
  fun _ => nil
theorem guardMinEnd : Statement (.guardMinEnd) :=
  fun _ => nil
theorem guardRelockTimeout : Statement (.guardRelockTimeout) :=
  fun _ => nil
theorem ttArm (path : Path) : Statement (.ttArm path) :=
  fun _ => cons path.isLt nil
theorem ttStop (path : Path) : Statement (.ttStop path) :=
  fun _ => cons path.isLt nil
theorem ttReplace (path : Path) : Statement (.ttReplace path) :=
  fun _ => cons path.isLt nil
theorem ttResume (path : Path) : Statement (.ttResume path) :=
  fun _ => cons path.isLt nil
theorem ttTrace (path : Path) : Statement (.ttTrace path) :=
  fun _ => cons path.isLt nil
theorem portConfigWrite (path : Path) (port : Lane) (value : BitVec 32) : Statement (.portConfigWrite path port value) :=
  fun _ => cons path.isLt (cons port.isLt nil)
theorem laneLock (lane : Lane) (at_ : Nat) : Statement (.laneLock lane at_) :=
  fun h => cons lane.isLt (cons (of_decide_eq_true h) nil)
theorem laneLockLoss (lane : Lane) : Statement (.laneLockLoss lane) :=
  fun _ => cons lane.isLt nil
theorem upHoldExpire (port : Lane) : Statement (.upHoldExpire port) :=
  fun _ => cons port.isLt nil
theorem packetReceive (port : Lane) (at_ : Nat) (frame : List Byte) : Statement (.packetReceive port at_ frame) :=
  fun h => cons port.isLt (cons ((of_decide_eq_true h).1) nil)
theorem packetPass (port : Lane) : Statement (.packetPass port) :=
  fun _ => cons port.isLt nil
theorem packetSecondPass (pipe : Fin 4) : Statement (.packetSecondPass pipe) :=
  fun _ => cons pipe.isLt nil
theorem egressSchedule (port : Lane) (at_ : Nat) : Statement (.egressSchedule port at_) :=
  fun h => cons port.isLt (cons (of_decide_eq_true h) nil)
theorem frameTxComplete (port : Lane) (at_ : Nat) : Statement (.frameTxComplete port at_) :=
  fun h => cons port.isLt (cons (of_decide_eq_true h) nil)
theorem refillEpoch (epoch : Fin 49) : Statement (.refillEpoch epoch) :=
  fun _ => cons epoch.isLt nil
theorem gateEntryChange (port : Lane) (at_ : Nat) : Statement (.gateEntryChange port at_) :=
  fun h => cons port.isLt (cons (of_decide_eq_true h) nil)
theorem portDownFlush (port : Lane) : Statement (.portDownFlush port) :=
  fun _ => cons port.isLt nil
theorem queueConfigWrite (path : Path) (queue : Fin 262144) (value : BitVec 64) : Statement (.queueConfigWrite path queue value) :=
  fun _ => cons path.isLt (cons queue.isLt nil)
theorem classInsert (path : Path) : Statement (.classInsert path) :=
  fun _ => cons path.isLt nil
theorem classDelete (path : Path) : Statement (.classDelete path) :=
  fun _ => cons path.isLt nil
theorem classLookupShadow (path : Path) : Statement (.classLookupShadow path) :=
  fun _ => cons path.isLt nil
theorem classLookupActive (path : Path) : Statement (.classLookupActive path) :=
  fun _ => cons path.isLt nil
theorem classClear (path : Path) : Statement (.classClear path) :=
  fun _ => cons path.isLt nil
theorem classTableWrite (path : Path) (position : Fin 263168) (value : BitVec 512) : Statement (.classTableWrite path position value) :=
  fun _ => cons path.isLt (cons position.isLt nil)
theorem flowClear (path : Path) (context : Fin 262144) : Statement (.flowClear path context) :=
  fun _ => cons path.isLt (cons context.isLt nil)
theorem flowClearAll (path : Path) : Statement (.flowClearAll path) :=
  fun _ => cons path.isLt nil
theorem bwWindowEnd (at_ : Nat) : Statement (.bwWindowEnd at_) :=
  fun h => cons (of_decide_eq_true h) nil
theorem bwPeakClear (path : Path) (value : BitVec 8) : Statement (.bwPeakClear path value) :=
  fun _ => cons path.isLt nil
theorem faultSourceFire (lines : List FaultReport) : Statement (.faultSourceFire lines) :=
  fun _ => nil
theorem clearSource (path : Path) (value : BitVec 16) : Statement (.clearSource path value) :=
  fun _ => cons path.isLt nil
theorem firstClear (path : Path) (value : BitVec 8) : Statement (.firstClear path value) :=
  fun _ => cons path.isLt nil
theorem pinRearm (path : Path) (value : BitVec 8) : Statement (.pinRearm path value) :=
  fun _ => cons path.isLt nil
theorem faultPulseEnd : Statement (.faultPulseEnd) :=
  fun _ => nil
theorem sourceConfigWrite (path : Path) (source : Fin 512) (value : BitVec 32) : Statement (.sourceConfigWrite path source value) :=
  fun _ => cons path.isLt (cons source.isLt nil)
theorem eccInject (path : Path) (value : BitVec 16) : Statement (.eccInject path value) :=
  fun _ => cons path.isLt nil
theorem throttleStep : Statement (.throttleStep) :=
  fun _ => nil
theorem stagedReleaseSteps : Statement (.stagedReleaseSteps) :=
  fun _ => nil
theorem zoneOverrideWrite (path : Path) (zone : Fin 8) (value : BitVec 8) : Statement (.zoneOverrideWrite path zone value) :=
  fun _ => cons path.isLt (cons zone.isLt nil)
theorem powerCmdRun (path : Path) : Statement (.powerCmdRun path) :=
  fun _ => cons path.isLt nil
theorem powerCmdQuiet (path : Path) : Statement (.powerCmdQuiet path) :=
  fun _ => cons path.isLt nil
theorem powerCmdDormant (path : Path) : Statement (.powerCmdDormant path) :=
  fun _ => cons path.isLt nil
theorem powerChangeComplete : Statement (.powerChangeComplete) :=
  fun _ => nil
theorem rateGraceEnd (path : Path) : Statement (.rateGraceEnd path) :=
  fun _ => cons path.isLt nil
theorem mgtLinkChange (path : Path) (rate : BitVec 16) : Statement (.mgtLinkChange path rate) :=
  fun _ => cons path.isLt nil
theorem heartbeatTimeout (path : Path) : Statement (.heartbeatTimeout path) :=
  fun _ => cons path.isLt nil
theorem digestFailureDeclare : Statement (.digestFailureDeclare) :=
  fun _ => nil
theorem roleChange : Statement (.roleChange) :=
  fun _ => nil
theorem takeoverDecision : Statement (.takeoverDecision) :=
  fun _ => nil
theorem powerOn (bootMode : BitVec 2) : Statement (.powerOn bootMode) :=
  fun _ => nil
theorem resetN (widthNs : Nat) : Statement (.resetN widthNs) :=
  fun _ => nil
theorem powerFail (widthNs : Nat) : Statement (.powerFail widthNs) :=
  fun _ => nil
theorem restartWarm (path : Path) : Statement (.restartWarm path) :=
  fun _ => cons path.isLt nil
theorem restartCold (path : Path) : Statement (.restartCold path) :=
  fun _ => cons path.isLt nil
theorem bootStepEnd (report : BootReport) : Statement (.bootStepEnd report) :=
  fun _ => nil
theorem bootTimeWaitExpire : Statement (.bootTimeWaitExpire) :=
  fun _ => nil
theorem laneRetrain (path : Path) (lane : Lane) (value : BitVec 8) : Statement (.laneRetrain path lane value) :=
  fun _ => cons path.isLt (cons lane.isLt nil)
theorem snapshotCopyDone : Statement (.snapshotCopyDone) :=
  fun _ => nil
theorem wrapClear (path : Path) (value : BitVec 16) : Statement (.wrapClear path value) :=
  fun _ => cons path.isLt nil
theorem perfConfigWrite (path : Path) (counter : Fin 64) (value : BitVec 32) : Statement (.perfConfigWrite path counter value) :=
  fun _ => cons path.isLt (cons counter.isLt nil)
theorem testConfigWrite (path : Path) (point : Fin 146) (value : BitVec 32) : Statement (.testConfigWrite path point value) :=
  fun _ => cons path.isLt (cons point.isLt nil)
theorem testInject (path : Path) (value : BitVec 16) : Statement (.testInject path value) :=
  fun _ => cons path.isLt nil
theorem testClear (path : Path) (value : BitVec 16) : Statement (.testClear path value) :=
  fun _ => cons path.isLt nil
theorem proveStart (path : Path) (value : BitVec 32) : Statement (.proveStart path value) :=
  fun _ => cons path.isLt nil
theorem proveStop (path : Path) (value : BitVec 32) : Statement (.proveStop path value) :=
  fun _ => cons path.isLt nil
theorem proveTimeExpire : Statement (.proveTimeExpire) :=
  fun _ => nil
theorem checkerLock (point : Fin 146) (bits : Nat) (at_ : Nat) : Statement (.checkerLock point bits at_) :=
  fun h => cons point.isLt (cons (of_decide_eq_true h) nil)
theorem checkerLockLoss (point : Fin 146) (bits : Nat) (errors : Nat) : Statement (.checkerLockLoss point bits errors) :=
  fun _ => cons point.isLt nil
theorem elsLightReturn (fiber : Fin 8) : Statement (.elsLightReturn fiber) :=
  fun _ => cons fiber.isLt nil
theorem resetNRelease (bootMode : BitVec 2) : Statement (.resetNRelease bootMode) :=
  fun _ => nil
theorem vddAuxLoss : Statement (.vddAuxLoss) :=
  fun _ => nil
theorem tckEdge (rising : Bool) (tms : Bool) (tdi : Bool) (trstN : Bool) (pins : List Bool) : Statement (.tckEdge rising tms tdi trstN pins) :=
  fun _ => nil

end Sys2Proof.Laws.Units
end

