-- ==== Sys2Proof/Tests/Slice0.lean ====
section
/-! SUPPORT. The model's own tests: terms that the checks refuse, values worked out in the spec, and for every statement with
hypotheses a state and operands that meet them. -/

namespace Sys2Proof.Tests

set_option Elab.async false

open Sys2Proof Sys2Proof.Machine

/-- The module after its boot, with the supervisor of path 0 active. -/
def base : State :=
  { State.reset with
    regs := [(okey OD.SUP_STATE 0, 0), (okey OD.POWER_STATE 0, 0), (okey OD.BOOT_STATE 0, 1)]
    boot := { State.reset.boot with booting := false }
    sup := { State.reset.sup with reg := [(0, ⟨1, 0, 7, 100, 0, 2, false, 0⟩)] } }

/-- That state with more values in the register file. -/
def regsOf (l : Tab Nat) : State := { base with regs := l ++ base.regs }

/-- That state with a link in service. -/
def linked : State := { base with links := [(0, { Link.reset with up := true, lanes := 4 })] }

theorem base_serves : base.Serves 0 := by decide +kernel
theorem base_live : base.Live ∧ linked.Live ∧ (regsOf [(okey OD.CEILING 0, 1)]).Serves 0 := by decide +kernel

/-! ### Commands and the whole machine -/

/-- Witness of StepRunsTheFrontCommand. -/
theorem meets_step : ({ base with pending := [.frameBoundary, .lossTimeout] } : State).pending = .frameBoundary :: [.lossTimeout] ∧
    base.pending = [] := by decide +kernel

/-- Witness of OnlyTheActiveSupervisorWrites. -/
theorem meets_onlyActive : (Instr.firstClear 1 1).sender = some 1 ∧ (Instr.wrapClear 0 581).sender = some 0 ∧ base.Live ∧
    base.isActive 1 = false ∧ (regsOf [(okey OD.POWER_STATE 0, 3)]).power = psHalted ∧ State.reset.rd OD.BOOT_STATE = 0 := by
  decide +kernel

/-- Witness of DiesHeldInResetTakeNoCommand. -/
theorem meets_dead : ({ base with boot := { base.boot with resetLow := true } } : State).dead = true ∧
    ({ base with boot := { base.boot with powered := false } } : State).dead = true ∧ (Instr.read 0).onPins = false := by
  decide +kernel

/-- The state after one message, and after a request has been taken. -/
def sent : State := base.send 0 ⟨5, 9⟩ 1 12 0 0 []

theorem sent_motin : sent.motin.seqOut = [(1, 1)] ∧ ∃ bs, sent.motin.outbox = [⟨0, ⟨5, 9⟩, 1, 1, bs⟩] := by
  have off : bit (base.toCore.rd OD.TEST_CONFIG 144) 31 = false := by decide +kernel
  unfold sent State.send Motin.send; simp only [off]
  exact ⟨rfl, _, rfl⟩

/-- Witness of MessagesAreNumberedStrictly. -/
theorem meets_numbered : sent.motin.Numbered ∧ sent.motin.outbox.length = 1 ∧ Tab.get sent.motin.seqOut 1 0 = 1 := by
  obtain ⟨e, bs, h⟩ := sent_motin
  unfold Motin.Numbered
  rw [e, h]
  refine ⟨⟨fun x hx => ?_, List.pairwise_singleton _ _⟩, rfl, rfl⟩
  rw [List.mem_singleton.mp hx]; exact ⟨Nat.one_pos, Nat.le_refl 1⟩

/-- Witness of NoStepReopensASequenceNumber, AtMostOneRegistrationIsActive. -/
theorem meets_steps_next : step ({ base with pending := [.lossTimeout] } : State) = .next base ∧ base.motin.NoneWaits ∧
    Instr.lossTimeout.mayWriteKey = false ∧ base.OneActive := by
  refine ⟨rfl, ⟨rfl, rfl⟩, rfl, ?_⟩
  unfold Core.OneActive; decide +kernel

/-- Witness of QueuesStayBounded. -/
theorem meets_bounded : base.Bounded := by
  refine ⟨fun p => ?_, fun p => ?_, fun k u h => ?_, ?_⟩
  · exact (show ([] : List Request).length ≤ 8 by decide)
  · exact (show ([] : List Kept).length ≤ 32 by decide)
  · exact absurd h (by simp [base, State.reset])
  · exact (show ([] : List (Nat × Instant)).length ≤ 4 by decide)

/-! ### Register writes -/

/-- Witness of RegisterWritesAcceptOrAbort, RegisterWritesWaitForTheBoundary. -/
theorem meets_registerWrites :
    (let s := regsOf [(okey OD.FACTORY_CEILING 9215, 6), (okey OD.CLEAR_CODE 9215, 5), (okey OD.DRIVE_CODE 9215, 6), (okey OD.CEILING 9215, 6)];
      s.Serves 0 ∧ 6 ≤ s.rd OD.FACTORY_CEILING 9215 ∧ s.clearCode 9215 ≤ 6 ∧ s.driven 9215 ≤ 6 ∧ 6 ≤ s.ceiling 9215) ∧
    (base.loop 0).st = .parked ∧ (Dict.severity 0).isSome ∧ (Dict.severity 511).isSome = false ∧
    (let v := 64 * 2 ^ 14; 64 ≤ portMax v ∧ portMax v ≤ 10240 ∧ portHold v ≤ 10000 ∧ portOn v = false ∧ ¬ base.portEnabled 0) ∧
    (bits 0x04020001 31 27 = 0 ∧ bits 0x04020001 26 24 ≤ 4 ∧ 2 ≤ bits 0x04020001 23 16 ∧ bits 0x04020001 15 0 ≠ 0) ∧
    (bits 0 31 27 = 0 ∧ bits 0 26 24 ≤ 4 ∧ bits 0 23 16 = 0) := by decide +kernel

/-- Witness of RegisterWritesWaitForTheBoundary. -/
theorem meets_seqEnable : base.rdNext OD.SEQ_ENABLE_2720 = 0 ∧ base.seqFirst 0 = (0, none) ∧
    (regsOf [(okey OD.SEQ_ENABLE_2720 0, 1)]).rdNext OD.SEQ_ENABLE_2720 ≠ 0 := by decide +kernel

/-! ### Faults and microcode -/

/-- Witness of FaultCommandsActOnTheCollector. -/
theorem meets_faults :
    (let v := 0x8800; 1 ≤ bits v 15 12 ∧ bits v 15 12 ≤ 8 ∧ bits v 11 10 = 2 ∧ bits v 9 0 = 0) ∧
    (let v := 0x1400; 1 ≤ bits v 15 12 ∧ bits v 11 10 = 1 ∧ bits v 9 0 = 0) ∧
    (base.live 323 = false ∧ (base.src 323).loops = [] ∧ (base.src 323).lanes = [] ∧ base.live 328 = false) ∧
    ({ base with faults := { base.faults with lines := [511] } } : State).live 511 = true ∧
    ({ base with faults := { base.faults with lines := [511] } } : State).Serves 0 ∧
    ({ base with faults := { base.faults with pulsing := true } } : State).Live ∧
    ({ base with faults := { base.faults with pulsing := true } } : State).faults.pulsing = true := by decide +kernel

/-- A pulse of FAULT_N that began at the running time 0. -/
def pulsing (width : Nat) : State := { regsOf [(okey OD.PULSE_WIDTH 0, width)] with faults := { base.faults with pulsing := true, pulseFrom := 0 } }

/-- Witness of FaultCommandsActOnTheCollector. -/
theorem meets_faults2 :
    base.faults.pulsing = false ∧
    (let s := pulsing 1000; s.Live ∧ s.now + (s.faults.pulseFrom + nsU (s.rd OD.PULSE_WIDTH) - s.up) < s.frameEnd) ∧
    (let s := pulsing 50000; s.Live ∧ s.frameEnd ≤ s.now + (s.faults.pulseFrom + nsU (s.rd OD.PULSE_WIDTH) - s.up)) ∧
    (let s : State := { base with pkt := { base.pkt with damaged := [(5, true), (6, false)] } }; s.Serves 0 ∧ s.live 386 = false ∧
      (s.src 386).loops = [] ∧ (s.src 386).lanes = []) := by decide +kernel

/-- Witness of MicrocodeLoadSequence. -/
theorem meets_ucode :
    (base.loadState = 0 ∧ (4439 : Nat) ≤ 4439 ∧ (regsOf [(okey OD.LOAD_STATE 0, 1)]).loadState = 1 ∧ (regsOf [(okey OD.LOAD_STATE 0, 3)]).loadState = 3 ∧
      (regsOf [(okey OD.LOAD_STATE 0, 4)]).loadState = 4 ∧ (regsOf [(okey OD.LOAD_STATE 0, 1)]).Serves 0) ∧
    base.ucode.suspended = false ∧ base.rd OD.OWNER_KEY_SET ≠ 1 ∧
    (regsOf [(okey OD.POWER_STATE 0, 4)]).power = psMaint ∧ (regsOf [(okey OD.POWER_STATE 0, 4)]).Serves 0 ∧
    (regsOf [(okey OD.LOAD_STATE 0, 2)]).Live ∧ (regsOf [(okey OD.LOAD_STATE 0, 2)]).loadState = 2 ∧
    ((regsOf [(okey OD.LOAD_STATE 0, 2)]).verify (regsOf [(okey OD.LOAD_STATE 0, 2)]).received).1 ≠ 0 := by decide +kernel

/-! ### Power -/

/-- A change of power state that has begun. -/
def changing : State := { base with pwr := ⟨some 1, 0, true, 0, false, none⟩ }

/-- A thermal shut-down in progress. -/
def shutting : State := { base with pwr := ⟨some 2, 0, true, 0, true, none⟩ }

/-- Witness of PowerCommandsAndTheirChanges. -/
theorem meets_power :
    (base.power = psRun ∧ base.power ≠ psMaint ∧ base.power ≠ psQuiet ∧ base.power ≠ psDormant ∧ base.rd OD.POWER_CHANGING ≠ 1 ∧
      (base.src 14).sev = none) ∧
    (let s := regsOf [(okey OD.POWER_STATE 0, 1)]; s.Serves 0 ∧ s.power = psQuiet ∧ s.power ≠ psRun ∧ (s.src 14).sev = none) ∧
    (let s := regsOf [(okey OD.POWER_STATE 0, 2)]; s.Serves 0 ∧ s.power = psDormant) ∧
    (base.boot.pins = 0 ∧ base.boot.altMask = 0 ∧ base.warmBusy = false) ∧
    (changing.Live ∧ changing.trav.release = none ∧ changing.pwr.shut = false ∧ changing.pwr.begun = true) ∧
    (let s : State := { base with up := 10, sup := { base.sup with grace := [(0, (2, 10))] } };
      s.Live ∧ Tab.find? s.sup.grace 0 = some (2, 10) ∧ 10 ≤ s.up ∧ (Tab.find? s.sup.reg 0).isSome) ∧
    (let s : State := { base with therm := { base.therm with stepDue := true } };
      s.Live ∧ s.lanesOn = true ∧ isBoundary s.now = true ∧ s.therm.stepAt ≠ some s.up ∧ s.throttleTo ≠ s.rd OD.THROTTLE_STEP ∧
        s.throttleTo ≠ 0) := by decide +kernel

/-- Witness of PowerCommandsAndTheirChanges. -/
theorem meets_power3 :
    (let s : State := { base with trav := { base.trav with copyBack := true } }; s.Serves 0 ∧ s.warmBusy = true ∧ s.boot.altMask ∈ [0, 8, 2048, 2056]) ∧
    (let s : State := { base with boot := { base.boot with altMask := 2056 } }; s.Serves 0 ∧ s.boot.pins = 0 ∧ s.boot.altMask ∈ [0, 8, 2048, 2056] ∧
      s.warmBusy = false) ∧
    (let s : State := { base with boot := { base.boot with altMask := 4 } }; s.Serves 0 ∧ s.boot.altMask ∉ [0, 8, 2048, 2056]) ∧
    (let s : State := { base with boot := { base.boot with pins := 1 } }; s.Serves 0 ∧ s.boot.pins ≠ 0) ∧
    (let s : State := { changing with regs := (okey OD.POWER_STATE 0, 2) :: base.regs }; s.Live ∧ s.power = psDormant ∧ s.pwr.begun = true) := by
  decide +kernel

/-- Witness of PowerCommandsAndTheirChanges. -/
theorem meets_power2 :
    (shutting.Live ∧ shutting.trav.release = none ∧ shutting.pwr.shut = true ∧ shutting.power ≠ psMaint) ∧
    (base.trav.release = none ∧ base.pwr.shut = false ∧ base.pwr.begun = false) ∧
    (let s : State := { base with up := 9, sup := { base.sup with grace := [(0, (2, 10))] } };
      Tab.find? s.sup.grace 0 = some (2, 10) ∧ s.up < 10) ∧
    (base.throttleTo = base.rd OD.THROTTLE_STEP) := by decide +kernel

/-- Witness of OvervoltageClearsTheDiesAboveTheLimit. -/
theorem meets_overvoltage : base.Live ∧ (0x8 : BitVec 4) ≠ 0 ∧ (0xF : BitVec 4) ≠ 0 := by decide +kernel

/-! ### The survey bank, the monitors and the drive -/

/-- A conversion on converter 7 for a purpose. -/
def converting (k : ConvKind) : State := { base with survey := { base.survey with conv := [(7, ⟨k, 103, 4, 0, 0, 0, 0, false⟩)] } }

/-- The survey tender calibrates converter 7, with so many zero-input results of its own and parallel pairs behind it. -/
def calibrating (opens pairs : Nat) : State :=
  { base with cal := { base.cal with survey := some ⟨7, List.replicate opens 0, pairs,
      (List.range pairs).map (fun i => (i, 5)), (List.range pairs).map (fun i => (i, 5)), [], none⟩ } }

/-- Witness of SurveyCommandsAndConversions. -/
theorem meets_survey :
    (base.frameIx % 10 = 0 ∧ base.survey.scanAt ≠ some base.frames ∧ base.survey.scan = [] ∧ base.survey.conv = []) ∧
    (∀ q : Fin 4, base.rd (OD.TRIG_MODE_2720 + 256 * q) = 0) ∧ base.toCore.calStart 0 = none ∧
    ((converting .cal).Live ∧ Tab.find? (converting .cal).survey.conv 7 = some ⟨.cal, 103, 4, 0, 0, 0, 0, false⟩ ∧
      0 = (converting .cal).up ∧ (converting .cal).up < (converting .cal).upFrame + frameUnits) ∧
    Tab.find? (converting .inject).survey.conv 7 = some ⟨.inject, 103, 4, 0, 0, 0, 0, false⟩ ∧
    (let s : State := { regsOf [(okey OD.SEQ_ENTRIES_2728 0, 7)] with survey := { base.survey with waits := [⟨0, 0, 0, 1⟩] } };
      s.Live ∧ Tab.find? s.survey.conv 0 = none ∧ Tab.get s.survey.scan 0 [] = [] ∧ s.fits (converterOf (entSource (s.seqEntry 0 0))) 0 = true ∧
        (s.survey.waits.find? (fun w => converterOf (entSource (s.seqEntry w.seq w.entry)) == converterOf (entSource (s.seqEntry 0 0)))) =
          some ⟨0, 0, 0, 1⟩) ∧
    ((regsOf [(okey (OD.SEQ_STATE_2720 + 768) 0, 1)]).rd (OD.SEQ_STATE_2720 + 768) = 1 ∧
      (regsOf [(okey (OD.SEQ_STATE_2720 + 768) 0, 1)]).Serves 0) ∧
    (let v := 0x467; v < 2 ^ 11 ∧ bit v 7 = false ∧ bits v 6 0 ≤ 103 ∧ bits v 10 8 ≤ 4 ∧ base.cal.survey = none ∧
      Tab.find? base.survey.conv 7 = none ∧ base.fits 7 4 = true ∧ base.rd OD.INJECT_STATE ≠ 1) ∧
    (converting .scan).Serves 0 := by decide +kernel

/-- Witness of SurveyCommandsAndConversions. -/
theorem meets_survey2 :
    (let s := calibrating 16 2; s.Live ∧ s.cal.survey = some ⟨7, List.replicate 16 0, 2, [(0, 5), (1, 5)], [(0, 5), (1, 5)], [], none⟩ ∧
      (s.cal.survey.map SurvCal.next) = some 1 ∧ s.fits 7 0 = true ∧ Tab.find? s.survey.conv 7 = none ∧ Tab.find? s.survey.conv 8 = none ∧
      Tab.get s.survey.scan 7 [] = []) ∧
    ((calibrating 15 0).Live ∧ ((calibrating 15 0).cal.survey.map SurvCal.next) = some 0 ∧ (calibrating 15 0).fits 7 0 = true) ∧
    (let s := calibrating 16 32; s.Live ∧ (s.cal.survey.map SurvCal.next) = some 2 ∧ Tab.find? s.survey.conv 8 = none ∧
      Tab.get s.survey.scan 8 [] = []) ∧
    (let s : State := { base with survey := { base.survey with scan := [(7, [103])] } };
      s.Live ∧ Tab.find? s.survey.conv 7 = none ∧ Tab.get s.survey.scan 7 [] = [103]) ∧
    (let s : State := { base with survey := { base.survey with scanAt := some base.frames, conv := [(7, ⟨.seq, 103, 4, 3, 255, 9, frameUnits, false⟩)] } };
      s.Live ∧ s.survey.scanAt = some s.frames ∧ s.upFrame + frameUnits ≤ frameUnits ∧
      Tab.find? s.survey.conv 7 = some ⟨.seq, 103, 4, 3, 255, 9, frameUnits, false⟩) := by decide +kernel

/-- An edge of SURVEY_TRIG was taken at the running time 0. -/
def edged (up : Nat) : State := { base with up := up, survey := { base.survey with edgeAt := some 0 } }

/-- Witness of SurveyCommandsAndConversions. -/
theorem meets_survey3 :
    ((edged (nsU 50 - 1)).Live ∧ ((edged (nsU 50 - 1)).toCore.advance 0).edgeTakes = false) ∧
    ((edged (nsU 50)).Live ∧ ((edged (nsU 50)).toCore.advance 0).edgeTakes = true ∧ 0 + nsU 50 ≤ ((edged (nsU 50)).toCore.advance 0).up) ∧
    base.survey.edgeAt = none ∧ (base.toCore.advance 0).edgeTakes = true := by decide +kernel

/-- Witness of MonitorResultsAndLitStates. -/
theorem meets_monitors :
    (linked.monRuns = true ∧ (linked.link (chanDie 0)).up = true ∧ bits 0 3 0 = linked.frameIx % 16 ∧ bit 0 7 = false ∧
      linked.rd OD.DARK_FAIL 0 ≠ 1 ∧ bits 1 3 0 ≠ linked.frameIx % 16) ∧
    (let s : State := { base with links := [(3, { Link.reset with up := true, lanes := 4 })] }; s.Live ∧ s.monRuns = true ∧
      (s.link (chanDie 9727)).up = true ∧ s.rd OD.DARK_FAIL 9727 ≠ 1) ∧
    (let s : State := { regsOf [(okey OD.LIT_FRAMES 0, 4)] with inputs := [(511, { LitIn.reset with count := 4 })] };
      s.Live ∧ (s.input 511).count ≠ 0 ∧ s.rd OD.LIT_FRAMES ≤ (s.input 511).count ∧ (s.input 510).count < s.rd OD.LIT_FRAMES) := by
  decide +kernel

/-- Witness of MonitorResultsAndLitStates. -/
theorem meets_monitors2 :
    (let s : State := { base with links := [(3, { Link.reset with up := true, lanes := 4 })],
                                  cal := { base.cal with overlaps := [(151, ⟨9664, 0, [], none, [], [], [], none⟩)] } };
      s.Live ∧ s.monRuns = true ∧ (s.link (151 / 38)).up = true ∧ s.resultsOver = false ∧
      Tab.find? s.cal.overlaps 151 = some ⟨9664, 0, [], none, [], [], [], none⟩ ∧ 0 ≤ s.frames ∧ s.toCore.overlapOf 0 = none) ∧
    (let x : Overlap := ⟨9664, 0, [], some 0, [], [], [], none⟩
     let s : State := { base with links := [(3, { Link.reset with up := true, lanes := 4 })], cal := { base.cal with overlaps := [(151, x)] } };
      s.toCore.overlapOf 9664 = some x ∧ x.window s.frames = some 0 ∧ x.window 512 = some 512 ∧ x.window 17 = some 17) ∧
    linked.resultsOver = false ∧ linked.toCore.overlapOf 0 = none ∧ linked.toCore.isSample 9879 = false ∧
    (let s : State := { linked with regs := (okey OD.DARK_FAIL 0, 1) :: linked.regs }; s.rd OD.DARK_FAIL 0 = 1 ∧ s.Live) ∧
    (let s : State := { linked with now := nsU 2801 }; s.Live ∧ s.resultsOver = true) := by decide +kernel

/-- An entry waits for its instant, which is now, with a code and its LAST flag. -/
def staged (code : Nat) (last : Bool) : State :=
  { regsOf [(okey OD.CEILING 0, 5), (okey OD.DEGLITCH_NS 0, 80)] with
    links := [(0, { Link.reset with up := true, lanes := 4 })], chans := [(0, { Chan.reset with queue := [⟨0, code, true, last⟩] })] }

/-- Witness of DriveChannelsStageAndApply. -/
theorem meets_drive :
    (linked.clearing 0 = false ∧ (linked.link 0).up = true) ∧
    (let w := 2303 * 2 ^ 52 + 2 * 2 ^ 29 + 3; bits w 63 52 ≤ 2303 ∧ bits w 28 2 ≤ 99999999 ∧
      linked.now + 65536000 ≤ applyInstant linked.now (bits w 33 29) (bits w 28 2) ∧ (linked.chan 2303).queue.length < 3) ∧
    (let w := 4 * 99; bits w 63 52 ≤ 2303 ∧ applyInstant linked.now (bits w 33 29) (bits w 28 2) < linked.now + 65536000) ∧
    2303 < bits (2304 * 2 ^ 52) 63 52 ∧ 99999999 < bits (4 * 100000000) 28 2 ∧
    ((staged 5 false).Live ∧ ((staged 5 false).chan 0).queue = [⟨0, 5, true, false⟩] ∧ 0 < (staged 5 false).frameEnd ∧
      5 ≤ (staged 5 false).ceiling 0) ∧
    (((staged 5 true).chan 0).queue = [⟨0, 5, true, true⟩]) ∧ (staged 6 false).ceiling 0 < 6 ∧
    (let s : State := { base with regs := [(okey OD.BOOT_STATE 0, 1), (okey OD.DEGLITCH_NS 0, 80), (okey OD.CEILING 0, 262143)]
                                  boot := { base.boot with outcome := [(5, 2)] }
                                  chans := [(0, { Chan.reset with queue := [⟨nsU 80, 4096, true, false⟩] })] };
      s.Live ∧ (s.chan 0).loaded = none ∧ s.drivesUp = true ∧ segment (min 4096 (s.ceiling 0)) ≠ segment (s.driven 0) ∧
        nsU 80 - nsU (s.rd OD.DEGLITCH_NS) < s.frameEnd) ∧
    (let s := staged 4095 false; (s.chan 0).queue = [⟨0, 4095, true, false⟩] ∧ segment (if s.drivesUp then min 4095 (s.ceiling 0) else 0) = segment (s.driven 0)) ∧
    (let s : State := { linked with chans := [(0, { Chan.reset with queue := [⟨frameUnits, 5, true, false⟩] })] };
      s.Live ∧ (s.chan 0).queue = [⟨frameUnits, 5, true, false⟩] ∧ s.frameEnd ≤ frameUnits) := by decide +kernel

/-- A channel of die 0 whose queue holds entries for those instants. -/
def queuedAt (ts : List Nat) : State := { linked with chans := [(2303, { Chan.reset with queue := ts.map (fun t => ⟨t, 7, true, false⟩) })] }

/-- Witness of DriveChannelsStageAndApply. -/
theorem meets_drive2 :
    (let s : State := { linked with trav := { base.trav with internalClear := true } }; s.Live ∧ s.clearing (2304 * 0) = true) ∧
    (base.link 3).up = false ∧
    (let w := 2303 * 2 ^ 52 + 2 * 2 ^ 29 + 3
     let at_ := applyInstant linked.now (bits w 33 29) (bits w 28 2)
     let s := queuedAt [at_];
      s.Live ∧ (s.link 0).up = true ∧ s.now + 65536000 ≤ at_ ∧ (∃ q ∈ (s.chan 2303).queue, q.at_ = at_) ∧
      (let t := queuedAt [at_ - 1, at_ + 1, at_ + 2]; t.Live ∧ (∀ q ∈ (t.chan 2303).queue, q.at_ ≠ at_) ∧ 3 ≤ (t.chan 2303).queue.length)) := by
  decide +kernel

/-- Witness of LinksGoDownAndReturn. -/
theorem meets_links :
    (linked.link 0).up = true ∧ (base.link 3).up = false ∧ base.linkTested 3 = false ∧ linked.Live ∧
    (let s : State := { base with links := [(3, { Link.reset with up := true, lanes := 4, missFrames := 4 })] };
      s.Live ∧ (s.link 3).up = true ∧ 4 ≤ (s.link 3).missFrames) ∧
    linkServes 4 true = true ∧ linkServes 2 false = true ∧ linkServes 3 true = false ∧ linkServes 1 false = false ∧
    (let s : State := regsOf [(okey OD.TEST_CONFIG 128, 2 ^ 31)]; s.Live ∧ s.linkTested 0 = true) ∧
    (∀ te ∈ base.trav.owed, teDie te ≠ 0) := by decide +kernel

/-- Witness of LinksGoDownAndReturn. -/
theorem meets_links2 : (let s := staged 5 false; s.Live ∧ (s.link 0).up = true ∧
    (s.chans.filter (fun p => decide (teDie p.1 = 0) && p.2.queue.any (·.seq) && s.trav.release.all (·.stepped.isNone))).length = 1) := by decide +kernel

/-- Witness of RestoreAfterLinkReturnTakesTheOwedSteps. -/
theorem meets_restore :
    let s : State := { linked with up := 4 * frameUnits, now := 0, trav := { base.trav with owed := [0, 2303] } };
    s.Live ∧ (s.link 0).up = true ∧ (s.link 0).restoreAt = 0 ∧ (∃ te ∈ s.trav.owed, teDie te = 0) ∧
    (s.link 0).returnUp + 3 * frameUnits ≤ s.upFrame + frameUnits ∧
    (∀ te ∈ s.trav.owed, teDie te = 0 → (s.chan te).queue = [] ∧ s.clearing te = false ∧ s.now + 65536000 ≤ s.frameEnd) ∧
    s.trav.owed.Nodup := by decide +kernel

/-! ### Time -/

/-- A path whose PTP port is enabled, with a parent and a Sync and a request outstanding. -/
def ptpOn (mech src : Nat) : State :=
  { regsOf [(okey OD.PTP_ENABLE_1302 0, 1), (okey OD.DELAY_MECH_1302 0, mech), (okey OD.PORT_STATE_1302 0, 9), (okey OD.TIME_SOURCE 0, src),
      (okey OD.SOURCE_ACTIVE 0, src), (okey OD.BOOT_STEP 0, 10)] with
    ptp := [(0, { PtpPort.reset with parent := some ⟨128, 6, 33, 0, 128, 77, 1, 0⟩, syncSent := some 5, reqSent := some 9 })] }

/-- Witness of PtpMessagesUpdateTheirInstance. -/
theorem meets_ptp :
    (regsOf [(okey OD.PTP_ENABLE_1302 0, 0)]).rd OD.PTP_ENABLE_1302 = 0 ∧ base.rd OD.BOOT_STEP < 10 ∧ 10 ≤ (ptpOn 0 0).rd OD.BOOT_STEP ∧ (ptpOn 0 0).Live ∧ (ptpOn 0 0).rd OD.PTP_ENABLE_1302 ≠ 0 ∧ (ptpOn 0 0).rd OD.DELAY_MECH_1302 = 0 ∧
    ((ptpOn 0 0).ptpPort 0).reqSent = some 9 ∧ ((ptpOn 0 0).ptpPort 0).syncSent = some 5 ∧ (ptpOn 1 0).rd OD.DELAY_MECH_1302 = 1 ∧
    ((ptpOn 0 0).ptpPort 0).parent = some ⟨128, 6, 33, 0, 128, 77, 1, 0⟩ ∧ (ptpOn 0 0).rd OD.PORT_STATE_1302 = 9 ∧
    (ptpOn 0 0).timeSource = 0 ∧ (ptpOn 0 0).rd OD.SOURCE_ACTIVE = 0 ∧ (ptpOn 0 3).timeSource = 3 ∧
    (ptpOn 0 3).rd OD.SOURCE_ACTIVE = 3 := by decide +kernel

/-- A time source and a time state. -/
def timed (src st : Nat) (more : Tab Nat := []) : State :=
  regsOf (more ++ [(okey OD.TIME_SOURCE 0, src), (okey OD.SOURCE_ACTIVE 0, src), (okey OD.TIME_STATE 0, st), (okey OD.BOOT_STEP 0, 10)])

/-- Witness of TimeCommandsAndPulses. -/
theorem meets_time :
    ((timed 4 2).Serves 0 ∧ time64Valid 0 = true ∧ (timed 4 2).timeSource = 4 ∧ (timed 4 2).timeState = tsLocked ∧
      ofTime64 0 = (timed 4 2).now ∧ (timed 4 2).rd OD.PENDING_STEP = 0) ∧
    (timed 4 2 [(okey OD.PENDING_STEP 0, 7)]).rd OD.PENDING_STEP ≠ 0 ∧
    (let s : State := { timed 3 2 [(okey OD.LOSS_TIMEOUT 0, 1)] with up := 65536 };
      s.Live ∧ s.timeSource = 3 ∧ s.rd OD.SOURCE_ACTIVE = 3 ∧ s.timeState = tsLocked ∧ s.time.lastValid + nsU (s.rd OD.LOSS_TIMEOUT) ≤ s.up) ∧
    (timed 3 1).timeState = tsAcquiring ∧
    (let s : State := { base with time := { base.time with slewing := true } }; s.Live ∧ s.time.slewing = true ∧ s.time.slew = 0) ∧
    (true = decide (base.rd OD.PPS_IN_EDGE = 0) ∧ (timed 4 2).timeSource ≠ 3 ∧ false ≠ decide (base.rd OD.PPS_IN_EDGE = 0)) ∧
    (let s : State := { timed 4 2 [(okey OD.PPS_OUT_MODE 0, 1), (okey OD.PPS_OUT_ADVANCE 0, 0)] with now := secondUnits };
      s.Live ∧ s.ppsAllowed = true ∧ nsU (s.rd OD.PPS_OUT_ADVANCE) ≤ 1 * secondUnits ∧
        s.now ≤ 1 * secondUnits - nsU (s.rd OD.PPS_OUT_ADVANCE) ∧ 1 * secondUnits - nsU (s.rd OD.PPS_OUT_ADVANCE) < s.frameEnd ∧ s.time.ppsSecond ≠ some (1 * secondUnits)) ∧
    (let s : State := { regsOf [(okey OD.PPS_OUT_WIDTH 0, 100)] with time := { base.time with ppsOut := true, ppsSecond := some 0 } };
      s.Live ∧ s.time.ppsOut = true ∧ s.time.ppsFallAt < s.upFrame + frameUnits) := by decide +kernel

/-- Witness of TimeCommandsAndPulses. -/
theorem meets_time2 :
    (let s : State := { timed 3 3 [(okey OD.LOSS_TIMEOUT 0, 1), (okey OD.PORT_STATE_1302 0, 9)] with
        up := 65536, ptp := [(0, { PtpPort.reset with parent := some ⟨128, 6, 33, 0, 128, 77, 1, 0⟩ })] };
      s.Live ∧ s.timeSource = 3 ∧ s.rd OD.SOURCE_ACTIVE = 3 ∧ s.timeState = tsHoldover ∧ (s.ptpPort 0).parent.isSome ∧
        s.toCore.alive 0 = false ∧ (s.ptpPort 1).parent = none) ∧
    (regsOf [(okey OD.TIME_SOURCE 0, 3)]).rd OD.BOOT_STEP < 10 ∧
    (let s := timed 3 2 [(okey OD.PPS_IN_DELAY 0, 0)]; s.Live ∧ s.timeSource = 3 ∧ 10 ≤ s.rd OD.BOOT_STEP ∧ s.timeState = tsLocked ∧
      ¬ nsU 1000 < ((s.now : Int) - nsU (s.rd OD.PPS_IN_DELAY)).natAbs) ∧
    (let s : State := { timed 3 2 with now := nsU 5000 }; s.Live ∧ nsU 1000 < ((s.now : Int) - nsU (s.rd OD.PPS_IN_DELAY)).natAbs) ∧
    (timed 3 1).timeState ≠ tsFree ∧ (timed 4 3 [(okey OD.STEP_THRESHOLD 0, 0), (okey OD.STEP_POLICY 0, 1)]).rd OD.STEP_POLICY = 1 ∧
    base.time.slewing = false ∧ base.ppsAllowed = false ∧ base.time.ppsOut = false ∧
    (let s : State := { timed 2 1 [(okey OD.LOSS_TIMEOUT 0, 1)] with up := 65536 };
      s.timeSource ≠ 4 ∧ s.timeState = tsAcquiring ∧ s.time.lastValid + nsU (s.rd OD.LOSS_TIMEOUT) ≤ s.up) := by decide +kernel

/-- Witness of FirstMeasurementStepsModuleTime. -/
theorem meets_firstMeasurement :
    (timed 4 0).Serves 0 ∧ (timed 4 0).timeState = tsFree ∧ time64Valid (5 * 2 ^ 64) = true ∧ (timed 4 0).timeSource = 4 ∧
    (timed 3 0).Serves 0 ∧ (timed 3 0).timeSource = 3 ∧ (timed 3 0).ptpTod = false ∧ (timed 4 0).motin.subs = [] := by decide +kernel

/-- Witness of FirstMeasurementStepsModuleTime. -/
theorem meets_firstMeasurement2 : (timed 3 0).timeState = tsFree ∧ (ptpOn 0 0).timeState = tsFree ∧ (ptpOn 0 0).rd OD.SOURCE_ACTIVE = 0 ∧
    (let s : State := { timed 3 0 with ptp := [(0, { PtpPort.reset with parent := some ⟨128, 6, 33, 0, 128, 77, 1, 0⟩ })] };
      s.Serves 0 ∧ s.timeSource = 3 ∧ s.timeState = tsFree) := by decide +kernel
/-! ### Loops and coaches -/

/-- A coach that is at an instruction, for the loop of an element, with a loop record, and the element's input lit. -/
def atInstr (te word : Nat) (x : CoachRec) (l : Loop) (lit : Bool := true) : State :=
  { regsOf [(okey OD.PROGRAM_STORE 0, word), (okey OD.PROGRAM_STORE 32, word), (okey OD.PROGRAM_STORE 64, word), (okey OD.OBS_MIN 0, 100), (okey OD.CEILING te, 8)] with
    coaches := [(te / 256, { x with running := true, te := te })], loops := [(te, l)]
    links := [(teDie te, { Link.reset with up := true, lanes := 4 })], monAt := [(9216, 1), (8704, 1)]
    inputs := [(0, { LitIn.reset with lit := lit })] }

/-- The coach at its start, with an observable pair of taps, and the same with samples missing. -/
def seen : CoachRec := { CoachRec.reset with taps := [3, 1, 8, 2], mDen := 1 }
def blind : CoachRec := { CoachRec.reset with missing := true }

/-- A loop in a state. -/
def inState (st : LoopState) : Loop := { Loop.reset with st := st }

/-- Witness of LoopProgramControlInstructions, LoopProgramArithmeticInstructions. -/
theorem meets_atInstr (te word : Nat) (x : CoachRec) (l : Loop) : (atInstr te word x l).Live := ⟨rfl, ⟨⟨rfl, rfl⟩, rfl⟩, rfl⟩

/-- Witness of FaultCommandsActOnTheCollector. -/
theorem meets_ecc :
    (let s : State := { base with faults := { base.faults with eccArmed := 0x5400 } }; s.Serves 0 ∧ s.faults.eccArmed = 0x5000 + 0x400 * 1 ∧
      entryValid (0x8000 : BitVec 16).toNat = true ∧ s.shadowLocked = false ∧
      entryRoute (mapEntry s.shd 3) = entryRoute (0x8000 : BitVec 16).toNat) ∧
    (let s := atInstr 0 0 CoachRec.reset { Loop.reset with leaving := true };
      let s : State := { s with coaches := [], faults := { s.faults with eccWords := [(0, 2)] } }; s.dead = false ∧ s.Calm ∧
      s.slotAhead 0 = true ∧ (s.loop 0).holdNext = none ∧ s.runsSlot 0 = true ∧ s.ucode.active = none) ∧
    (base.coach 0).running = false := by decide +kernel

/-- Witness of LoopProgramControlInstructions. -/
theorem meets_loopSlot :
    (let s : State := { base with loops := [(9215, { inState .locked with holdNext := some (3, 0) })] };
      s.Live ∧ s.slotAhead 9215 = true ∧ (s.coach 35).running = false ∧ s.runsSlot 9215 = true) ∧
    (let s : State := { base with coaches := [(35, { CoachRec.reset with slotAt := 1, slotJ := 255 })] }; s.Live ∧ s.slotAhead 9215 = false) ∧
    (let s := atInstr 0 0 seen (inState .locked); s.Live ∧ s.slotAhead 1 = true ∧ (s.coach 0).running = true) ∧
    base.ucode.active = none := by decide +kernel

/-- Witness of LoopProgramControlInstructions. -/
theorem meets_ldm :
    (let s := atInstr 8704 0x401 CoachRec.reset Loop.reset; (s.coach 34).running = true ∧ (s.coach 34).pc < 32 ∧ (s.coach 34).te / 256 = 34 ∧
      s.instruction 34 = (0x01, 1) ∧ ∀ ch ∈ s.ldmChannels 8704 1, s.monHere ch = true) ∧
    (let s := atInstr 0 0x400 CoachRec.reset Loop.reset; s.instruction 0 = (0x01, 0) ∧ ∃ ch ∈ s.ldmChannels 0 0, s.monHere ch = false) := by
  decide +kernel

/-- Witness of LoopProgramControlInstructions. -/
theorem meets_nrm :
    (let s := atInstr 0 0x80E seen (inState .locked); s.instruction 0 = (0x02, 14) ∧ (s.coach 0).missing = false ∧ bits 14 9 8 ≠ 1 ∧
      s.teLit 0 = true ∧ (ratioM (s.coach 0).taps (s.rd OD.OBS_MIN)).2.2 = true ∧ (s.loop 0).leaving = false ∧ (s.loop 0).st ≠ .coast) ∧
    (let s := atInstr 0 0x80E seen { inState .hold with leaving := true }; s.teLit 0 = true ∧ (s.loop 0).leaving = true) ∧
    (atInstr 0 0x80E seen (inState .locked) false).teLit 0 = false ∧
    (atInstr 0 0x80E blind (inState .locked)).instruction 0 = (0x02, 14) ∧ (atInstr 8704 0x90E seen (inState .locked)).instruction 34 = (0x02, 0x10E) := by decide +kernel

/-- Witness of LoopProgramControlInstructions. -/
theorem meets_phsJmpEnd :
    (let s := atInstr 2 0xC01 seen (inState .locked); s.instruction 0 = (0x03, 1) ∧ (s.coach 0).mDen ≠ 0) ∧
    (atInstr 2 0x3400 seen (inState .locked)).instruction 0 = (0x0D, 0) ∧
    (let s := atInstr 2 0 { seen with usable := true } { inState .locked with sat := true }; s.instruction 0 = (0, 0) ∧
      (s.loop 2).sat = true ∧ (s.coach 0).missing = false ∧ (s.loop 2).decision = .none ∧ (s.loop 2).acquiring = false ∧ (s.coach 0).usable = true) ∧
    (let s := atInstr 2 0 seen { inState .coast with acquiring := true }; (s.loop 2).acquiring = true ∧ (s.coach 0).missing = false) ∧
    (let s := atInstr 2 0 seen (inState .locked); (s.coach 0).usable = false ∧ (s.loop 2).st ≠ .trim ∧ (s.loop 2).st ≠ .coast) ∧
    (let s := atInstr 2 0xC00 { seen with mDen := 0 } (inState .locked); s.instruction 0 = (0x03, 0) ∧ (s.coach 0).mDen = 0) ∧
    (atInstr 2 0 blind { inState .locked with sat := true }).coach 0 = { blind with running := true, te := 2 } := by decide +kernel

/-- Witness of LoopProgramArithmeticInstructions. -/
theorem meets_errBiqSat :
    (let s := atInstr 2 0x1000 seen (inState .locked); s.instruction 0 = (0x04, 0) ∧ (s.loop 2).st ≠ .acquire) ∧
    (let s := atInstr 2 0x1400 seen (inState .locked); s.instruction 0 = (0x05, 0) ∧ bits 0 2 0 < s.nsec 2) ∧
    (let s := atInstr 2 0x1407 seen (inState .locked); s.instruction 0 = (0x05, 7) ∧ s.nsec 2 ≤ bits 7 2 0) ∧
    (let s := atInstr 2 0x1800 seen (inState .locked); s.instruction 0 = (0x06, 0) ∧ (s.loop 2).bumpless = false ∧
      clampI (s.uMin 2) (s.uMax 2) 0 = (s.coach 0).v0) ∧
    (let s := atInstr 2 0x1800 { seen with v0 := 32767 } (inState .locked)
     let t : State := { s with act := (okey OD.COEF_SET 0, 0x0704) :: (okey OD.LOOP_LIMITS 2, 0) :: s.act };
      clampI (t.uMin 2) (t.uMax 2) 32767 ≠ (t.coach 0).v0 ∧ t.nsec 2 ≤ t.awSection 2) := by decide +kernel

/-- Witness of LoopProgramArithmeticInstructions. -/
theorem meets_ffw :
    (let s := atInstr 1 0x1C00 seen (inState .locked)
     let t := fun d : Nat => ({ s with regs := (List.range 64).map (fun j => (okey OD.DRIVE_TABLE (64 + j), d)) ++ s.regs } : State)
     let code := fun d : Nat => driveCode (t d).toCore 1 (driveArg (setWords s.act) (mapEntry s.act) 1 0) 0;
      s.instruction 0 = (0x07, 0) ∧ code 8 ≤ s.ceiling 1 ∧ s.ceiling 1 < code 9) := by decide +kernel

/-- Witness of LoopProgramArithmeticInstructions. -/
theorem meets_prfFelDthCst :
    (let s := atInstr 2 0x2000 seen (inState .locked); s.instruction 0 = (0x08, 0) ∧ (s.loop 2).st ≠ .trim) ∧
    ((atInstr 2 0x2400 seen (inState .acquire)).instruction 0 = (0x09, 0)) ∧
    ((atInstr 2 0x2800 seen (inState .trim)).instruction 0 = (0x0A, 0) ∧ ((atInstr 2 0x2800 seen (inState .trim)).loop 2).st = .trim) ∧
    ((atInstr 2 0x2C00 blind (inState .locked)).instruction 0 = (0x0B, 0) ∧
      ((atInstr 2 0x2C00 blind (inState .locked)).coach 0).missing = true) := by decide +kernel

/-- Witness of LoopProgramArithmeticInstructions. -/
theorem meets_drv :
    (let s := atInstr 2 0x3000 seen (inState .locked); s.instruction 0 = (0x0C, 0) ∧ (s.loop 2).decision = .none ∧ (s.loop 2).st ≠ .hold ∧
      (s.coach 0).missing = false ∧ s.clearing 2 = false ∧ (s.link (teDie 2)).up = true ∧ (s.chan 2).queue = []) ∧
    ((atInstr 2 0x3000 seen { inState .locked with decision := .feTrip }).loop 2).decision = .feTrip := by decide +kernel

/-- A loop with a decision of its loop frame, and a loop record in a state whose running time is late. -/
def later (l : Loop) : State :=
  { regsOf [(okey OD.COAST_LIMIT 0, 2)] with up := 2 * secondUnits, loops := [(8, l)] }

/-- Witness of LoopSupervisionEvents. -/
theorem meets_supervision :
    (∀ d ∈ [Decision.lock, .acqTimeout, .feTrip], ((later { inState .acquire with decision := d }).loop 8).decision = d) ∧
    (let s := later (inState .coast); s.Live ∧ (s.loop 8).st = .coast ∧ (s.loop 8).clock.coastFired = false ∧
      (s.loop 8).clock.coastAt + nsU (s.rd OD.COAST_LIMIT) < s.up) ∧
    (let s := later { inState .locked with sat := true, clock := { Loop.reset.clock with satSince := some 0 } };
      (s.loop 8).clock.satSince = some 0 ∧ (s.loop 8).sat = true ∧ (s.loop 8).clock.satFired = false ∧ 0 + secondUnits < s.up) ∧
    (let s := later { inState .locked with lit := true, clock := { Loop.reset.clock with unobsSince := some 0 } };
      (s.loop 8).clock.unobsSince = some 0 ∧ (s.loop 8).lit = true ∧ (s.loop 8).usable = false ∧ (s.loop 8).clock.unobsFired = false ∧
        2 * 0 + nsU (s.rd OD.COAST_LIMIT) < 2 * s.up) ∧
    (base.coach 37).running = false ∧ ((atInstr 0 0 seen Loop.reset).coach 0).running = true ∧
    (let s : State := { linked with loops := [(8, { inState .hold with cause := 4 })] };
      s.Serves 0 ∧ (s.link (teDie 8)).up = true ∧ (s.loop 8).st = .hold ∧ (s.loop 8).cause = 4) := by decide +kernel

/-- Witness of LoopSupervisionEvents. -/
theorem meets_supervision2 : base.Serves 0 ∧ 9216 ≤ (9216 : BitVec 16).toNat ∧ (9216 : BitVec 16) ≠ 0xFFFF ∧ 9216 ≤ (0xFFFE : BitVec 16).toNat ∧
    (0xFFFE : BitVec 16) ≠ 0xFFFF := by decide +kernel

/-! ### Test points -/

/-- A state with a test configuration word at point 145, and a proving run between points 145 and 0. -/
def testing (w : Nat) : State := regsOf [(okey OD.TEST_CONFIG 145, w)]

/-- A proving run in progress. -/
def run : Prove := ⟨0, 1, 0, some 0, some 5, false, false, 0, 0⟩

/-- Witness of TestPointsCheckersAndTheTap. -/
theorem meets_test :
    ((testing (2 ^ 31)).Serves 0 ∧ bit ((testing (2 ^ 31)).rd OD.TEST_CONFIG 145) 31 = true ∧ bit ((testing 0).rd OD.TEST_CONFIG 145) 31 = false ∧
      (testing 0).chkLocked 145 = false ∧ (145 : Nat) ≤ 145 ∧ 145 < (146 : Nat)) ∧
    (let c := (testing (2 ^ 26)).toCore.advance 5; bit (c.rd OD.TEST_CONFIG 145) 26 = true ∧ c.chkLocked 145 = false ∧ c.test.prove = none) ∧
    (let s : State := regsOf [(okey OD.TEST_RESULT 583, 1)]; s.Live ∧ s.chkLocked 145 = true ∧ s.test.prove = none) ∧
    base.Calm ∧ ({ base with jtag := { base.jtag with st := 4, sr := [true] } } : State).Calm := by decide +kernel

/-- Witness of ProvingRunsStartAndEnd. -/
theorem meets_prove :
    (let v := 0x40000080; bits v 26 14 = 0 ∧ bits v 29 27 ≠ 7 ∧ bits v 31 30 = 1 ∧
      (let s : State := { base with lanes := [(0, { LaneRec.reset with lock := true, elsOk := true }), (1, { LaneRec.reset with lock := true, elsOk := true })] };
        s.Serves 0 ∧ s.pointCheck (bits v 13 7) = 0 ∧ s.pointCheck (bits v 6 0) = 0 ∧ s.test.prove = none)) ∧
    base.pointCheck 144 ≠ 0 ∧ base.test.prove = none ∧
    (let s : State := { base with test := { base.test with prove := some { run with start := none } } };
      s.Serves 0 ∧ s.test.prove = some { run with start := none } ∧ s.test.prove ≠ none) ∧
    (let s : State := { regsOf [(okey OD.PROVE_TIME 0, 200000)] with test := { base.test with prove := some run } };
      s.Live ∧ s.upFrame + frameUnits ≤ 0 + nsU (s.rd OD.PROVE_TIME)) ∧
    (let v := 0x80000000; bits v 26 14 = 0 ∧ bits v 29 27 ≠ 7 ∧ bits v 31 30 = 2) ∧
    (let s : State := { base with test := { base.test with prove := some run } }; s.Serves 0 ∧ s.test.prove = some run ∧
      run.start = some 0 ∧ run.tx < 128 ∧ run.rx < 128) ∧
    (let s : State := { regsOf [(okey OD.PROVE_TIME 0, 100)] with test := { base.test with prove := some run } };
      s.Live ∧ 0 + nsU (s.rd OD.PROVE_TIME) < s.upFrame + frameUnits) := by decide +kernel

/-- Witness of WrapClearKeepsEveryCount. -/
theorem meets_wrapClear : base.Serves 0 ∧ Tab.wf dfltOf base.regs = true ∧ (581 : Nat) ≤ 581 ∧ 581 < (582 : Nat) := by decide +kernel

/-! ### Calibration -/

/-- A balance element in Trim after a run of 1,024 frames, with what the run measured and what its first run left. -/
def trimming (run : Tab Int) (first : Tab (Int × Int)) : State :=
  { regsOf [(okey OD.REFINE_MAX 0, 10000)] with
    loops := [(9, { inState .trim with trimFrames := 1024 })]
    cal := { base.cal with trims := first, samples := [(9, run)] } }

/-- A quotient with a free rounding is one of the two neighbours. -/
theorem divFree_or (n d : Nat) (h : d ≠ 0) : divFree n d = n / d ∨ divFree n d = n / d + 1 := by
  unfold divFree; rw [if_neg h]; split
  · exact .inl rfl
  · split
    · exact .inr rfl
    · exact .inl rfl

/-- A sine and the cosine beside it have the squares of two values of the first quarter turn. -/
theorem sin_sq (k : Nat) : ∃ r < 257, sinTurn k * sinTurn k = sinQuarter r * sinQuarter r ∧
    sinTurn (k + 256) * sinTurn (k + 256) = sinQuarter (256 - r) * sinQuarter (256 - r) := by
  have h : (k + 256) % 1024 = if k % 1024 < 768 then k % 1024 + 256 else k % 1024 - 768 := by split <;> omega
  have m := Nat.mod_lt k (show 0 < 1024 by decide)
  unfold sinTurn
  simp only [h]
  generalize k % 1024 = q at m
  have e : ∀ a b : Nat, a = b → sinQuarter a * sinQuarter a = sinQuarter b * sinQuarter b := fun a b h => h ▸ rfl
  by_cases h1 : q ≤ 256
  · refine ⟨q, by omega, by simp [h1], ?_⟩
    rw [if_pos (by omega : q < 768)]
    split
    · exact e _ _ (by omega)
    · rw [if_pos (by omega)]; exact e _ _ (by omega)
  · by_cases h2 : q ≤ 512
    · refine ⟨512 - q, by omega, by simp [h1, h2], ?_⟩
      rw [if_pos (by omega : q < 768), if_neg (by omega)]
      split
      · exact e _ _ (by omega)
      · rw [if_pos (by omega), Int.neg_mul_neg]; exact e _ _ (by omega)
    · by_cases h3 : q ≤ 768
      · refine ⟨q - 512, by omega, by simp [h1, h2, h3, Int.neg_mul_neg], ?_⟩
        by_cases h4 : q < 768
        · rw [if_pos h4, if_neg (by omega), if_neg (by omega)]
          split
          · rw [Int.neg_mul_neg]; exact e _ _ (by omega)
          · rw [Int.neg_mul_neg]; exact e _ _ (by omega)
        · rw [if_neg h4, if_pos (by omega)]; exact e _ _ (by omega)
      · refine ⟨1024 - q, by omega, by simp [h1, h2, h3, Int.neg_mul_neg], ?_⟩
        rw [if_neg (by omega : ¬q < 768), if_pos (by omega)]; exact e _ _ (by omega)

/-- Whatever the phase of its dither and the rounding, the amplitude of one sample of 36,028,928,128 is 140,738,000 or 1 more. -/
theorem amplitude_one (te bin : Nat) : amplitude (demodulate te bin [(0, 36028928128)]) = 140738000 ∨
    amplitude (demodulate te bin [(0, 36028928128)]) = 140738001 := by
  have half : ∀ r < 129, isqrt (36028928128 * 36028928128 * (sinQuarter r * sinQuarter r) +
      36028928128 * 36028928128 * (sinQuarter (256 - r) * sinQuarter (256 - r))).toNat / 2 ^ 68 = 140738000 := by decide +kernel
  have all : ∀ r < 257, isqrt (36028928128 * 36028928128 * (sinQuarter r * sinQuarter r) +
      36028928128 * 36028928128 * (sinQuarter (256 - r) * sinQuarter (256 - r))).toNat / 2 ^ 68 = 140738000 := by
    intro r hr
    by_cases h : r < 129
    · exact half r h
    · have o := half (256 - r) (by omega)
      rw [show 256 - (256 - r) = r by omega, Int.add_comm] at o
      exact o
  simp only [demodulate, List.foldl]
  obtain ⟨r, hr, e1, e2⟩ := sin_sq (bin * (0 + 1021) + Config.ditherPhase te)
  have s : ∀ x : Int, (0 + 36028928128 * x) * (0 + 36028928128 * x) = 36028928128 * 36028928128 * (x * x) := by
    intro x; rw [Int.zero_add, Int.mul_assoc, Int.mul_left_comm x, ← Int.mul_assoc]
  have o := divFree_or (isqrt (36028928128 * 36028928128 * (sinTurn (bin * (0 + 1021) + Config.ditherPhase te) * sinTurn (bin * (0 + 1021) + Config.ditherPhase te)) +
      36028928128 * 36028928128 * (sinTurn (bin * (0 + 1021) + Config.ditherPhase te + 256) *
        sinTurn (bin * (0 + 1021) + Config.ditherPhase te + 256))).toNat) (2 ^ 68) (by decide)
  rw [e1, e2, all r hr, ← e1, ← e2, ← s, ← s] at o
  unfold amplitude
  exact o

/-- The fit of that sample is one of four, by its sign and its rounding. -/
theorem runFit_one (bin : Nat) : ∃ x ∈ [(8388 : Int), 8389, -8388, -8389], runFit 9 bin [(0, 36028928128)] = some (x, -216) := by
  have fit : ∀ r1 ∈ [(140738000 : Int), 140738001, -140738000, -140738001], ∀ r2 ∈ [140738000, 140738001],
      ∃ x ∈ [(8388 : Int), 8389, -8388, -8389], trimFit r1 r2 = some (x, -216) := by
    intro r1 h1 r2 h2
    have a : isqrt (8 * r2) = 33554 := by revert r2; decide +kernel
    have q : ∀ r ∈ [(140738000 : Int), 140738001, -140738000, -140738001],
        2 * r / (33554 : Nat) ∈ [(8388 : Int), -8389] ∧ 2 * r % (33554 : Nat) ≠ 0 := by decide +kernel
    unfold trimFit
    simp only [a]
    unfold idivFree
    have := q r1 h1
    rw [if_neg (by decide), if_neg (by decide), if_neg this.2]
    rcases List.mem_cons.mp this.1 with e | e
    · rw [e]; split <;> exact ⟨_, by decide, rfl⟩
    · rw [List.mem_singleton.mp e]; split <;> exact ⟨_, by decide, rfl⟩
  have h1 := amplitude_one 9 bin
  have h2 := amplitude_one 9 (2 * bin)
  unfold runFit
  rw [if_pos (by decide)]
  apply fit
  · rcases h1 with h | h <;> simp only [h] <;> split <;> decide
  · rcases h2 with h | h <;> rw [h] <;> decide

/-- Witness of CalibrationRequestsAndTrims. -/
theorem meets_calibration :
    (bits 0x20000007 27 14 = 0 ∧ bits 0x20000007 31 28 = 2 ∧ bits 0x20000007 13 0 ≤ 7 ∧ (2, 7) ∉ base.cal.requests ∧
      bits 0x000023FF 31 28 = 0 ∧ bits 0x000023FF 13 0 ≤ 9215) ∧
    (let s := regsOf [(okey OD.POWER_STATE 0, 4), (okey OD.FRINGE_STATE 0, 0)]; s.Serves 0 ∧ s.power = psMaint ∧ s.rd OD.FRINGE_STATE ≠ 1) ∧
    (let s : State := { regsOf [(okey OD.TRIM_POLICY 0, 2), (okey OD.TRIM_BATCH 0, 1)] with
        loops := [(9, { inState .locked with usable := true, lit := true })], cal := { base.cal with requests := [(0, 9)] }
        inputs := (List.range 512).map (fun i => (i, { LitIn.reset with lit := true })) };
      s.Live ∧ s.trimEligible 9 = true ∧ s.trimNext 9 = true ∧ s.inTrim.length < s.rd OD.TRIM_BATCH) ∧
    base.trimEligible 9 = false ∧
    (base.loop 9).st ≠ .trim ∧
    (let s : State := { base with now := 100 * 365 * 86400 * secondUnits, loops := [(9, { inState .locked with calFlag := true })] };
      s.calCurrent 9 = false ∧ 9 ∉ s.cal.notCurrent) ∧
    (let s := regsOf [(okey OD.TE_CAL_TIME 9, 0), (okey OD.CURRENT_AGE 0, 1)]; s.calCurrent 9 = true) := by decide +kernel

/-- Witness of CalibrationRequestsAndTrims. -/
theorem meets_calibration2 :
    (let s := trimming [(0, 36028928128)] []; s.Live ∧ (s.loop 9).st = .trim ∧ 1024 ≤ (s.loop 9).trimFrames ∧
      Tab.find? s.cal.trims 9 = none ∧ Tab.get s.cal.samples 9 [] = [(0, 36028928128)] ∧
      s.trimRun 9 0 0 0 = true ∧ s.trimRun 9 255 0 0 = false ∧ s.trimRun 9 0 1 0 = false ∧ s.trimRun 9 0 0 1 = false) ∧
    (∀ x ∈ [(8388 : Int), 8389, -8388, -8389], let s := trimming [] [(9, (x, -216))]; s.Live ∧ Tab.find? s.cal.trims 9 = some (x, -216) ∧
      s.trimAgrees 9 (x, -216) (x, -216) = true ∧ s.refusesFit 9 (meanFit (x, -216) (x, -216)) = false ∧
      s.trimAgrees 9 (2 ^ 24, 0) (x, -216) = false ∧
      runFit 9 0 (Tab.get s.cal.samples 9 []) = none ∧ Tab.get s.cal.fails 9 0 < 2 ∧ s.trimRun 9 0 0 1 = true) ∧
    (let s : State := { trimming [] [] with cal := { base.cal with fails := [(9, 2)] } };
      s.Live ∧ 2 ≤ Tab.get s.cal.fails 9 0 ∧ s.trimRun 9 0 2 0 = true) := by decide +kernel

/-- An overlap of channel 9664 after its 256 windows, every sample of both at one code but the given windows, with a first run. -/
def overlapping (gaps : List Nat) (first : Option (Option Nat × Int)) : Overlap :=
  let t := ((List.range 256).filter (fun n => !gaps.contains n)).map (fun n => (n, 7 * 256))
  ⟨9664, 0, [], some 0, t, t, [], first⟩

/-- A state with an overlap at the end of a run, and one with the survey calibration of converter 7 at the end of a run. -/
def runEnd (gaps : List Nat) (first : Option (Option Nat × Int)) : State :=
  { base with frames := 256, cal := { base.cal with overlaps := [(151, overlapping gaps first)] } }
def survEnd (first : Option (Option Nat × Int)) : State :=
  let t := (List.range 32).map (fun i => (i, (5 : Int)))
  { base with cal := { base.cal with survey := some ⟨7, List.replicate 16 0, 32, t, t, List.replicate 32 0, first⟩ } }

/-- Witness of ConverterCalibrationRuns. -/
theorem meets_converters :
    (let s : State := regsOf [(okey OD.CAL_ENABLE 0, 1)]; s.Live ∧ s.calBackground = true ∧ s.cal.sweepAt = none) ∧
    (regsOf [(okey OD.CAL_ENABLE 0, 0)]).calBackground = false ∧
    (let s : State := { base with cal := { base.cal with requests := [(1, 64 * 151)] } };
      s.Live ∧ s.nextChannel 151 = some 9664 ∧ s.nextChannel 0 = none ∧ Tab.find? s.cal.overlaps 151 = none ∧ s.monRuns = true ∧ s.inTrim = []) ∧
    (let s : State := { base with cal := { base.cal with requests := [(2, 7)] } };
      s.power ≠ psHalted ∧ s.pwr.shut = false ∧ s.cal.survey = none ∧ s.survNext = some 7 ∧ Tab.find? s.survey.conv 7 = none) ∧
    (let s : State := { converting .inject with cal := { base.cal with requests := [(2, 7)] } };
      s.survNext = some 7 ∧ Tab.find? s.survey.conv 7 = some ⟨.inject, 103, 4, 0, 0, 0, 0, false⟩ ∧ 7 ∉ s.cal.deferred) := by decide +kernel

/-- What a run gives agrees with itself, and with no run whose offset is 64 codes away. Witness of ConverterCalibrationRuns. -/
theorem meets_converters1 (r : Option Nat × Int) : (∀ gaps, (1 : Fin 2).val = bn (overlapping gaps (some r)).first.isSome) ∧
    pairAgrees r r = true ∧ pairAgrees (none, r.2 + 2 ^ 30) r = false := by
  refine ⟨fun _ => rfl, ?_, ?_⟩
  · rcases r with ⟨_ | g, o⟩ <;> simp [pairAgrees]
  · simp [pairAgrees] <;> omega

/-- Witness of ConverterCalibrationRuns. -/
theorem meets_converters2 :
    ((runEnd [0, 16, 32, 48] none).Live ∧ Tab.find? (runEnd [0, 16, 32, 48] none).cal.overlaps 151 = some (overlapping [0, 16, 32, 48] none) ∧ 0 + 256 ≤ (runEnd [0, 16, 32, 48] none).frames ∧
      (overlapping [0, 16, 32, 48] none).base = some 0 ∧ (List.range 16).countP (overlapping [0, 16, 32, 48] none).discards ≤ 4 ∧ (overlapping [0, 16, 32, 48] none).first = none ∧
      (0 : Fin 2).val = bn (overlapping [0, 16, 32, 48] none).first.isSome) ∧
    4 < (List.range 16).countP (overlapping [0, 16, 32, 48, 64] none).discards ∧
    Tab.find? base.cal.overlaps 151 = none ∧ (runEnd [0, 16, 32, 48] none).frames < 1 + 256 := by decide +kernel

/-- Witness of ConverterCalibrationRuns. -/
theorem meets_converters3 :
    (let s := survEnd none; s.Live ∧ (s.cal.survey.map SurvCal.next) = some 3) ∧
    (let s : State := { survEnd none with cal := { (survEnd none).cal with fails := [(2 * 16384 + 7, 2)] } };
      s.Live ∧ 2 ≤ Tab.get s.cal.fails (2 * 16384 + 7) 0) := by decide +kernel

/-- A full fringe calibration: at its end or not, with a failed solve or not. -/
def fringed (finished bad : Bool) : State :=
  { base with cal := { base.cal with fringe := some ⟨[], [], [], [], [], [], false, 5, 0, [], [], finished, bad⟩ } }

/-- Witness of FringeCalibrationEndReportsItsResult. -/
theorem meets_fringeEnd :
    base.cal.fringe = none ∧ (fringed true false).Live ∧ (fringed true true).Live ∧
    (fringed true false).cal.fringe = some ⟨[], [], [], [], [], [], false, 5, 0, [], [], true, false⟩ ∧
    ((List.range 4352).filter (fun k => !([] : List Nat).contains k)).length = (4352 : Fin 4353).val ∧ (3 : BitVec 8).toNat = 3 ∧
    base.rd OD.CAL_FAILURES = 0 ∧ (fringed false false).cal.fringe = some ⟨[], [], [], [], [], [], false, 5, 0, [], [], false, false⟩ := by decide +kernel

/-! ### Maps, slots and solves -/

/-- A state in which slot 63 has a status, and a map of outputs to input 5 under settings of zeros. -/
def slotted (status : Nat) (outs : List Nat) (more : Tab Nat := []) : State :=
  regsOf (more ++ (okey OD.SLOT_STATUS 63, status) :: outs.map (fun o => (okey OD.SLOT_MAP (512 * 63 + o), 5)))

/-- Witness of MapWritesAndSolveCommands. -/
theorem meets_maps :
    (base.Serves 0 ∧ bits base.faults.eccArmed 15 12 = 0 ∧ entryValid 0x5 = true ∧ entryValid 0x8000 = true ∧ entryValid 0x8001 = false ∧
      base.shadowLocked = false ∧ (regsOf [(okey OD.TT_STATE 0, 1)]).shadowLocked = true ∧ (regsOf [(okey OD.TT_STATE 0, 1)]).Serves 0) ∧
    (base.solveCheck 0x00FFFF00 = 0 ∧ base.solveCheck 0xFFFFFFFF ≠ 0 ∧ bits 0x00FFFF00 23 16 = 255) ∧
    (base.slotInUse 63 = false ∧ base.slotHasMap 63 = false) ∧
    (let s := slotted 0x40000000 [(pathOf (fun _ => 0) 5).2]; s.Serves 0 ∧ s.slotHasMap 63 = true ∧ s.slotMap 63 ≠ [] ∧
      firstConflict [] (circuits (s.slotMap 63)) = none ∧ ∀ q ∈ circuits (s.slotMap 63), (pathOf (slotWords s.toCore 63) q.1).2 = q.2) ∧
    (let s := slotted 0x40000000 [3, 8]; s.slotHasMap 63 = true ∧ firstConflict [] (circuits (s.slotMap 63)) = some 8) ∧
    base.col = none := by decide +kernel

/-- Witness of MapWritesAndSolveCommands. -/
theorem meets_maps2 :
    (let s := slotted 0x40000000 [3]; s.Serves 0 ∧ s.slotHasMap 63 = true ∧ firstConflict [] (circuits (s.slotMap 63)) = none ∧
      ((circuits (s.slotMap 63)).find? (fun q => decide ((pathOf (slotWords s.toCore 63) q.1).2 ≠ q.2))).isSome = true) ∧
    (slotted 0x50000000 [3]).slotInUse 63 = true ∧ (slotted 0x50000000 [3]).Serves 0 := by decide +kernel

/-- Witness of SlotsSaveAndLoadTheShadowSet. -/
theorem meets_slots :
    (base.rd OD.SHADOW_SOLVED ≠ 0 ∧ base.slotInUse 63 = false ∧ Tab.wf dfltOf base.regs = true) ∧
    (slotted 0x50000000 [3]).slotInUse 63 = true ∧
    (let s := slotted 0xC0000000 [3]; s.Serves 0 ∧ s.slotValid 63 = true ∧ s.shadowLocked = false) ∧ base.slotValid 63 = false ∧
    Tab.wf dfltOf base.shd = true := by decide +kernel

/-- A solve in progress of a map, with nothing for its reference. -/
def solving (m : Tab Nat) : State := { base with col := some ⟨true, true, 255, false, m, [], [], []⟩ }

/-- Witness of SolveEndsDoneOrFailed. -/
theorem meets_solve :
    (solving [(0, 5), (1, 5)]).Live ∧ (solving []).motin.subs = [] ∧ bits (solving []).faults.eccArmed 15 12 = 0 ∧
    (([(0, 5), (1, 5)] : Tab Nat).map (·.1)).Nodup ∧ (∀ q ∈ ([(0, 5), (1, 5)] : Tab Nat), q.1 < 512) ∧
    firstConflict [] (circuits [(0, 5), (1, 5)]) = some 1 ∧ firstConflict [] (circuits [(0, 5), (1, 6)]) = none := by decide +kernel

/-! ### Traverses -/

/-- A commit at a boundary far ahead or near, pending or begun. -/
def commit (t : Instant) (begun : Bool) : Commit := ⟨9, t, begun, false, none, [], [(511, 0)], [(127, true)], [], false, false, false⟩

/-- A state with a commit. -/
def committed (t : Instant) (begun : Bool) (more : Tab Nat := []) : State :=
  { regsOf more with trav := { base.trav with cur := some (commit t begun) } }


/-- Witness of TraverseEventsCompleteWhereDue. -/
theorem meets_cancel :
    base.trav.cur = none ∧
    (let s : State := { base with trav := { base.trav with cur := some { commit 0 false with slot := some 3 } } };
      s.Serves 0 ∧ s.trav.cur = some { commit 0 false with slot := some 3 }) ∧
    (let k := { commit 0 false with suspended := true }
     let s : State := { base with trav := { base.trav with cur := some k } };
      s.Serves 0 ∧ s.trav.cur = some k ∧ k.slot = none ∧ k.suspended = true) ∧
    (commit 1966080000 false).slot = none ∧ (commit 1966080000 false).suspended = false ∧
    (let s := committed 1966080000 false; s.Serves 0 ∧ s.trav.cur = some (commit 1966080000 false) ∧ 1966080000 - 3 * frameUnits ≤ s.now) ∧
    (let s := committed (9 * frameUnits) false; s.now < 9 * frameUnits - 3 * frameUnits ∧ s.motin.subs = []) := by decide +kernel

/-- Witness of TraverseEventsCompleteWhereDue. -/
theorem meets_traverse :
    (let s := committed 0 false; s.Live ∧ 0 - 3 * frameUnits ≤ s.now ∧ s.inCharge = true ∧ ∀ q ∈ s.loops, q.2.st ≠ .trim) ∧
    (committed 0 false [(okey OD.SUP_STATE 0, 1)]).inCharge = false ∧
    ((commit 0 true).ramps.find? (fun q => q.1 == 511) = some (511, 0) ∧ 0 ≤ (committed 0 true).now) ∧
    (let s : State := { base with trav := { base.trav with copyBack := true } }; s.Live ∧ s.trav.copyBack = true ∧ s.trav.copyClass = false) ∧
    base.trav.copyBack = false ∧ base.trav.copyClass = false ∧ Tab.wf (fun _ => Loop.reset) base.loops = true ∧
    ((commit 0 false).frozen = false ∧ (commit 0 false).suspended = false ∧ (commit 0 false).begun = false ∧ (commit 0 false).slot = none) ∧
    (let s := committed (4 * frameUnits) false; s.Live ∧ s.now < 4 * frameUnits - 3 * frameUnits) ∧
    (let s : State := { regsOf [(okey OD.LAST_T 0, 0)] with
        trav := { base.trav with copyClass := true }
        pkt := { base.pkt with gen := 1, recirc := [(0, [⟨0, [], 0, true, 0, 0, 0, 0, 0⟩])] } };
      s.pkt.recirc.foldl (fun n q => n + q.2.countP s.pinned) 0 ≠ 0 ∧ s.now < ofTime64 (s.rd OD.LAST_T) + drainUnits) ∧
    (let s : State := { base with trav := { base.trav with copyClass := true } }; s.trav.copyClass = true ∧
      ∀ q ∈ s.pkt.recirc, ∀ x ∈ q.2, x.gen = s.pkt.gen) ∧
    (let s : State := { regsOf [(okey OD.LAST_T 0, 0)] with
        now := drainUnits, trav := { base.trav with copyClass := true }
        pkt := { base.pkt with gen := 1, recirc := [(0, [⟨0, [], 0, true, 0, 0, 0, 0, 0⟩])] } };
      s.pkt.recirc.foldl (fun n q => n + q.2.countP s.pinned) 0 ≠ 0 ∧ ofTime64 (s.rd OD.LAST_T) + drainUnits ≤ s.now) := by decide +kernel

/-- A state inside guard windows that opened for a traverse long past. -/
def guarded (rx lock : Bool) : State :=
  { base with now := nsU 50000, trav := { base.trav with guards := [⟨3, rx, 0⟩] }, lanes := [(3, { LaneRec.reset with lock := lock })] }

/-- Witness of TraverseEventsCompleteWhereDue. -/
theorem meets_guards :
    (let s := committed frameUnits true [(okey OD.DRAIN_GUARD 0, 600)]; s.Live ∧ s.frameEnd = frameUnits ∧ (commit frameUnits true).lanes ≠ [] ∧
      (∀ g ∈ s.trav.guards, g.t ≠ frameUnits) ∧ s.now ≤ frameUnits - nsU (s.rd OD.DRAIN_GUARD)) ∧
    (∀ g ∈ base.trav.guards, base.frameEnd ≤ g.t + nsU 3000) ∧
    (let s := guarded true true; s.Live ∧ ∃ g ∈ s.trav.guards, g.t + nsU 3000 < s.frameEnd) ∧
    (let s := guarded true false
     let due := s.trav.guards.filter (fun g => g.rx && decide (g.t + nsU 43000 < s.frameEnd) && !(s.lane g.lane).lock);
      due.filter (fun g => !(s.portOf g.lane).any s.derivedNow) ≠ []) := by decide +kernel

/-! ### Timetables -/

/-- A state whose bank 0 names slot 10 for 200 frames and bank 1 the same, under a timetable state. -/
def tabled (tt : Nat) (more : Tab Nat := []) : State :=
  regsOf (more ++ [(okey OD.TT_STATE 0, tt), (okey OD.TIME_STATE 0, 2), (okey OD.UNSYNCHRONIZED 0, 0), (okey OD.TT_BASE 0, 0),
    (okey OD.TT_COUNT_0 0, 1), (okey OD.TT_COUNT_1 0, 1), (okey OD.TT_LIST 0, 0x280000C8), (okey OD.TT_LIST 64, 0x280000C8),
    (okey OD.SLOT_STATUS 10, 0xC0000000)])

/-- Witness of TimetableCommandsComplete. -/
theorem meets_timetable :
    (let s := tabled 0 [(okey OD.TT_BANK 0, 1)]; s.Serves 0 ∧ bits s.faults.eccArmed 15 12 = 0 ∧ s.rd OD.TT_BANK ≤ 1 ∧ 1 ≤ s.ttCount 1 ∧ s.ttCount 1 ≤ 64 ∧
      s.rd OD.UNSYNCHRONIZED ≠ 1 ∧ s.timeState ≠ tsFree ∧ s.power = psRun ∧ s.rd OD.TT_STATE = 0 ∧ s.trav.cur = none ∧
      s.trav.copyBack = false ∧ s.fringeRunning = false ∧ s.leavingDormant = false ∧ (s.ttCheck 1).1 = 0) ∧
    (tabled 0 [(okey OD.TT_BANK 0, 1), (okey OD.UNSYNCHRONIZED 0, 1)]).rd OD.UNSYNCHRONIZED = 1 ∧
    (tabled 0 [(okey OD.TT_BANK 0, 1), (okey OD.TIME_STATE 0, 0)]).timeState = tsFree ∧
    (let s := tabled 2 [(okey OD.TT_BANK 0, 1), (okey OD.TT_RUN_BANK 0, 0)]; s.Serves 0 ∧ s.rd OD.TT_STATE = 2 ∧ s.tt.replace = none ∧
      s.rd OD.TT_BANK ≠ s.rd OD.TT_RUN_BANK ∧ s.tt.stopping = false ∧ (s.ttCheck 1).1 = 0 ∧ s.trav.cur = none) ∧
    (let s : State := { tabled 2 with trav := { base.trav with cur := some { commit 0 true with slot := some 10 } } };
      s.Serves 0 ∧ s.trav.cur = some { commit 0 true with slot := some 10 }) ∧
    (let s := tabled 3 [(okey OD.TT_RUN_BANK 0, 0)]
     let x := s.ttFrom 0 s.tt.start (s.now + leadUnits); s.rd OD.TT_STATE = 3 ∧ s.tt.replace = none ∧ s.slotValid (s.ttSlot 0 x.2) = true) ∧
    ((tabled 0 [(okey OD.TT_LIST 64, 0x28000001)]).ttCheck 1).1 ≠ 0 := by decide +kernel

/-- Witness of TimetableCommandsComplete. -/
theorem meets_notBegun : ∀ k, (tabled 2).trav.cur = some k → k.begun = false ∧ k.t < 5 := by
  intro k h; cases (show (none : Option Commit) = some k from h)

/-! ### Lanes and packets -/

/-- A frame of 64 bytes with a right FCS. -/
def frame : List Byte := let b := be 12 0x010203040506 ++ be 2 0x0800 ++ be 46 7; b ++ fcsOf b

/-- PORT_CONFIG of an enabled port of one lane, frames up to 1,518 bytes. -/
def portWord : Nat := 2 ^ 31 + 1518 * 2 ^ 14

/-- A state with port 0 enabled on lane 0, Up or Down, whose lane is locked or not, with what the packet engine holds. -/
def ported (up lock : Bool) (more : Tab Nat := []) (pkt : Pkt := base.pkt) : State :=
  { regsOf (more ++ [(okey OD.PORT_CONFIG 0, portWord), (okey OD.PIPE_CLOCK 0, 1000), (okey OD.QUEUE_CONFIG 0, 2 ^ 63),
      (okey OD.BUF_PROFILE 0, 10 * 2 ^ 48 + 1000 * 2 ^ 29), (okey OD.PORT_DOWN_FLUSH 0, 1)]) with
    lanes := [(0, { LaneRec.reset with lock := lock, elsOk := true })], ports := [(0, { PortRec.reset with up := up })], pkt := pkt }

/-- Witness of LanesAndPortsFollowTheirConditions. -/
theorem meets_lanes :
    ((7 : Fin 8).val ∉ base.elsDark) ∧
    (let c := (ported false false).toCore.advance 5; c.lanesOn = true ∧ (c.lane 127).lock = false ∧ c.portOf 127 = none ∧
      (c.lane 0).lock = false ∧ c.portOf 0 = some 0 ∧ c.portGuarded 0 = false ∧
      (let d : Core := { c with lanes := Tab.put c.lanes 0 { c.lane 0 with lock := true } LaneRec.reset };
        (d.port 0).up = false ∧ d.portReady 0 = true ∧ portHold (d.portCfg 0) = 0)) ∧
    (let c : Core := (ported false false [(okey OD.PORT_CONFIG 0, portWord + 5)]).toCore;
      c.portOf 0 = some 0 ∧ c.portGuarded 0 = false ∧ 0 < portHold (c.portCfg 0)) ∧
    (let c : Core := { (ported false false).toCore with trav := { base.trav with guards := [⟨0, true, 0⟩] } }
     let d : Core := { c with lanes := Tab.put c.lanes 0 { c.lane 0 with lock := true, lostIn := false } LaneRec.reset };
      c.lanesOn = true ∧ c.portGuarded 0 = true ∧ d.portGuarded 0 = true ∧ (d.port 0).up = false ∧ d.portReady 0 = true ∧
        (d.port 0).since + nsU (1000000 * portHold (d.portCfg 0)) ≤ d.up) ∧
    ((ported true true).Live ∧ ((ported true true).lane 0).lock = true ∧ ((ported true false).lane 0).lock = false) ∧
    (let s : State := { ported false true with up := 9, ports := [(0, { PortRec.reset with since := 9 })] };
      s.Live ∧ (s.port 0).up = false ∧ (s.port 0).since = 9 ∧ s.portReady 0 = true ∧ 9 + nsU (1000000 * portHold (s.portCfg 0)) ≤ s.up) ∧
    (let s : State := { ported false true [(okey OD.PORT_CONFIG 0, portWord + 5)] with ports := [(0, { PortRec.reset with since := 0 })] };
      s.portReady 0 = true ∧ s.up < 0 + nsU (1000000 * portHold (s.portCfg 0))) ∧
    (let s : State := { ported false true with up := nsU 2, ports := [(0, { PortRec.reset with downSince := some 0 })] };
      s.Live ∧ (s.port 0).downSince = some 0 ∧ (s.port 0).up = false ∧ (s.port 0).flushed = false ∧ s.portEnabled 0 = true ∧
        s.portGuarded 0 = false ∧ 0 + nsU (s.rd OD.PORT_DOWN_FLUSH) < s.up) := by decide +kernel

/-- Witness of FramesArriveAndAreCounted. -/
theorem meets_receive :
    (let x := fun n => (⟨0, List.replicate n 0, 0, false, 0, 0, 0, 0, 0⟩ : Packet)
     let c := (ported true true [] { base.pkt with ingress := [(0, [x 16384])] }).toCore.advance 5;
      c.portEnabled 0 = true ∧ (c.port 0).up = true ∧
        portWidth (c.portCfg 0) * 16384 < packetBytes (Tab.get c.pkt.ingress 0 []) + frame.length) ∧
    (let c := (ported true true).toCore.advance 5
     let bad := be 60 0 ++ be 4 1
     let pause := let b := be 12 1 ++ be 2 0x8808 ++ be 2 1 ++ be 44 0; b ++ fcsOf b;
      c.portEnabled 127 = false ∧ c.portEnabled 0 = true ∧ (c.port 0).up = true ∧ (be 63 0).length < 64 ∧
      (portMax (c.portCfg 0) < (be 1519 0).length ∧ 64 ≤ (be 1519 0).length) ∧
      (64 ≤ bad.length ∧ bad.length ≤ portMax (c.portCfg 0) ∧ fcsGood bad = false) ∧
      (pause.length = 64 ∧ fcsGood pause = true ∧ isPause pause = true) ∧
      (frame.length = 64 ∧ fcsGood frame = true ∧ isPause frame = false ∧
        packetBytes (Tab.get c.pkt.ingress 0 []) + frame.length ≤ portWidth (c.portCfg 0) * 16384)) ∧
    Tab.get base.pkt.ingress 127 [] = [] ∧ Tab.get base.pkt.recirc 3 [] = [] := by decide +kernel

/-- An entry of profile 31 with an empty key, whose action is queue 0. -/
def entry : Nat := (2 ^ 63 + 31 * 2 ^ 58) * 2 ^ 128 + 2 * 2 ^ 125

/-- A packet that waits for a pass. -/
def packet (second : Bool) : Packet := ⟨0, frame, 0, second, 31, 0, 0, 0, 0⟩

/-- A state whose classification takes that packet to queue 0. -/
def classing (second : Bool) : State :=
  { ported true true [] { base.pkt with ingress := [(0, [packet false])], recirc := [(0, [packet second])] } with
    act := (okey OD.PORT_PARSE 0, 0x3F00) :: (okey OD.PARSE_NODE 63, 0) :: (okey OD.PROFILE_MAP 63, 31) :: (okey OD.CLASS_TABLE 262144, entry) ::
      (List.range 8).map (fun i => (okey OD.KEY_PROFILE (248 + i), 0)) }

/-- Witness of PassesTakeThePacketToItsQueue. -/
theorem meets_pass (b : Bool) :
    (classing b).Live ∧ (classing b).engineOn = true ∧ (packet b).second = b ∧
    (let s := classing b
     let x := packet b
     let st := if b ∧ s.pinned x then s.shd else s.act
     let hs := parse st x.port x.bytes
     let last := match hs.1.getLast? with
       | some h => h.1
       | none => 63
     let y := if b then x else { x with tc := bits (portParse st x.port) 5 3 }
     let prof := if b then x.profile else storeGet st (okey OD.PROFILE_MAP (64 * bits (portParse st x.port) 7 6 + last))
     let k := buildKey st prof x.bytes (metaBlock y false) hs.1
     let a := entAction (classAt st 262144)
     let q := bits a 124 107
     let w := s.queueCfg q
     hs.2 = .none ∧ prof ≠ 255 ∧ classFind st (prof, k.2, beNat k.1) = some 262144 ∧ bits a 127 125 = 2 ∧ bit a 86 = false ∧
     bit a 102 = false ∧ bit a 67 = false ∧ bit a 103 = false ∧ bits a 62 61 = 0 ∧ x.colour = 0 ∧ queueOn w = true ∧
     s.portEnabled (queuePort q) = true ∧ (s.port (queuePort q)).flushed = false ∧
     s.gateOversize (queuePort q) (queueTc w) x.bytes.length = false ∧ s.admits q (cellsOf x.bytes.length) 1 = true ∧
     Tab.get s.pkt.ingress 0 [] = packet false :: [] ∧ Tab.get s.pkt.recirc 0 [] = packet b :: []) := by
  cases b <;> decide +kernel

/-- Witness of PassesTakeThePacketToItsQueue. -/
theorem meets_pass2 : (regsOf [(okey OD.POWER_STATE 0, 1)]).Live ∧ (regsOf [(okey OD.POWER_STATE 0, 1)]).engineOn = false := by decide +kernel

/-- A state with a frame in queue 0 whose turn it is. -/
def queued : State :=
  ported true true [] { base.pkt with queues := [(0, [⟨frame, 1, none, 0, none⟩])], pointers := [(0, 0)], deficits := [(0, 64)] }

/-- Witness of FramesLeaveQueuesAndPorts. -/
theorem meets_egress :
    (let c := (ported false true).toCore.advance 0; (c.port 0).up = false) ∧
    (let c := queued.toCore.advance 0
     let f : QFrame := ⟨frame, 1, none, 0, none⟩;
      queued.Live ∧ (c.port 0).up = true ∧ c.txFree 0 = true ∧ c.portQueues 0 = [0] ∧ c.queue 0 = f :: [] ∧ f.ecc = 0 ∧ queuePort 0 = 0 ∧
      c.gateOversize 0 (queueTc (c.queueCfg 0)) 64 = false ∧ c.wantsToSend 0 = true ∧ c.headHeld 0 = none ∧ c.shaperOf 0 = none ∧
      Tab.find? c.pkt.pointers (8 * 0 + queueTc (c.queueCfg 0)) = some 0 ∧ f.bytes.length ≤ Tab.get c.pkt.deficits 0 0) ∧
    (let s := ported true true [(okey OD.QUEUE_CONFIG 0, 2 ^ 63 + 2 ^ 48)] { base.pkt with queues := [(0, [⟨frame, 1, none, 0, none⟩])] }
     let c := s.toCore.advance 0
     let cls := queueTc (c.queueCfg 0);
      s.Live ∧ Tab.find? c.pkt.pointers (8 * 0 + cls) = none ∧ cls < 8 ∧
        ((c.portQueues 0).filter (fun x => decide (queueTc (c.queueCfg x) = cls) && c.wantsToSend x)).head? = some 0 ∧
        frame.length ≤ Tab.get (Tab.modify c.pkt.deficits 0 0 (· + 256 * queueWeight (c.queueCfg 0))) 0 0) ∧
    base.toCore.portQueues 0 = [] ∧
    (let x := fun d : Nat => (⟨0, some ⟨frame, 1, none, 0, none⟩, d, d⟩ : TxRec)
     let c := (ported true true [] { base.pkt with tx := [(0, x 7)] }).toCore.advance 0;
      Tab.find? c.pkt.tx 0 = some (x 7) ∧ c.up < (x 7).done ∧ (x 0).done ≤ c.up ∧ (x 7).queue < 262144) ∧
    (let c := (ported true true [] { base.pkt with gates := [(0, ⟨0, 255, false⟩)] }).toCore.advance 0;
      (c.gateRec 0).started = false ∧ (c.gateRec 0).start ≤ c.now) := by decide +kernel

/-- Witness of RefillEpochsFillEveryBucket. -/
theorem meets_refill :
    (base.Live ∧ Tab.wf dfltOf base.regs = true ∧ base.pkt.epoch ≤ 48 ∧ base.engineOn = true) ∧
    (let s : State := { base with regs := [(okey OD.SUP_STATE 0, 0), (okey OD.POWER_STATE 0, 1), (okey OD.BOOT_STATE 0, 1)] };
      Tab.wf dfltOf s.regs = true ∧ s.engineOn = false) := by decide +kernel

/-- A state with a staged entry and what its two banks hold at its first way position. -/
def staging (v : Nat) (shd act : Tab Nat) : State :=
  { regsOf [(okey OD.CLASS_STAGE 0, v)] with shd := shd ++ base.shd, act := act ++ base.act }

/-- Witness of ClassificationAndFlowCommands. -/
theorem meets_class :
    (let s := staging 0 [] []; s.Serves 0 ∧ s.shadowLocked = false ∧ s.classFrozen = false ∧
      entValid (s.rd OD.CLASS_STAGE) = false) ∧
    (let s := staging entry [] []; entValid (s.rd OD.CLASS_STAGE) = true ∧ classFind s.shd (entMatch entry) = none ∧
      (wayPositions (entMatch entry)).find? (fun k => !entValid (classAt s.shd k)) = some (wayPos (entMatch entry) 0)) ∧
    (let e := [(okey OD.CLASS_TABLE 262144, entry)]
     let s := staging entry e e; classFind s.shd (entMatch (s.rd OD.CLASS_STAGE)) = some 262144 ∧
      classFind s.act (entMatch (s.rd OD.CLASS_STAGE)) = some 262144) ∧
    base.classWriteCheck 262144 entry = 0 ∧ base.classWriteCheck 0 (entry + 2 ^ 160) ≠ 0 ∧ (2 : BitVec 8) ≠ 1 := by decide +kernel

/-- An entry whose key has the four way positions of `entry` (its CRC is the same in the low 16 bits), and one whose key has others. -/
def twin : Nat := entry + 25048 * 2 ^ 192
def other : Nat := entry + 2 ^ 192

/-- A shadow bank whose way positions of `entry` hold an entry, and the first so many of the stash `twin`. -/
def full (v stash : Nat) : Tab Nat :=
  (wayPositions (entMatch entry)).map (fun k => (okey OD.CLASS_TABLE k, v)) ++
    (List.range stash).map (fun i => (okey OD.CLASS_TABLE (262144 + i), twin))

/-- Witness of ClassificationAndFlowCommands. -/
theorem meets_class2 :
    (let s := staging entry (full other 0) []
     let ways := wayPositions (entMatch entry);
      s.Serves 0 ∧ classFind s.shd (entMatch entry) = none ∧ ways.find? (fun k => !entValid (classAt s.shd k)) = none ∧
        ((findChain s.shd 4 (ways.map (fun k => [k]))).bind List.getLast?).isSome = true) ∧
    (let s := staging entry (full twin 0) []
     let ways := wayPositions (entMatch entry);
      classFind s.shd (entMatch entry) = none ∧ ways.find? (fun k => !entValid (classAt s.shd k)) = none ∧
        findChain s.shd 4 (ways.map (fun k => [k])) = none ∧ freeStash s.shd = some 262144) ∧
    (regsOf [(okey OD.TT_STATE 0, 1)]).shadowLocked = true := by decide +kernel

/-- The value of a listed key of a table that lists one value alone. -/
theorem get_only (v : Nat) : ∀ (t : Tab Nat) (k d : Nat), (∀ p ∈ t, p.2 = v) → (∃ w, (k, w) ∈ t) → Tab.get t k d = v
  | [], _, _, _, h => by simp at h
  | (a, w) :: r, k, d, hv, h => by
    unfold Tab.get
    split
    · exact hv (a, w) (by simp)
    · next ne =>
      obtain ⟨u, h⟩ := h
      rcases List.mem_cons.mp h with h | h
      · exact absurd (congrArg Prod.fst h).symm ne
      · exact get_only v r k d (fun p hp => hv p (by simp [hp])) ⟨u, h⟩

/-- The valid stash positions of a bank whose way positions and stash hold `twin`. -/
theorem used_full : (classUsed (full twin 1024)).filter (fun p => decide (262144 ≤ p)) = (List.range 1024).map (262144 + ·) := by
  have ways : (classUsed (full twin 0)).filter (fun p => decide (262144 ≤ p)) = [] := by decide +kernel
  have valid : entValid twin = true := by decide +kernel
  have key : ∀ i < 1024, okeyObj (okey OD.CLASS_TABLE (262144 + i)) = OD.CLASS_TABLE ∧
      okeyElem (okey OD.CLASS_TABLE (262144 + i)) = 262144 + i := by
    intro i h; simp only [okeyObj, okeyElem, okey]; omega
  have stash : classUsed ((List.range 1024).map (fun i => (okey OD.CLASS_TABLE (262144 + i), twin))) = (List.range 1024).map (262144 + ·) := by
    have all : ∀ l : List Nat, (∀ i ∈ l, i < 1024) →
        classUsed (l.map (fun i => (okey OD.CLASS_TABLE (262144 + i), twin))) = l.map (262144 + ·) := by
      intro l
      induction l with
      | nil => intro _; rfl
      | cons i l ih =>
        intro h
        have e := key i (h i (by simp))
        have r := ih (fun j hj => h j (by simp [hj]))
        simp only [classUsed, storeListed, List.map_cons, List.filterMap_cons] at r ⊢
        simp only [e, valid, if_true, List.filterMap_cons, r]
    exact all _ (fun i h => by simpa using h)
  have split : full twin 1024 = full twin 0 ++ (List.range 1024).map (fun i => (okey OD.CLASS_TABLE (262144 + i), twin)) := by
    simp [full]
  rw [split]
  have app : ∀ a b : Tab Nat, classUsed (a ++ b) = classUsed a ++ classUsed b := by simp [classUsed, storeListed]
  rw [app, List.filter_append, ways, stash, List.nil_append, List.filter_eq_self]
  simp

/-- A full stash: no place for an entry whose way positions hold the same four positions' entries. Witness of ClassificationAndFlowCommands. -/
theorem meets_class3 :
    freeStash (staging entry (full twin 1024) []).shd = none ∧ classFind (staging entry (full twin 1024) []).shd (entMatch entry) = none ∧
    (let s := staging entry (full twin 1024) []
     let ways := wayPositions (entMatch entry);
      s.Serves 0 ∧ s.shadowLocked = false ∧ s.classFrozen = false ∧ s.rd OD.CLASS_STAGE = entry ∧ entValid entry = true ∧
      ways.find? (fun k => !entValid (classAt s.shd k)) = none ∧ findChain s.shd 4 (ways.map (fun k => [k])) = none) := by
  have shd : (staging entry (full twin 1024) []).shd = full twin 1024 := List.append_nil _
  refine ⟨?_, ?_, by decide +kernel⟩
  · rw [shd, freeStash, used_full, List.findSome?_eq_none_iff]
    intro i h
    simp at h
    simp
    omega
  · rw [shd, classFind, used_full, List.find?_eq_none]
    have only : ∀ p ∈ full twin 1024, p.2 = twin := by
      intro p h
      simp only [full, List.mem_append, List.mem_map] at h
      rcases h with ⟨_, _, rfl⟩ | ⟨_, _, rfl⟩ <;> rfl
    intro p h
    have mem : (okey OD.CLASS_TABLE p, twin) ∈ full twin 1024 := by
      rcases List.mem_append.mp h with h | h
      · exact List.mem_append_left _ (List.mem_map_of_mem h)
      · obtain ⟨i, h, e⟩ := List.mem_map.mp h
        exact List.mem_append_right _ (List.mem_map.mpr ⟨i, h, by rw [← e]⟩)
    have this : classAt (full twin 1024) p = twin := get_only twin _ _ _ only ⟨twin, mem⟩
    have ne : entMatch twin ≠ entMatch entry := by decide +kernel
    rw [this]
    simp [ne]

/-- Witness of ClassificationAndFlowCommands. -/
theorem meets_window :
    (let s := regsOf [(okey OD.BW_WINDOW 0, 1000), (okey OD.BW_LAST_END 0, 5)]
     let t1 := s.frameStart + (min 0 (frameNs - 1)) * unitsPerNs;
      s.Live ∧ t1 % secondUnits % (s.rd OD.BW_WINDOW * nsU 1000) = 0 ∧ ofTime64 (s.rd OD.BW_LAST_END) ≠ t1) ∧
    (let s := regsOf [(okey OD.BW_WINDOW 0, 1000)]
     let t1 := s.frameStart + (min 7 (frameNs - 1)) * unitsPerNs; t1 % secondUnits % (s.rd OD.BW_WINDOW * nsU 1000) ≠ 0) := by
  decide +kernel

/-! ### Motin -/

/-- A request of the active supervisor of path 0, and a state in which it waits at the head of its path's queue. -/
def request (type : Nat) (body : List Byte) : Request := ⟨type, 0, 77, body, ⟨1, 9⟩, 0⟩
def asked (type : Nat) (body : List Byte) (s : State := base) : State :=
  { s with motin := { s.motin with queues := [(0, [request type body])] } }

/-- The body of a WRITE of one object. -/
def writing (obj : Nat) (v : List Byte) : List Byte := be 1 1 ++ be 3 0 ++ be 4 (obj * 256) ++ be 2 v.length ++ be 2 0 ++ v

/-- Witness of MotinRequestsAreTakenInTurn. -/
theorem meets_turn :
    base.motin.queue 0 = [] ∧
    (let s := asked 2 (writing 0x120101 (be 4 0)); s.Live ∧ s.motin.queue 0 = [request 2 (writing 0x120101 (be 4 0))] ∧ s.motin.turnOf 0 = true ∧
      s.motin.keyWrites = [] ∧ s.motin.addrWrites = []) ∧
    (let s : State := { base with motin := { base.motin with queues := [(0, [request 1 []]), (1, [request 1 []])], turn := 1 } };
      s.motin.turnOf 0 = false) ∧
    bodyAbort (request 1 []) ≠ 0 ∧ bodyAbort (request 5 (be 16 0)) = 0 ∧
    base.fromActive 1 (request 5 (be 16 0)) = false ∧ base.fromActive 0 (request 5 (be 16 0)) = true ∧
    (regsOf [(okey OD.POWER_STATE 0, 3)]).toCore.serves (request 5 (be 16 0)) = false ∧
    (regsOf [(okey OD.POWER_STATE 0, 3)]).toCore.serves (request 9 (be 8 0)) = false := by
  repeat' apply And.intro
  all_goals decide +kernel

/-- An RW object of page 12h of one element takes a value. -/
def takesValue (obj v : Nat) : Bool :=
  (Dict.find? obj).any (fun row => decide (row.access = .rw) && decide (v < 256 ^ row.ty.bytes) && decide (0 < row.size) && row.ty.admits v &&
    row.range.admits row.ty v)

/-- Witness of MotinReadsAndWritesAnswer. -/
theorem meets_readsWrites :
    (let r := request 1 (be 1 1 ++ be 3 0 ++ be 4 (OD.SUP_STATE * 256)); (asked 1 r.body).Takes 0 r [] ∧ fieldAt r.body 0 1 = 1 ∧
      readAbort (OD.SUP_STATE * 256) false = 0 ∧ (Dict.find? OD.SUP_STATE).isSome ∧ base.readSize 0 (OD.SUP_STATE * 256) ≤ 1184) ∧
    readAbort (0x120F0F * 256) false ≠ 0 ∧
    (let r := request 1 (be 1 4 ++ be 3 0 ++ (List.replicate 4 (be 4 (OD.CLASS_POSITION * 256))).flatten);
      (asked 1 r.body).Takes 0 r [] ∧ r.type = 1) ∧
    (let r := request 2 (writing 0x120102 (be 8 2000000000)); (asked 2 r.body).Takes 0 r [] ∧ base.fromActive 0 r = true ∧
      writeItems (fieldAt r.body 0 1) (r.body.drop 4) = some [(0x120102 * 256, be 8 2000000000)] ∧
      writeAbort (0x120102 * 256) false = 0 ∧ takesValue 0x120102 2000000000 = true) ∧
    writeAbort (OD.SUP_STATE * 256) false ≠ 0 ∧
    (let r := request 3 (be 4 (OD.CONN_MAP * 256) ++ be 4 511 ++ be 4 0); (asked 3 r.body).Takes 0 r [] ∧
      readAbort (OD.CONN_MAP * 256) true = 0 ∧ ((Dict.find? OD.CONN_MAP).map (·.count) = some 512) ∧ readAbort (OD.SUP_STATE * 256) true ≠ 0) ∧
    (let r := request 4 (be 4 (OD.CONN_MAP * 256) ++ be 4 511 ++ be 2 1 ++ be 2 2 ++ be 2 5); (asked 4 r.body).Takes 0 r [] ∧
      base.fromActive 0 r = true ∧ tableAbort (OD.CONN_MAP * 256) 511 1 2 = 0 ∧ tableAbort (OD.CONN_MAP * 256) 512 1 2 ≠ 0 ∧ entryValid 5 = true) := by
  repeat' apply And.intro
  all_goals decide +kernel

/-- Witness of MotinReadsAndWritesAnswer. -/
theorem meets_readsWrites2 :
    (let r := request 4 (be 4 (OD.CONN_MAP * 256) ++ be 4 511 ++ be 2 1 ++ be 2 2 ++ be 2 0x8001)
     let s := asked 4 r.body (regsOf [(okey OD.TT_STATE 0, 1)]);
      s.Takes 0 r [] ∧ s.fromActive 0 r = true ∧ tableAbort (OD.CONN_MAP * 256) 511 1 2 = 0 ∧ s.shadowLocked = true ∧
      entryValid (beNat (slice r.body 12 2)) = false ∧ base.shadowLocked = false) := by
  repeat' apply And.intro
  all_goals decide +kernel

/-- The body of a COMMIT or a SNAP, a heartbeat and a digest. -/
def beat (id period : Nat) : Request := request 7 (be 8 id ++ be 2 period ++ be 2 0)

/-- Witness of MotinSetAndSupervisionMessages. -/
theorem meets_messages :
    (let s := asked 5 (be 14 (time64 (2000 * frameUnits)) ++ be 2 0) { timed 4 2 [(okey OD.SHADOW_SOLVED 0, 1), (okey OD.UNSYNCHRONIZED 0, 0)] with
          shd := (List.range 6).map (fun k => (okey OD.COEF_SET (40 * k), 0)) }
     let r := request 5 (be 14 (time64 (2000 * frameUnits)) ++ be 2 0);
      s.Takes 0 r [] ∧ s.fromActive 0 r = true ∧ askedInstant (fieldAt r.body 0 14) = 2000 * frameUnits ∧
      s.commitCheck 0 (2000 * frameUnits) = 0 ∧ s.commitCheck 0 0 ≠ 0 ∧ s.commitCheck 0 0 ≠ 0x06090030) ∧
    (let s := asked 6 (be 16 0) (timed 4 2); s.Takes 0 (request 6 (be 16 0)) [] ∧ fieldAt (be 16 0) 0 14 = 0 ∧ s.timeState ≠ tsFree ∧
      s.snaps = [] ∧ (timed 4 0).timeState = tsFree ∧ 4 ≤ [(1, 5), (2, 6), (3, 7), (4, 8)].length) ∧
    (let s := asked 7 (beat 7 10).body; s.Takes 0 (beat 7 10) [] ∧ s.reg? 0 = some ⟨1, 0, 7, 100, 0, 2, false, 0⟩ ∧ s.rd OD.SUP_STATE = 0 ∧
      sameSender ⟨1, 0, 7, 100, 0, 2, false, 0⟩ 1 0 7 = true ∧ sameSender ⟨1, 0, 7, 100, 0, 2, false, 0⟩ 1 0 8 = false ∧ fieldAt (beat 7 10).body 8 2 = 10 ∧
      fieldAt (beat 7 1000).body 8 2 = 1000) ∧
    (let s : State := { base with motin := { base.motin with queues := [(1, [beat 8 1000])] } }; s.Takes 1 (beat 8 1000) [] ∧ s.reg? 1 = none ∧
      ∀ d ∈ s.sup.dropped, d.1 ≠ 1) ∧
    (let r : Request := { request 8 (be 36 0) with from_ := ⟨2, 9⟩ };
      let s : State := { base with motin := { base.motin with queues := [(1, [r])] } }; s.Takes 1 r [] ∧ s.reg? 1 = none) := by
  repeat' apply And.intro
  all_goals decide +kernel

/-- Witness of MotinSetAndSupervisionMessages. -/
theorem meets_messages2 :
    (let b := be 14 (time64 (2 * frameUnits)) ++ be 2 0
     let s := asked 6 b (timed 4 2); s.Takes 0 (request 6 b) [] ∧ askedInstant (fieldAt b 0 14) = 2 * frameUnits ∧
      isBoundary (2 * frameUnits) = true ∧ s.now + 2 * frameUnits ≤ 2 * frameUnits ∧ isBoundary (2 * frameUnits + 1) = false ∧
      fieldAt b 0 14 ≠ 0 ∧ s.snaps.find? (fun x => x.2 == 2 * frameUnits) = none ∧
      [(9, 2 * frameUnits)].find? (fun (x : Nat × Nat) => x.2 == 2 * frameUnits) = some (9, 2 * frameUnits)) ∧
    (let b := be 36 0
     let s := asked 8 b; s.Takes 0 (request 8 b) [] ∧ s.reg? 0 = some ⟨1, 0, 7, 100, 0, 2, false, 0⟩ ∧ fieldAt b 32 4 = s.rd OD.TRAVERSES ∧
      slice b 0 32 = be 32 0 ∧ slice (be 32 1 ++ be 4 0) 0 32 = be 32 1 ∧ Tab.find? s.sup.digests 1 = none) := by
  repeat' apply And.intro
  all_goals decide +kernel

/-- Witness of MotinSetAndSupervisionMessages. -/
theorem meets_messages4 :
    (let b := be 14 (time64 (2000 * frameUnits + 65536)) ++ be 2 0
     let s := asked 5 b { timed 4 2 [(okey OD.SHADOW_SOLVED 0, 1), (okey OD.UNSYNCHRONIZED 0, 0)] with
          shd := (List.range 6).map (fun k => (okey OD.COEF_SET (40 * k), 0)) };
      s.Takes 0 (request 5 b) [] ∧ s.fromActive 0 (request 5 b) = true ∧
      s.commitCheck 0 (askedInstant (fieldAt b 0 14)) = 0x06090030) := by
  repeat' apply And.intro
  all_goals decide +kernel

/-- Whatever the module's digest, one of those two is another. Witness of MotinSetAndSupervisionMessages. -/
theorem meets_messages3 (d : List Byte) : be 32 0 ≠ d ∨ be 32 1 ≠ d := by
  by_cases h : be 32 0 = d
  · exact .inr (h ▸ by decide +kernel)
  · exact .inl h

/-- Witness of MotinExportsTakeoversAndSubscriptions. -/
theorem meets_exports :
    (let s := asked 9 (be 8 0); s.Takes 0 (request 9 (be 8 0)) [] ∧ fieldAt (be 8 0) 0 4 = 0) ∧
    (let x : Export := ⟨3, some (be 1200 0), 0, true, 1, 0⟩
     let s : State := { asked 9 (be 4 3 ++ be 4 0) (regsOf [(okey OD.TRAVERSES 0, 0)]) with motin := { (asked 9 (be 4 3 ++ be 4 0)).motin with exports := [(0, x)] } };
      s.Takes 0 (request 9 (be 4 3 ++ be 4 0)) [] ∧ Tab.find? s.motin.exports 0 = some x ∧ s.rd OD.TRAVERSES = x.basis ∧ 0 + 1152 < (be 1200 0).length ∧
        1152 < (be 1200 0).length ∧ (be 1200 0).length ≤ 1152 + 1152 ∧ Tab.find? base.motin.exports 0 = none) ∧
    (let s := asked 10 (be 8 7); s.Takes 0 (request 10 (be 8 7)) [] ∧ s.reg? 0 = some ⟨1, 0, 7, 100, 0, 2, false, 0⟩ ∧ (∀ y ∈ s.sup.claims, y.1 ≠ 0 ∨ y.2.1 ≠ s.frames) ∧
      sameSender ⟨1, 0, 7, 100, 0, 2, false, 0⟩ 1 0 7 = true) ∧
    (let b := be 1 1 ++ be 1 1 ++ be 2 0 ++ be 2 0x1200 ++ be 2 0
     let s := asked 11 b; s.Takes 0 (request 11 b) [] ∧ (subIndices (request 11 b)).eraseDups = [0x1200] ∧ s.motin.subOf 0 (request 11 b) = none ∧
      s.motin.freeSub = some 0) ∧
    (asked 11 (be 1 4 ++ be 3 0)).Takes 0 (request 11 (be 1 4 ++ be 3 0)) [] ∧
    (let b := be 1 1 ++ be 1 33 ++ be 2 0 ++ be 132 0; (asked 11 b).Takes 0 (request 11 b) [] ∧ 32 < fieldAt (request 11 b).body 1 1) ∧
    (let s := asked 13 (be 4 5 ++ be 1 1 ++ be 3 0); s.Takes 0 (request 13 (be 4 5 ++ be 1 1 ++ be 3 0)) []) ∧
    (let b := be 1 2 ++ be 1 1 ++ be 2 0 ++ be 2 0xFFFF ++ be 2 0
     let u : Subscriber := ⟨0, ⟨1, 9⟩, 0, [0x1200], 0, 0, [], 0⟩
     let s : State := { asked 11 b with motin := { (asked 11 b).motin with subs := [(3, u)] } };
      s.Takes 0 (request 11 b) [] ∧ s.motin.subOf 0 (request 11 b) = some 3 ∧ Tab.find? s.motin.subs 3 = some u) ∧
    (let b := be 1 1 ++ be 1 1 ++ be 2 0 ++ be 2 0x1200 ++ be 2 0
     let u : Subscriber := ⟨0, ⟨5, 9⟩, 0, [0x1200], 0, 0, [], 0⟩
     let s : State := { asked 11 b with motin := { (asked 11 b).motin with subs := (List.range 8).map (fun k => (k, u)) } };
      s.Takes 0 (request 11 b) [] ∧ s.motin.subOf 0 (request 11 b) = none ∧ s.motin.freeSub = none) ∧
    (let b := be 4 77 ++ be 1 1 ++ be 3 0
     let s : State := { base with motin := { base.motin with queues := [(0, [request 13 b, request 1 []])] } };
      s.Takes 0 (request 13 b) [request 1 []] ∧ (request 1 []).id = fieldAt b 0 4 ∧ sameOrigin (request 1 []) (request 13 b) = true) ∧
    (let b := be 4 5 ++ be 1 2 ++ be 3 0
     let x : Export := ⟨3, none, 0, true, 2, 0⟩
     let s : State := { asked 13 b with motin := { (asked 13 b).motin with exports := [(0, x)] } };
      s.Takes 0 (request 13 b) [] ∧ Tab.find? s.motin.exports 0 = some x ∧ x.ip ≠ (request 13 b).from_.ip) ∧
    (let u : Subscriber := ⟨0, ⟨1, 9⟩, 0, [0x1200], 0, 0, [], 0⟩
     let s : State := { base with up := 60 * secondUnits, motin := { base.motin with subs := [(7, u)] } };
      s.Live ∧ Tab.find? s.motin.subs 7 = some u ∧ u.lastSeen + 60 * secondUnits ≤ s.up) := by
  repeat' apply And.intro
  all_goals decide +kernel

/-- A datagram of 40 bytes under key 5 in slot 1: a HEARTBEAT of no body. -/
def datagram (seq : Nat) : List Byte :=
  let b := be 1 1 ++ be 1 7 ++ be 2 40 ++ be 1 1 ++ be 3 0 ++ be 8 seq ++ be 4 77 ++ be 4 0
  b ++ (hmacSha256 (be 32 5) b).take 16

/-- A link-local source, and a kept reply to a request. -/
def local_ : NetAddr := ⟨0x3FA * 2 ^ 118 + 1, 9⟩
def kept (id : Nat) : Kept := ⟨0x87, id, [], 0, [], 0⟩

/-- A state that holds key 5 in slot 1 and has accepted numbers up to 99 there. -/
def keyed : State := { base with motin := { base.motin with keys := [(1, 5)], seqIn := [(1, 99)], seen := [(1, [99])] } }

/-- Witness of DatagramsAreCheckedInOrder. -/
theorem meets_datagram :
    keyed.Live ∧ (keyed.toCore.advance 0).serving = true ∧ (keyed.toCore.advance 0).hears 0 local_ = true ∧
    (keyed.toCore.advance 0).hears 0 ⟨1, 9⟩ = false ∧
    (let s : State := { keyed with motin := { keyed.motin with cache := [(0, [kept 5, kept 77])] } };
      (((s.motin.note 1 100).refresh 0 local_ 1 0).kept 0 = [kept 5] ++ kept 77 :: [])) ∧ requestType 14 = false ∧
    keyed.motin.subs = [] ∧ (datagram 100).length = 40 ∧ fieldAt (datagram 100) 2 2 = 40 ∧
    fieldAt (datagram 100) 0 1 = 1 ∧ fieldAt (datagram 100) 4 1 % 4 = 1 ∧ fieldAt (datagram 100) 8 8 = 100 ∧ keyed.motin.keyValid 1 = true ∧
    (hmacSha256 (be 32 (keyed.motin.key 1)) ((datagram 100).take 24)).take 16 = (datagram 100).drop 24 ∧
    (hmacSha256 (be 32 (keyed.motin.key 1)) (be 24 0)).take 16 ≠ be 16 0 ∧ keyed.motin.fresh 1 100 = true ∧ keyed.motin.fresh 1 99 = false ∧
    keyed.motin.fresh 1 36 = true ∧ keyed.motin.fresh 1 35 = false ∧ requestType 7 = true ∧ (keyed.motin.note 1 100).kept 0 = [] ∧
    (keyed.motin.queue 0).length < 8 ∧ (List.replicate 8 (request 7 [])).length = 8 := by decide +kernel

/-- Witness of EachSequenceNumberIsAcceptedOnce. -/
theorem meets_sequence : (keyed.motin.fresh 1 100 = true) ∧ keyed.motin.high 1 = 99 := by decide +kernel

/-! ### Writes of objects -/

/-- Witness of KeyWritesTakeEffectAfterTheirReply. -/
theorem meets_keyWrites :
    (let r := request 2 (writing (OD.KEY_0 + 3) (be 32 9)); (asked 2 r.body).Takes 0 r [] ∧ base.fromActive 0 r = true ∧ (be 32 9).length = 32 ∧
      writeItems (fieldAt r.body 0 1) (r.body.drop 4) = some [((OD.KEY_0 + 3) * 256, be 32 9)] ∧ r.keySlot = 0) ∧
    (let r : Request := { request 2 (writing (OD.KEY_0 + 3) (be 32 9)) with keySlot := 1 }
     let s : State := { base with sup := { base.sup with reg := [(0, ⟨1, 1, 7, 100, 0, 2, false, 0⟩)] }, motin := { base.motin with queues := [(0, [r])] } };
      s.Takes 0 r [] ∧ s.fromActive 0 r = true ∧ r.keySlot ≠ 0) ∧
    (let r := request 2 (writing OD.KEY_0 (be 32 0)); (asked 2 r.body).Takes 0 r [] ∧ beNat (be 32 0) = 0 ∧
      writeItems (fieldAt r.body 0 1) (r.body.drop 4) = some [(OD.KEY_0 * 256, be 32 0)]) ∧
    (base.Serves 0 ∧ base.motin.keyWrites = [] ∧ base.motin.addrWrites = [] ∧ ((base.reg? 0).map (·.keySlot)).getD 0 = 0) := by
  repeat' apply And.intro
  all_goals decide +kernel

/-- Witness of KeyWritesTakeEffectAfterTheirReply. -/
theorem meets_keyWrites2 : bit (base.rd OD.TEST_CONFIG 144) 31 = false ∧ bit ((regsOf [(okey OD.TEST_CONFIG 144, 2 ^ 31)]).rd OD.TEST_CONFIG 144) 31 = true := by
  decide +kernel

/-- Witness of DeglitchWritesNeedDormantOrMaintenance. -/
theorem meets_deglitch :
    (40 ≤ 320 ∧ 320 ≤ 320 ∧ 320 % 20 = 0 ∧ 320 < 65536) ∧ ((39 : Nat) < 40 ∧ 320 < (340 : Nat) ∧ 41 % 20 ≠ 0 ∧ 65535 < 65536) ∧
    (let s := regsOf [(okey OD.POWER_STATE 0, 4)]; s.Serves 0 ∧ s.power = psMaint) ∧
    (let s := regsOf [(okey OD.POWER_STATE 0, 2)]; s.Serves 0 ∧ s.power = psDormant) ∧ base.Serves 0 ∧ base.power ≠ psDormant ∧
    base.power ≠ psMaint ∧ base.motin.keyWrites = [] ∧ base.motin.addrWrites = [] := by decide +kernel

/-- Witness of ObjectWritesAreChecked. -/
theorem meets_objectWrites :
    (Dict.find? 0x120F0F = none ∧ Dict.find? 0x0F0001 = none ∧ Dict.hasIndex 0x1200FF = true ∧ Dict.hasIndex 0x0F0001 = false) ∧
    ((Dict.find? OD.SUP_STATE).map (·.access) = some .ro) ∧
    ((Dict.find? 0x120102).any (fun row => decide (row.access = .rw) && !row.range.admits row.ty 0) = true) ∧
    (0x120102 / 0x10000 = 0x12 ∧ takesValue 0x120102 100000000 = true) ∧
    (∀ sub ∈ [2, 7], (Dict.find? (mgtObj 1 sub)).any (fun row => row.ty.admits 1 && row.range.admits row.ty 1) = true) ∧
    (0x13020200 % 256 = 0 ∧ 0x13020201 % 256 ≠ 0) := by decide +kernel

/-- Witness of ObjectWritesAreChecked. -/
theorem meets_objectWrites2 :
    (base.Serves 0 ∧ ((base.reg? 0).map (·.keySlot)).getD 0 = 0 ∧ ¬ ((3 : Fin 4) = 0 ∧ (9 : BitVec 256) = 0)) ∧
    (let s : State := { base with sup := { base.sup with reg := [(0, ⟨1, 1, 7, 100, 0, 2, false, 0⟩)] } };
      s.Serves 0 ∧ ((s.reg? 0).map (·.keySlot)).getD 0 ≠ 0) ∧
    (Dict.find? OD.DEGLITCH_NS).isSome = true ∧ OD.DEGLITCH_NS ≠ OD.RAW_WINDOW ∧ (Dict.find? 0x120102).isSome = true := by decide +kernel

/-- The layout of the raw window is the module's own: these are all its cases. Witness of ObjectWritesAreChecked. -/
theorem meets_rawWindow (a : Nat) :
    (rawFind a = none ∧ Config.rawOther a = false) ∨ (rawFind a = none ∧ Config.rawOther a = true) ∨
    (∃ row e, rawFind a = some (row, e, 0)) ∨ (∃ row e i, rawFind a = some (row, e, i + 1)) := by
  cases h : rawFind a with
  | none => cases g : Config.rawOther a <;> simp
  | some x => obtain ⟨row, e, i⟩ := x; cases i with
    | zero => exact .inr (.inr (.inl ⟨row, e, rfl⟩))
    | succ i => exact .inr (.inr (.inr ⟨row, e, i, rfl⟩))

/-! ### The frame -/

/-- Witness of FrameBoundaryAppliesTheWrites. -/
theorem meets_atRest : ({ base with pend := [(okey 0x120102 0, 5), (okey 0x120102 0, 6)] } : State).AtRest ∧
    plainObj (okeyObj (okey 0x120102 0)) = true ∧ plainObj OD.PORT_CONFIG = false := by decide +kernel

/-- Witness of FrameBoundaryAppliesTheWrites. -/
theorem meets_restart : (let s : State := { base with boot := { base.boot with restart := some (3, frameUnits) } };
    s.Live ∧ s.boot.restart = some (3, frameUnits) ∧ frameUnits ≤ s.frameEnd ∧ s.loops = [] ∧ s.test.since = [] ∧
    storeListed s.regs OD.PERF_CONFIG = []) := by decide +kernel

/-- Witness of TimeStepMovesTheLabelOnly. -/
theorem meets_timeStep : base.time.dueStep = none ∧ (let s : State := { base with time := { base.time with dueStep := some (-5) } };
    s.Live ∧ s.time.dueStep = some (-5) ∧ s.trav.cur = none ∧ s.rd OD.TT_STATE ≠ 1 ∧ s.rd OD.TT_STATE ≠ 2 ∧ s.pkt.gates = [] ∧
    s.survey.seqs = []) := by decide +kernel

/-- Witness of CabooseReleasesStepsAndLearnsDrift. -/
theorem meets_noCommit : ∀ k, base.trav.cur = some k → k.frozen = false ∨ base.frameEnd ≠ k.t := by
  intro k h; cases (show (none : Option Commit) = some k from h)

/-- A frozen traverse due at the end of the frame, with the links of some dies in service. -/
def freezing (up : List Nat) : State :=
  { linked with
    links := up.map (fun d => (d, { Link.reset with up := true, lanes := 4 }))
    trav := { base.trav with cur := some { commit frameUnits true with frozen := true, moving := [0, 9215] } } }

/-- Witness of CabooseReleasesStepsAndLearnsDrift. -/
theorem meets_caboose :
    base.learns = true ∧ (regsOf [(okey OD.POWER_STATE 0, 1)]).learns = false ∧ (∃ d : Die, ((freezing [0, 1, 2]).link d).up = false) ∧ (freezing [0, 1, 2]).Live ∧
    (let s := freezing [0, 1, 2, 3]
     let k := { commit frameUnits true with frozen := true, moving := [0, 9215] };
      s.trav.cur = some k ∧ k.frozen = true ∧ s.frameEnd = k.t ∧ k.checked = false ∧ (∀ d : Die, (s.link d).up = true) ∧
      k.linkFailed = false ∧ s.now + nsU 1000 ≤ k.t ∧ k.moving.Nodup ∧
      ∀ te ∈ k.moving, te < 9216 ∧ (s.chan te).queue = [] ∧ s.clearing te = false) := by decide +kernel

/-! ### Supervisors -/

/-- A state with two supervisors, the one on path 0 active, after a while without a heartbeat of either. -/
def twoSups (role up : Nat) (sup : Sup) : State :=
  { regsOf [(okey OD.DIGEST_WINDOW 0, 1000)] with
    up := up, sup := { sup with reg := [(0, ⟨1, 0, 7, 100, 0, role, false, 0⟩), (1, ⟨2, 0, 8, 1000, 0, 1, false, 0⟩)] } }

/-- Witness of ManagementLinksAndRegistrationsFail. -/
theorem meets_management :
    (base.rd (mgtObj 0 0x0A) = 0 ∧ base.rateTaken 0 9 = false ∧ base.rateTaken 0 1000 = true) ∧
    (let s := regsOf [(okey (mgtObj 0 0x0A) 0, 100)]; s.Live ∧ s.rd (mgtObj 0 0x0A) ≠ 0 ∧ 1000 ≠ s.rd (mgtObj 0 0x0A) ∧ s.rateTaken 0 1000 = true) ∧
    base.reg? 1 = none ∧
    (let s := twoSups 2 (400 * secondUnits / 1000) base.sup; s.Live ∧ isBoundary s.now = true ∧
      s.regFailed 0 ⟨1, 0, 7, 100, 0, 2, false, 0⟩ = true ∧ s.regFailed 1 ⟨2, 0, 8, 1000, 0, 1, false, 0⟩ = false ∧ s.rd OD.TT_STATE = 0) ∧
    (let s := twoSups 0 (400 * secondUnits / 1000) base.sup; s.regFailed 0 ⟨1, 0, 7, 100, 0, 0, false, 0⟩ = true) ∧
    (let s := twoSups 2 9 { base.sup with misses := [(0, ⟨5, 1, 9⟩)], digests := [(1, ⟨5, 0, 8⟩)] };
      s.Live ∧ s.activePath = 0 ∧ Tab.find? s.sup.misses 0 = some ⟨5, 1, 9⟩ ∧ Tab.find? s.sup.digests 1 = some ⟨5, 0, 8⟩ ∧
        s.regFailed 1 ⟨2, 0, 8, 1000, 0, 1, false, 0⟩ = false ∧ 9 ≤ 8 + nsU (s.rd OD.DIGEST_WINDOW) ∧ isBoundary s.now = true ∧ s.rd OD.TT_STATE = 0) := by decide +kernel

/-- Witness of RolesChangeAtTheirDecision. -/
theorem meets_roles :
    (let s : State := { regsOf [(okey OD.SUP_STATE 0, 1)] with
        sup := { base.sup with reg := [(1, ⟨2, 0, 8, 1000, 0, 1, false, 0⟩)], gapSince := some 0, gapBeat := true, gapPath := 1 } };
      s.Live ∧ isBoundary s.now = true ∧ s.rd OD.SUP_STATE = 1 ∧ s.sup.gapPath = 1 ∧ s.sup.gapBeat = true ∧
        s.reg? 1 = some ⟨2, 0, 8, 1000, 0, 1, false, 0⟩ ∧ s.isActive 0 = false ∧ ∀ x ∈ s.loops, x.2.switchHeld = false) ∧
    (let s : State := { twoSups 2 9 { base.sup with claims := [(1, 0, true)] } with frames := 1 };
      s.Live ∧ s.sup.claims = [(1, 0, true)] ∧ 0 < s.frames ∧ s.motin.takeovers = [] ∧ s.rd OD.SUP_STATE = 0 ∧
        s.reg? 1 = some ⟨2, 0, 8, 1000, 0, 1, false, 0⟩ ∧ s.reg? 0 = some ⟨1, 0, 7, 100, 0, 2, false, 0⟩ ∧ s.rd OD.TAKEOVER_LOST < 2 ^ 32) ∧
    (∀ x ∈ base.sup.claims, base.frames ≤ x.2.1) ∧ base.toCore.failures = base.toCore := by decide +kernel

/-- Witness of ClearAndStagedReleasePutElementsAtTheirClearCodes. -/
theorem meets_clear :
    (base.Live ∧ base.trav.cur = none ∧ base.rd OD.TT_STATE = 0 ∧ base.trav.internalClear = false) ∧
    (let s := fun t : Nat => ({ base with trav := { base.trav with release := some ⟨true, true, 0, some t, none⟩ } } : State);
      (s 0).Live ∧ (s 0).trav.release = some ⟨true, true, 0, some 0, none⟩ ∧ 0 ≤ (s 0).now ∧ storeListed (s 0).regs OD.PERF_CONFIG = [] ∧
        (s 5).now < 5) ∧
    base.copying = none := by decide +kernel

/-- Witness of ClearAndStagedReleasePutElementsAtTheirClearCodes. -/
theorem meets_clear2 :
    let s : State := { linked with
      regs := (okey OD.DRIVE_CODE 0, 5) :: (okey OD.CLEAR_CODE 0, 0) :: base.regs
      trav := { base.trav with release := some ⟨true, true, 0, some 0, none⟩ } };
    s.Live ∧ s.trav.release = some ⟨true, true, 0, some 0, none⟩ ∧ 0 ≤ s.now ∧ (s.link (teDie 0)).up = true ∧ s.clearing 0 = false ∧
      s.driven 0 ≠ s.clearCode 0 := by decide +kernel

/-- Witness of ClearAndStagedReleasePutElementsAtTheirClearCodes. -/
theorem meets_notReleased : ∀ r t, base.trav.release = some r → r.at_ = some t → r.stepped = none → base.now < t := by
  intro r t h; cases (show (none : Option Release) = some r from h)

/-- Witness of ClearAndStagedReleasePutElementsAtTheirClearCodes. -/
theorem meets_copying (x : Nat × Instant × Core) : ({ base with copying := some x } : State).copying = some x := rfl

/-! ### Reset and boot -/

/-- Witness of ResetsAndTheirBoot. -/
theorem meets_resets :
    base.Live ∧ base.power ≠ psHalted ∧ (regsOf [(okey OD.POWER_STATE 0, 3)]).power = psHalted ∧ (regsOf [(okey OD.POWER_STATE 0, 3)]).Live ∧
    State.reset.boot.resetLow = false ∧
    (let s : State := { base with boot := { base.boot with resetLow := true } }; s.Calm ∧ s.boot.resetLow = true ∧ s.boot.powered = true ∧
      s.boot.good = true) ∧
    (let s : State := { base with boot := { base.boot with resetLow := true, good := false } }; s.Calm ∧ s.boot.good = false) := by decide +kernel

/-- Witness of ResetsAndTheirBoot. -/
theorem meets_resets2 : ({ base with boot := { base.boot with wrote := some (3, 0) }, up := nsU 45000 } : State).boot.wrote = some (3, 0) ∧
    0 + nsU 45000 ≤ nsU 45000 := by decide +kernel

/-- Witness of BootStepsEndInOrder. -/
theorem meets_boot :
    (base.stepDue (base.rd OD.BOOT_STEP) = false ∧ base.rd OD.BOOT_STEP ≠ 10) ∧
    (let s : State := { State.reset with regs := [(okey OD.BOOT_STEP 0, 1)] }; s.Live ∧ s.rd OD.BOOT_STEP = 1 ∧ s.stepDue 1 = true ∧
      min 3 (failOf s.boot.failCount 1 + 1) < 3) ∧
    (let s : State := { State.reset with regs := [(okey OD.BOOT_STEP 0, 1)], boot := { State.reset.boot with failCount := 2 } };
      min 3 (failOf s.boot.failCount 1 + 1) = 3) ∧
    (let s : State := { State.reset with regs := [(okey OD.BOOT_STEP 0, 10), (okey OD.BOOT_TIME_WAIT 0, 5)], up := nsU 5 };
      s.Live ∧ s.rd OD.BOOT_STEP = 10 ∧ s.boot.stepUp + nsU (s.rd OD.BOOT_TIME_WAIT) ≤ s.up) := by decide +kernel

/-- A boot, of cause 4 or another, in a step. -/
def booting (k : Nat) (warm : Option Nat) (regs : Tab Nat := []) : State :=
  { State.reset with regs := (okey OD.BOOT_STEP 0, k) :: regs, boot := { State.reset.boot with warm := warm } }

/-- A report of a step. -/
def report (pass : Bool) (lanes : List Nat := []) : BootReport := ⟨pass, false, [], 5, 0, 0, [], lanes, 1⟩

/-- Witness of BootStepsEndInOrder. -/
theorem meets_boot2 :
    (∀ k ∈ [2, 4, 5, 14], (booting k none).Live ∧ (booting k none).stepDue k = true ∧ (booting k none).stepFails k (report true) = none ∧
      (booting k none).lanesNeedAlt k (report true) = false) ∧
    (∀ k ∈ [2, 4, 5], (booting k none).stepFails k (report false) = some 5) ∧
    ((booting 12 (some 0)).Live ∧ (booting 12 (some 0)).stepDue 12 = true ∧ (booting 12 (some 0)).lanesNeedAlt 12 (report true [3]) = true) ∧
    (let s := booting 3 none [(okey OD.BOOT_MODE 0, 2)]; s.Live ∧ s.stepDue 3 = true ∧ s.recoveryBoot = true ∧ s.stepFails 3 (report true) = none) ∧
    (let s := booting 14 none [(okey OD.BOOT_MODE 0, 1)]; s.stepDue 14 = true ∧ s.safeBoot = true) := by decide +kernel

/-! ### Ill-formed commands are refused by the checks -/

theorem test_illFormed_times :
    ([.caboose 0 1449, .ptpSync 0 50000 0 0, .ptpPdelayReq 0 50000, .ptpPdelayResp 1 50000 0 0 0, .ppsInEdge true 50000, .laneLock 127 50000,
      .surveyConversionStart 7 50000, .surveyTrigEdge true 50000, .egressSchedule 0 50000, .frameTxComplete 0 50000, .gateEntryChange 0 50000,
      .bwWindowEnd 50000, .checkerLock 0 64 50000] : List Instr).all (fun i => !i.wf) = true := by decide +kernel

theorem test_illFormed_messages :
    (Instr.motinDatagram 0 0 ⟨2 ^ 128, 0⟩ []).wf = false ∧ (Instr.motinDatagram 0 0 ⟨0, 65536⟩ []).wf = false ∧
    (Instr.motinDatagram 0 50000 ⟨0, 0⟩ []).wf = false ∧
    (Instr.ptpAnnounce 0 ⟨256, 6, 33, 0, 128, 77, 1, 0⟩ 0).wf = false ∧ (Instr.ptpAnnounce 0 ⟨128, 6, 33, 0, 128, 2 ^ 64, 1, 0⟩ 0).wf = false ∧
    (Instr.packetReceive 0 0 []).wf = false := by decide +kernel

theorem test_illFormed_lengths : (Instr.motinDatagram 0 0 ⟨0, 0⟩ (List.replicate 65508 0)).wf = false ∧
    (Instr.packetReceive 0 0 (List.replicate 65536 0)).wf = false := by
  refine ⟨?_, ?_⟩ <;> · unfold Instr.wf; simp only [List.length_replicate]; decide

theorem test_illFormed_writes :
    (Instr.mgtAddressWrite 0 0 13 0).wf = false ∧ (Instr.mgtAddressWrite 0 0 2 (2 ^ 128)).wf = false ∧
    (Instr.registerWrite 0 (2 ^ 24) 0 0).wf = false ∧ (Instr.registerWrite 0 0 (2 ^ 20) 0).wf = false ∧
    (Instr.registerWrite 0 0 0 (2 ^ 512)).wf = false ∧ (Instr.ucodeImageWrite 0 4440 0).wf = false ∧
    (Instr.slotWrite 0 true 8704 0).wf = false ∧ (Instr.slotWrite 0 false 32768 0).wf = false ∧
    (Instr.slotWrite 0 false 0 65536).wf = false ∧ (Instr.mgtLinkChange 0 7).wf = false := by decide +kernel

theorem test_illFormed_results :
    (Instr.trimStart 0 31).wf = false ∧ (Instr.trimStart 0 34).wf = false ∧ (Instr.checkerLockLoss 0 1 2).wf = false ∧
    (Instr.faultSourceFire [⟨512, [], [], [], true⟩]).wf = false ∧
    (Instr.faultSourceFire [⟨5, [9216], [], [], true⟩]).wf = false ∧ (Instr.faultSourceFire [⟨5, [], [128], [], true⟩]).wf = false ∧
    (Instr.faultSourceFire [⟨5, [], [], [2 ^ 49], true⟩]).wf = false ∧
    (Instr.bootStepEnd ⟨true, false, [], 0, 0, 0, [9728], [], 0⟩).wf = false ∧
    (Instr.bootStepEnd ⟨true, false, [], 0, 0, 0, [], [128], 0⟩).wf = false ∧
    (Instr.bootStepEnd ⟨true, false, [], 65536, 0, 0, [], [], 0⟩).wf = false := by decide +kernel

/-- Links fail or train at half rate, not both. -/
theorem test_illFormed_links : (Instr.bootStepEnd ⟨true, false, [], 0, 1, 1, [], [], 0⟩).wf = false := by decide +kernel

/-! ### Worked examples of the spec -/

/-- The state after a command. -/
def after (i : Instr) (s : State) : State :=
  match exec i s with
  | .next t => t
  | _ => s

/-- The route of chapter 3's example: FI012 to FO200 past cell 1,317, with the cross settings of its table. -/
theorem test_route : pathOf (fun w => [48, 561, 1573, 3859, 4115].foldl (fun n c => if c / 32 = w then n + 2 ^ (c % 32) else n) 0) 12 =
    ([48, 305, 561, 821, 1077, 1317, 1573, 1829, 2085, 2341, 2597, 2821, 3093, 3349, 3601, 3859, 4115], 200) := by decide +kernel

/-- The BIQ routine of chapter 5's example, on section 0 of the factory set 0. -/
theorem test_biquad : (biquad 28672 (-24576) 0 (-16384) 0 1 ⟨393, 0, 6554, 0, false⟩ 328) = (6539, ⟨328, 393, 6539, 6554, false⟩) ∧
    toSigned 16 (Dict.coefSet0.getD 2 0) = 28672 ∧ toSigned 16 (Dict.coefSet0.getD 3 0) = -24576 ∧
    toSigned 16 (Dict.coefSet0.getD 5 0) = -16384 ∧ bits (Dict.coefSet0.getD 7 0) 1 0 = 1 := by decide +kernel

/-- Back-calculation of chapter 4's example: u is clamped at 26,214 and y1 of section 0 falls by 393. -/
theorem test_backCalculation :
    let s : State := { base with act := [(okey OD.COEF_SET 0, 0x0004), (okey OD.COEF_SET 1, 16384), (okey OD.LOOP_LIMITS 2634, 26214 * 2 ^ 32)] };
    (s.saturate 2634 Loop.reset 27000).1 = 26214 ∧ ((s.saturate 2634 Loop.reset 27000).2.sec 0).y1 = -393 ∧
    (s.saturate 2634 Loop.reset 27000).2.sat = true := by decide +kernel

/-- The first step of chapter 6's example: entry 14A4_2CF0_0BEB_C202h for channel 330 at half a second. -/
theorem test_stagingEntry :
    let s : State := { linked with now := 9990 * frameUnits, links := [(1, { Link.reset with up := true, lanes := 4 })] };
    ((after (.stagingEntry 1 0x14A42CF00BEBC202) s).chan 2634).queue = [⟨nsU 500000000, 68412, true, false⟩] := by decide +kernel

/-- The steps of the VOA of FO389 from its clear code 0 to 40,960 (chapter 10). -/
theorem test_steps : forceSteps 0 40960 = [20480, 35472, 40960] := by decide +kernel

/-- Timetable entry 2800_00C8h: slot 10 for 200 frames (chapter 11). -/
theorem test_timetableEntry : (tabled 0).ttSlot 0 0 = 10 ∧ (tabled 0).ttDwell 0 0 = 200 := by decide +kernel

/-- Node 2 of the factory parse graph is the example of chapter 12. -/
theorem test_node : nodeOf [] 2 = 0x8624210000390450 ∧ nextNode [] 0 0x86DD = some 3 ∧ nextNode [] 3 0x11 = some 5 ∧ nextNode [] 6 0 = none := by decide +kernel

/-- The entry of chapter 12's example: key, control word and action. -/
theorem test_classEntry :
    let v := 0x0064025A00001234 * 2 ^ 448 + 0x840C000000000000 * 2 ^ 128 + 0x22000000004200800000000000000000;
    entValid v = true ∧ entProfile v = 1 ∧ entPresent v = 3 ∧ bits (entAction v) 127 125 = 1 := by decide +kernel

/-- The short refill of chapter 13's shaper: 13,893 packets units where a full one is 16,777. -/
theorem test_shaper :
    let s : State := { regsOf [(okey OD.SHAPER_CONFIG 1027, 0xC0000000000041890000001000000001), (okey OD.QUEUE_CONFIG 16384, 2 ^ 63 + 2 ^ 47 + 3 * 2 ^ 40)]
        with pkt := { base.pkt with queues := [(16384, [⟨be 64 0, 1, none, 0, none⟩])] } };
    s.shaperRefill 1027 false = 16777 ∧ s.shaperRefill 1027 true = 13893 := by decide +kernel

/-- The gate list of chapter 13's example: the windows of its classes. -/
theorem test_gates :
    let s : State := { base with act := [(okey OD.GATE_PORT 5, 0x8002), (okey OD.GATE_LIST 5120, 0x4000000000004E20), (okey OD.GATE_LIST 5121, 0xBF00000000038270)] };
    s.gateWindow 5 6 = some 20000 ∧ s.gateWindow 5 5 = some 230000 ∧ gateCycle s.act 5 = 250000 := by decide +kernel

/-- The defaults of the zone levels are the words of chapter 17's table. -/
theorem test_zoneLevels : base.rd OD.ZONE_LEVELS 0 = 0x4624B25555F50000 ∧ base.rd OD.ZONE_LEVELS 4 = 0x5A35F469A7350000 ∧
    base.rd OD.ZONE_LEVELS 5 = 0x5F36446EA7850000 := by decide +kernel

/-- The sequence entry of chapter 7's example: source 89, its comparator from 0.2 V to 1.2 V. -/
theorem test_sequenceEntry : entSource 0xB2204CCCCD0CCCCD = 89 ∧ entRate 0xB2204CCCCD0CCCCD = 0 ∧ entCmp 0xB2204CCCCD0CCCCD = true ∧
    entHigh 0xB2204CCCCD0CCCCD = 5033165 ∧ entLow 0xB2204CCCCD0CCCCD = 838861 := by decide +kernel

/-- The pair of chapter 8's example is accepted: its offsets of 95.0 and 96.1 codes and gains 23 ppm apart agree. -/
theorem test_overlapPair : pairAgrees (some 1073177360, 24320 * 2 ^ 16) (some 1073152879, 24602 * 2 ^ 16) = true ∧
    pairGain (some 1073177360, 0) (some 1073152882, 0) = some 1073165121 ∧ idivFree (24320 * 2 ^ 16 + 24602 * 2 ^ 16) (2 ^ 17) = 24461 := by decide +kernel

/-- PROVE_CMD 6800_0286h of chapter 19: PRBS31 from lane 5 to lane 6. -/
theorem test_prove :
    let s : State := { base with lanes := [(5, { LaneRec.reset with lock := true, elsOk := true }), (6, { LaneRec.reset with lock := true, elsOk := true })] };
    (after (.proveStart 0 0x68000286) s).test.prove = some ⟨5, 6, 5, none, none, false, false, 0, 0⟩ := by decide +kernel

/-- The bytes of chapter 14's COMMIT message up to its tag: 56 bytes in all. -/
theorem test_message :
    let m := message 5 5 1 77626 42 0 (be 14 (0x6B49D200 * 2 ^ 48 + 0x1DCD6500 * 2 ^ 16) ++ be 2 0);
    m.length = 56 ∧ m.take 40 = be 40 0x01050038010000000000000000012F3A0000002A00000000000000006B49D2001DCD650000000000 := by
  decide +kernel

/-- Chapter 16's example: source 74 escalates to Major at its third firing, and die 2's loops would be held. -/
theorem test_escalation :
    let s := regsOf [(okey OD.SOURCE_CONFIG 74, 0x02030064)]
    let fire := after (.faultSourceFire [⟨74, [], [], [], true⟩])
    ((fire s).src 74).sev = some 2 ∧ ((fire (fire (fire s))).src 74).sev = some 3 ∧ ((fire (fire (fire s))).src 74).escalated = true := by
  decide +kernel

end Sys2Proof.Tests
end

section
/-! PROOFS. The step and its queue, and that every command keeps the commands that wait behind it. -/

namespace Sys2Proof.Machine

/-- The command at the front of the queue runs on the state with the rest of the queue. -/
theorem step_of_pending_cons {s : State} {i : Instr} {rest : List Instr} (h : s.pending = i :: rest) :
    step s = exec i { s with pending := rest } := by
  simp only [step, h]

/-- With no command waiting the machine idles (log 3). -/
theorem step_of_pending_nil {s : State} (h : s.pending = []) : step s = .next s := by
  simp only [step, h]

/-- Settles O1: the two branches of `step`, and that no word spells a command. -/
theorem stepRunsTheFrontCommand : Obligations.StepRunsTheFrontCommand :=
  ⟨fun _ _ _ h => step_of_pending_cons h, fun _ h => step_of_pending_nil h, fun _ _ _ => ⟨rfl, rfl⟩⟩

/-! ### The queue of commands under the operations of the Motin engine -/

/-- A fold whose every step leaves its start as it is leaves it. -/
theorem foldl_of_fixed {α β : Type} {f : β → α → β} {b : β} (h : ∀ a, f b a = b) (l : List α) : l.foldl f b = b := by
  induction l with
  | nil => rfl
  | cons a l ih => rw [List.foldl_cons, h a, ih]

/-- A fold whose every step keeps a part of what it builds keeps that part. -/
theorem foldl_keeps {α β γ : Type} (part : β → γ) {f : β → α → β} (h : ∀ b a, part (f b a) = part b) (l : List α) (b : β) :
    part (l.foldl f b) = part b :=
  (List.foldl_hom part (g₂ := fun c _ => c) fun x y => (h x y).symm).symm.trans (foldl_of_fixed (fun _ => rfl) l)

namespace State

variable (s : State)

@[simp] theorem deliverOne_pending (e : Event) : (s.deliverOne e).pending = s.pending := rfl

@[simp] theorem deliver_pending : s.deliver.pending = s.pending :=
  foldl_keeps State.pending deliverOne_pending _ _

@[simp] theorem settle_pending : s.settle.pending = s.pending := deliver_pending _

@[simp] theorem pin_pending (f : Core → Core) : (s.pin f).pending = s.pending := settle_pending _

@[simp] theorem lift_pending (f : Core → Core) : (s.lift f).pending = s.pending := by
  simp only [State.lift]; split
  · rfl
  · exact pin_pending s f

@[simp] theorem restart_pending (cause : Nat) : (s.restart cause).pending = s.pending := rfl

@[simp] theorem exportsAfter_pending (t : State) : (s.exportsAfter t).pending = t.pending := rfl

@[simp] theorem resetN_pending (w : Nat) : (s.resetN w).pending = s.pending := by
  simp only [State.resetN, apply_ite State.pending, restart_pending, ite_self]

@[simp] theorem resetRelease_pending (pins : Nat) : (s.resetRelease pins).pending = s.pending := by
  simp only [State.resetRelease]; split <;> rfl

@[simp] theorem powerFail_pending (w : Nat) : (s.powerFail w).pending = s.pending := by
  simp only [State.powerFail]; split <;> rfl

@[simp] theorem restartDue_pending : s.restartDue.pending = s.pending := by
  simp only [State.restartDue]
  split
  · simp only [apply_ite State.pending, restart_pending, ite_self]
  · rfl

/-! Sending and answering (R276 to R285). -/

@[simp] theorem send_pending (p : Nat) (a : NetAddr) (k ty id r : Nat) (b : List Byte) :
    (s.send p a k ty id r b).pending = s.pending := rfl

@[simp] theorem refuse_pending (p : Nat) (r : Request) (code : Nat) : (s.refuse p r code).pending = s.pending := by
  simp only [State.refuse]; split <;> rfl

@[simp] theorem resend_pending (p : Nat) (r : Request) (k : Kept) : (s.resend p r k).pending = s.pending := rfl

@[simp] theorem enqueue_pending (p : Nat) (r : Request) : (s.enqueue p r).pending = s.pending := by
  simp only [State.enqueue]
  split
  · rfl
  · split
    · exact resend_pending ..
    · simp only [apply_ite State.pending, refuse_pending, send_pending, ite_self]

@[simp] theorem datagram_pending (p : Nat) (a : NetAddr) (bs : List Byte) : (s.datagram p a bs).pending = s.pending := by
  simp only [State.datagram, apply_ite State.pending, enqueue_pending, ite_self]

@[simp] theorem afterReply_pending : s.afterReply.pending = s.pending := rfl

/-- Taking a request keeps the queue of commands where its handling does. -/
theorem serve_pending (p type : Nat) (handle : Request → State → State)
    (h : ∀ r t, (handle r t).pending = t.pending) : (s.serve p type handle).pending = s.pending := by
  simp only [State.serve]
  split
  · rfl
  · split
    · rfl
    · rw [afterReply_pending]
      split
      · rfl
      · simp only [apply_ite State.pending, refuse_pending, answer_pending, h, ite_self]

/-- A write of a path keeps the queue of commands where the write itself does. -/
theorem byPath_pending (p : Nat) (f : Nat → State → State) (h : ∀ k t, (f k t).pending = t.pending) :
    (s.byPath p f).pending = s.pending := by
  simp only [State.byPath]
  split
  · rfl
  · exact (afterReply_pending _).trans (h _ _)

/-! Reads and writes of objects (R287 to R294, R303, R304). -/

@[simp] theorem readElem_pending (p : Nat) (r : ObjRow) (e sel : Nat) : (s.readElem p r e sel).1.pending = s.pending := by
  simp only [State.readElem]; split <;> rfl

@[simp] theorem rawRead_pending (p a : Nat) : (s.rawRead p a).1.pending = s.pending := by
  simp only [State.rawRead]
  split
  · simp only [apply_ite Prod.fst, apply_ite State.pending, ite_self]
  · split <;> rfl

@[simp] theorem writeKey_pending (auth slot v : Nat) : (s.writeKey auth slot v).pending = s.pending := by
  simp only [State.writeKey, apply_ite State.pending, ite_self]

@[simp] theorem writeVal_pending (p auth : Nat) (r : ObjRow) (e v : Nat) : (s.writeVal p auth r e v).pending = s.pending := by
  simp only [State.writeVal, apply_ite State.pending, writeKey_pending, ite_self]

@[simp] theorem rawWrite_pending (p auth a w : Nat) : (s.rawWrite p auth a w).pending = s.pending := by
  simp only [State.rawWrite]
  split
  · simp only [apply_ite State.pending, writeVal_pending, ite_self]
  · simp only [apply_ite State.pending, ite_self]

@[simp] theorem writeReg_pending (p auth obj e v : Nat) : (s.writeReg p auth obj e v).pending = s.pending := by
  simp only [State.writeReg]
  split
  · rfl
  · split
    · simp only [apply_ite State.pending, rawWrite_pending, writeVal_pending, ite_self]
    · rfl

@[simp] theorem readOne_pending (p ref : Nat) : (s.readOne p ref).1.pending = s.pending := by
  simp only [State.readOne]
  split
  · rfl
  · split
    · exact readElem_pending ..
    · rfl

@[simp] theorem read_pending (p : Nat) (r : Request) : (s.read p r).pending = s.pending := by
  simp only [State.read]
  split
  · exact refuse_pending ..
  · rw [answer_pending]
    exact foldl_keeps (fun x : State × List Byte => x.1.pending)
      (f := fun x ref => ((x.1.readOne p ref).1, x.2 ++ (x.1.readOne p ref).2)) (fun x ref => readOne_pending x.1 p ref) _ _

@[simp] theorem writeOne_pending (p auth ref : Nat) (v : List Byte) : (s.writeOne p auth ref v).pending = s.pending := by
  simp only [State.writeOne]
  split
  · rfl
  · split
    · simp only [apply_ite State.pending, writeVal_pending, ite_self]
    · rfl

@[simp] theorem writeAll_pending (p auth : Nat) (stop : Bool) (l : List (Nat × List Byte)) (out : List Byte) :
    (State.writeAll p auth stop l s out).1.pending = s.pending := by
  induction l generalizing s out with
  | nil => rfl
  | cons x l ih =>
    simp only [State.writeAll]
    split
    · exact writeOne_pending ..
    · exact (ih _ _).trans (writeOne_pending ..)

@[simp] theorem write_pending (p : Nat) (r : Request) : (s.write p r).pending = s.pending := by
  simp only [State.write, answer_pending, writeAll_pending]

@[simp] theorem readElems_pending (p : Nat) (row : ObjRow) (sel n e : Nat) (out : List Byte) :
    (State.readElems p row sel n e s out).1.pending = s.pending := by
  induction n generalizing s e out with
  | zero => rfl
  | succ n ih =>
    simp only [State.readElems, ih]
    split
    · exact rawRead_pending ..
    · exact readElem_pending ..

@[simp] theorem readTable_pending (p : Nat) (r : Request) : (s.readTable p r).pending = s.pending := by
  simp only [State.readTable]
  split
  · exact answer_pending ..
  · split
    · simp only [apply_ite State.pending, answer_pending, readElems_pending, ite_self]
    · rfl

@[simp] theorem writeElems_pending (p auth : Nat) (row : ObjRow) (l : List (List Byte)) (e done : Nat) :
    (State.writeElems p auth row l e s done).1.pending = s.pending := by
  induction l generalizing s e done with
  | nil => rfl
  | cons v l ih =>
    simp only [State.writeElems, apply_ite Prod.fst, apply_ite State.pending, ih, rawWrite_pending, writeVal_pending, ite_self]

@[simp] theorem writeTable_pending (p : Nat) (r : Request) : (s.writeTable p r).pending = s.pending := by
  simp only [State.writeTable]
  split
  · exact answer_pending ..
  · split
    · simp only [answer_pending, writeElems_pending]
    · rfl

/-! The other messages (R190, R295 to R299, R312 to R321). -/

@[simp] theorem commitMsg_pending (p : Nat) (r : Request) : (s.commitMsg p r).pending = s.pending := by
  simp only [State.commitMsg, apply_ite State.pending, answer_pending, ite_self]

@[simp] theorem snapAt_pending (v : Nat) : (s.snapAt v).1.pending = s.pending := by
  simp only [State.snapAt]
  generalize (if v = 0 then boundaryFrom (s.toCore.now + 2 * frameUnits) else askedInstant v) = t
  split
  · rfl
  · split
    · rfl
    · split
      · rfl
      · split
        · rfl
        · split <;> rfl

@[simp] theorem snapMsg_pending (p : Nat) (r : Request) : (s.snapMsg p r).pending = s.pending := by
  simp only [State.snapMsg, apply_ite State.pending, answer_pending, snapAt_pending, ite_self]

@[simp] theorem snapDone_pending : s.snapDone.pending = s.pending := by
  simp only [State.snapDone]; split <;> rfl

@[simp] theorem beat_pending (p : Nat) (r : Request) : (s.beat p r).pending = s.pending := by
  simp only [State.beat, apply_ite State.pending, answer_pending, ite_self]

@[simp] theorem digestMsg_pending (p : Nat) (r : Request) : (s.digestMsg p r).pending = s.pending := rfl

@[simp] theorem exportMsg_pending (p : Nat) (r : Request) : (s.exportMsg p r).pending = s.pending := by
  simp only [State.exportMsg]
  split
  · rfl
  · split
    · rfl
    · split
      · rfl
      · split
        · rfl
        · simp only [apply_ite State.pending, answer_pending, ite_self]

@[simp] theorem takeoverMsg_pending (p : Nat) (r : Request) : (s.takeoverMsg p r).pending = s.pending := by
  simp only [State.takeoverMsg, apply_ite State.pending, answer_pending, ite_self]

@[simp] theorem decideTakeovers_pending : s.decideTakeovers.pending = s.pending :=
  foldl_keeps State.pending (fun t (x : Nat × Nat × Request) => answer_pending t x.1 x.2.2 0 _) _ _

@[simp] theorem roleChange_pending : s.roleChange.pending = s.pending := by
  simp only [State.roleChange, apply_ite State.pending, decideTakeovers_pending, ite_self]

@[simp] theorem setSubs_pending (t : Tab Subscriber) : (s.setSubs t).pending = s.pending := rfl

@[simp] theorem subscribeTo_pending (p : Nat) (r : Request) (l : List Nat) : (s.subscribeTo p r l).1.pending = s.pending := by
  simp only [State.subscribeTo]
  split
  · rfl
  · split <;> split
    · rfl
    · split <;> rfl
    · rfl
    · split <;> rfl

@[simp] theorem subscribeMsg_pending (p : Nat) (r : Request) : (s.subscribeMsg p r).pending = s.pending := by
  simp only [State.subscribeMsg, answer_pending]
  split
  · rfl
  · split
    · exact subscribeTo_pending ..
    · exact subscribeTo_pending ..
    · exact subscribeTo_pending ..
    · rfl
    · rfl

@[simp] theorem lapse_pending (k : Nat) : (s.lapse k).pending = s.pending := by
  simp only [State.lapse]
  split
  · simp only [apply_ite State.pending, setSubs_pending, ite_self]
  · rfl

@[simp] theorem abortMsg_pending (p : Nat) (r : Request) : (s.abortMsg p r).pending = s.pending := by
  simp only [State.abortMsg]
  split
  · split
    · simp only [answer_pending, refuse_pending]
    · rfl
  · split <;> rfl
  · rfl

@[simp] theorem cacheExpire_pending (p : Nat) : (s.cacheExpire p).pending = s.pending := rfl

/-! The frame boundary, the step of module time and the boot steps (R21, R38, R366). -/

@[simp] theorem sendEvent_pending (k : Nat) (e : Event) : (s.sendEvent k e).pending = s.pending := by
  simp only [State.sendEvent]; split <;> rfl

@[simp] theorem sendEvents_pending : s.sendEvents.pending = s.pending :=
  foldl_keeps State.pending
    (fun t (x : Nat × Subscriber) => foldl_keeps State.pending (fun u e => sendEvent_pending u x.1 e) x.2.queue t) _ _

@[simp] theorem countHandled_pending : s.countHandled.pending = s.pending := rfl

@[simp] theorem snapStep_pending : s.snapStep.pending = s.pending := by
  simp only [State.snapStep]; split <;> rfl

@[simp] theorem exportCopies_pending : s.exportCopies.pending = s.pending := by
  simp only [State.exportCopies]; split <;> rfl

@[simp] theorem frame_pending : s.frame.pending = s.pending := by
  simp only [State.frame]
  split
  · simp only [restartDue_pending, sendEvents_pending]
  · simp only [exportCopies_pending, snapStep_pending, countHandled_pending]

@[simp] theorem timeStep_pending : s.timeStep.pending = s.pending := by
  simp only [State.timeStep]; split <;> rfl

@[simp] theorem bootStep_pending (r : BootReport) : (s.bootStep r).pending = s.pending := by
  simp only [State.bootStep]
  split
  · rfl
  · split <;> simp only [apply_ite State.pending, restart_pending, sendEvents_pending, settle_pending, ite_self]

@[simp] theorem bootTimeWait_pending : s.bootTimeWait.pending = s.pending := by
  simp only [State.bootTimeWait, apply_ite State.pending, bootStep_pending, ite_self]

end State

/-! ### Every command answers a next state -/

/-- An outcome is a next state in which the queue of commands is as it was. -/
def AnswersKeeping (s : State) (o : Host.Outcome State Fault Refusal) : Prop := ∃ t : State, o = .next t ∧ t.pending = s.pending

namespace AnswersKeeping

variable {s t : State}

theorem of_next (h : t.pending = s.pending) : AnswersKeeping s (.next t) := ⟨t, rfl, h⟩

/-- A command that dies held in reset do not take (R364). -/
theorem of_running (h : t.pending = s.pending) : AnswersKeeping s (.next (if s.toCore.dead then s else t)) :=
  of_next (ite_of (q := fun u : State => u.pending = s.pending) _ _ _ rfl h)

/-- A command of the module alone. -/
theorem of_does (f : Core → Core) : AnswersKeeping s (s.does f) := of_next (s.lift_pending f)

/-- A pin, which acts in reset too. -/
theorem of_pin (f : Core → Core) : AnswersKeeping s (.next (s.pin f)) := of_next (s.pin_pending f)

/-- A command that takes a message. -/
theorem of_serves {p type : Nat} {handle : Request → State → State} (h : ∀ r t, (handle r t).pending = t.pending) :
    AnswersKeeping s (s.serves p type handle) :=
  of_running ((State.settle_pending _).trans (s.serve_pending p type handle h))

/-- A command that writes an object of the engine. -/
theorem of_writes {p : Nat} {f : Nat → State → State} (h : ∀ k t, (f k t).pending = t.pending) :
    AnswersKeeping s (s.writes p f) :=
  of_running ((State.settle_pending _).trans (s.byPath_pending p f h))

end AnswersKeeping

open AnswersKeeping in
/-- Every command keeps the queue: the rows that reach beyond the module itself by the lemma about their operation, all others as
commands of the module alone. -/
theorem exec_answersKeeping (i : Instr) (s : State) : AnswersKeeping s (exec i s) := by
  cases i
  case clearNAssert => exact of_pin _
  case clearNRelease => exact of_pin _
  case elsLightLoss => exact of_pin _
  case elsLightReturn => exact of_pin _
  case tckEdge => exact of_pin _
  case powerOn => exact of_next (State.settle_pending _)
  case vddAuxLoss => exact of_next (State.settle_pending _)
  case resetN w => exact of_next ((State.settle_pending _).trans (s.resetN_pending w))
  case resetNRelease m => exact of_next ((State.settle_pending _).trans (s.resetRelease_pending m.toNat))
  case powerFail w => exact of_next ((State.settle_pending _).trans (s.powerFail_pending w))
  case heartbeatTimeout => exact of_next (s.lift_pending _)
  case digestFailureDeclare => exact of_next (s.lift_pending _)
  case motinDatagram => exact of_running ((State.settle_pending _).trans (State.datagram_pending ..))
  case snapshotCopyDone => exact of_running s.snapDone_pending
  case takeoverDecision => exact of_running ((State.settle_pending _).trans s.decideTakeovers_pending)
  case roleChange => exact of_running ((State.settle_pending _).trans s.roleChange_pending)
  case subscriptionLapse k => exact of_running (s.lapse_pending k.val)
  case replyCacheExpire p => exact of_running (s.cacheExpire_pending p.val)
  case frameBoundary => exact of_running (by simp only [State.sendEvents_pending, State.settle_pending, State.frame_pending])
  case timeStep => exact of_running ((State.settle_pending _).trans s.timeStep_pending)
  case bootStepEnd r => exact of_running ((State.settle_pending _).trans (s.bootStep_pending r))
  case bootTimeWaitExpire => exact of_running ((State.settle_pending _).trans s.bootTimeWait_pending)
  case read p => exact of_serves fun r t => t.read_pending p.val r
  case write p => exact of_serves fun r t => t.write_pending p.val r
  case readTable p => exact of_serves fun r t => t.readTable_pending p.val r
  case writeTable p => exact of_serves fun r t => t.writeTable_pending p.val r
  case commit p => exact of_serves fun r t => t.commitMsg_pending p.val r
  case snap p => exact of_serves fun r t => t.snapMsg_pending p.val r
  case heartbeat p => exact of_serves fun r t => t.beat_pending p.val r
  case stateDigest p => exact of_serves fun r t => t.digestMsg_pending p.val r
  case export_ p => exact of_serves fun r t => t.exportMsg_pending p.val r
  case takeover p => exact of_serves fun r t => t.takeoverMsg_pending p.val r
  case subscribe p => exact of_serves fun r t => t.subscribeMsg_pending p.val r
  case abort p => exact of_serves fun r t => t.abortMsg_pending p.val r
  case keyWrite p k v => exact of_writes fun a t => t.writeKey_pending a k.val v.toNat
  case mgtAddressWrite p port sub v =>
    exact of_writes fun a t => ite_of (q := fun u : State => u.pending = t.pending) _ _ _ (t.writeReg_pending ..) rfl
  case registerWrite p o e v => exact of_writes fun a t => t.writeReg_pending p.val a o e v
  case rawWindowWrite => exact of_writes fun a t => t.writeReg_pending ..
  case rawLocateWrite => exact of_writes fun a t => t.writeReg_pending ..
  all_goals exact of_does _

/-- Settles O3: `exec_answersKeeping`, case by case over the commands. -/
theorem everyCommandAnswersAndKeepsTheQueue : Obligations.EveryCommandAnswersAndKeepsTheQueue := exec_answersKeeping

end Sys2Proof.Machine
end

section
/-! PROOFS. The RW writes of a served path: each is the check of its object, and then the write waits for the boundary or ends with
the check's abort code (R7, R287). -/

namespace Sys2Proof.Machine

/-! ### The checks of the RW writes -/

theorem Core.ceilingCheck_eq_zero {c : Core} {te v : Nat} (hf : v ≤ c.rd OD.FACTORY_CEILING te) (hc : c.clearCode te ≤ v)
    (hd : c.driven te ≤ v ∨ (c.loop te).st = .parked) : c.ceilingCheck te v = 0 := by
  refine if_neg ?_
  rintro (h | h | ⟨h, hp⟩)
  · omega
  · omega
  · exact hd.elim (fun hd => by omega) hp

theorem Core.clearCodeCheck_eq_zero {c : Core} {te v : Nat} (hc : v ≤ c.ceiling te) (hv : 8704 ≤ te → v = 0) :
    c.clearCodeCheck te v = 0 := by
  refine if_neg ?_
  rintro (h | ⟨h, hn⟩)
  · omega
  · exact hn (hv h)

/-- A disabled port with a legal frame size and hold is accepted, where the port is disabled or keeps its width (R229). -/
theorem Core.portCheck_eq_zero_of_off {c : Core} {k v : Nat} (h64 : 64 ≤ portMax v) (hmax : portMax v ≤ 10240)
    (hhold : portHold v ≤ 10000) (hoff : portOn v = false) (hw : c.portEnabled k → bits (c.portCfg k) 30 29 = bits v 30 29) :
    c.portCheck k v = 0 := by
  have hsize : ¬ (portMax v < 64 ∨ 10240 < portMax v ∨ 10000 < portHold v) := by omega
  have hwidth : ¬ (c.portEnabled k ∧ bits (c.portCfg k) 30 29 ≠ bits v 30 29) := fun h => h.2 (hw h.1)
  simp only [Core.portCheck, if_neg hsize, if_neg hwidth, hoff, Bool.false_eq_true, false_and, if_false]

/-- A zero field [31:27] has its bit 31 and its bits [30:27] zero. -/
theorem bit_31_and_bits_30_27_of_zero {v : Nat} (h : bits v 31 27 = 0) : bit v 31 = false ∧ bits v 30 27 = 0 := by
  simp only [bits, bit, beq_eq_false_iff_ne] at h ⊢
  omega

/-- Legal fields without FORCE are accepted for a defined source (R341). -/
theorem Core.sourceConfigCheck_eq_zero {c : Core} {n v : Nat} (hn : (Dict.severity n).isSome) (hz : bits v 31 27 = 0)
    (hs : bits v 26 24 ≤ 4) (he : bits v 23 16 = 0 ∨ (2 ≤ bits v 23 16 ∧ bits v 15 0 ≠ 0)) :
    c.sourceConfigCheck n v = 0 := by
  obtain ⟨sev, hsev⟩ := Option.isSome_iff_exists.1 hn
  obtain ⟨hforce, hres⟩ := bit_31_and_bits_30_27_of_zero hz
  have hlegal : ¬ (bits v 30 27 ≠ 0 ∨ 4 < bits v 26 24 ∨ bits v 23 16 = 1 ∨ (bits v 23 16 ≠ 0 ∧ bits v 15 0 = 0)) := by
    omega
  simp only [Core.sourceConfigCheck, hsev, if_neg hlegal, hforce, Bool.false_eq_true, if_false]

theorem Core.overrideCheck_zero (c : Core) (z : Nat) : c.overrideCheck z 0 = 0 := if_neg (by omega)

/-! ### The write commands -/

/-- What an RW write whose check gives an abort code, 0 for none, answers in a state (R7, R287). -/
def State.acceptOrAbort (s : State) (obj e v abort : Nat) : Host.Outcome State Fault Refusal :=
  .next (if abort = 0 then { s with result := 0, pend := s.pend ++ [(okey obj e, v)] } else { s with result := abort })

theorem State.acceptOrAbort_zero (s : State) (obj e v : Nat) : s.acceptOrAbort obj e v 0 =
    .next { s with result := 0, pend := s.pend ++ [(okey obj e, v)] } := rfl

theorem Core.seqEnableWrite_eq_rwWrite {c : Core} {q v : Nat} (h : v = 1 → c.rdNext (seqObj OD.SEQ_ENABLE_2720 q) ≠ 0) :
    c.seqEnableWrite q v = c.rwWrite (seqObj OD.SEQ_ENABLE_2720 q) 0 v (if 1 < v then abValue else 0) := by
  have hnew : ¬ (v = 1 ∧ c.rdNext (seqObj OD.SEQ_ENABLE_2720 q) = 0) := fun ⟨hv, hz⟩ => h hv hz
  simp only [Core.seqEnableWrite, if_neg hnew]
  split <;> rfl

/-- A sequence that is not enabled is, from its first instant on (R134). -/
theorem Core.seqEnableWrite_first {c : Core} {q : Nat} {t : Option Instant} (hz : c.rdNext (seqObj OD.SEQ_ENABLE_2720 q) = 0)
    (hf : c.seqFirst q = (0, t)) :
    c.seqEnableWrite q 1 = (c.setSeq q { c.seq q with next := t }).defer (seqObj OD.SEQ_ENABLE_2720 q) 0 1 := by
  simp [Core.seqEnableWrite, hz, hf]

section Served

variable {s : State} {p : Path} (h : s.Serves p)
include h

/-- A command that is an RW write on the state in which a served path's command begins. -/
theorem State.does_eq_acceptOrAbort {f : Core → Core} {obj e v abort : Nat}
    (hf : f (s.toCore.ends 0) = (s.toCore.ends 0).rwWrite obj e v abort) :
    s.does (fun c => c.byActive p f) = s.acceptOrAbort obj e v abort := by
  obtain ⟨-, hpow, hboot, hact⟩ := id h
  have hsame : s.toCore.byActive p f = s.toCore.byActive p (fun c => c.rwWrite obj e v abort) := by
    rw [Core.byActive_served f hpow hboot hact, Core.byActive_served _ hpow hboot hact, hf]
  calc s.does (fun c => c.byActive p f)
      = s.does (fun c => c.byActive p (fun c => c.rwWrite obj e v abort)) := by
        simp only [State.does, State.lift, State.pin, hsame]
    _ = s.acceptOrAbort obj e v abort := State.does_rwWrite obj e v (fun _ => abort) h

theorem exec_ceilingWrite (te : Te) (v : BitVec 32) :
    exec (.ceilingWrite p te v) s = s.acceptOrAbort OD.CEILING te v.toNat (s.ceilingCheck te v.toNat) :=
  State.does_rwWrite OD.CEILING te v.toNat (fun c => c.ceilingCheck te v.toNat) h

theorem exec_clearCodeWrite (te : Te) (v : BitVec 32) :
    exec (.clearCodeWrite p te v) s = s.acceptOrAbort OD.CLEAR_CODE te v.toNat (s.clearCodeCheck te v.toNat) :=
  State.does_rwWrite OD.CLEAR_CODE te v.toNat (fun c => c.clearCodeCheck te v.toNat) h

theorem exec_portConfigWrite (k : Lane) (v : BitVec 32) :
    exec (.portConfigWrite p k v) s = s.acceptOrAbort OD.PORT_CONFIG k v.toNat (s.portCheck k v.toNat) :=
  State.does_rwWrite OD.PORT_CONFIG k v.toNat (fun c => c.portCheck k v.toNat) h

theorem exec_queueConfigWrite (q : Fin 262144) (v : BitVec 64) :
    exec (.queueConfigWrite p q v) s = s.acceptOrAbort OD.QUEUE_CONFIG q v.toNat (s.queueCheck q v.toNat) :=
  State.does_rwWrite OD.QUEUE_CONFIG q v.toNat (fun c => c.queueCheck q v.toNat) h

theorem exec_sourceConfigWrite (n : Fin 512) (v : BitVec 32) :
    exec (.sourceConfigWrite p n v) s = s.acceptOrAbort OD.SOURCE_CONFIG n v.toNat (s.sourceConfigCheck n v.toNat) :=
  State.does_rwWrite OD.SOURCE_CONFIG n v.toNat (fun c => c.sourceConfigCheck n v.toNat) h

theorem exec_zoneOverrideWrite (z : Fin 8) (v : BitVec 8) :
    exec (.zoneOverrideWrite p z v) s = s.acceptOrAbort OD.ZONE_OVERRIDE z v.toNat (s.overrideCheck z v.toNat) :=
  State.does_rwWrite OD.ZONE_OVERRIDE z v.toNat (fun c => c.overrideCheck z v.toNat) h

theorem exec_perfConfigWrite (k : Fin 64) (v : BitVec 32) :
    exec (.perfConfigWrite p k v) s = s.acceptOrAbort OD.PERF_CONFIG k v.toNat (perfCheck v.toNat) :=
  State.does_rwWrite OD.PERF_CONFIG k v.toNat (fun _ => perfCheck v.toNat) h

theorem exec_testConfigWrite (n : Fin 146) (v : BitVec 32) :
    exec (.testConfigWrite p n v) s = s.acceptOrAbort OD.TEST_CONFIG n v.toNat (s.testCheck n v.toNat) :=
  State.does_rwWrite OD.TEST_CONFIG n v.toNat (fun c => c.testCheck n v.toNat) h

theorem exec_laneRetrain (k : Lane) (v : BitVec 8) :
    exec (.laneRetrain p k v) s = s.acceptOrAbort OD.LANE_BOOT_FAILED k v.toNat (laneRetrainCheck v.toNat) :=
  State.does_rwWrite OD.LANE_BOOT_FAILED k v.toNat (fun _ => laneRetrainCheck v.toNat) h

theorem exec_timeSourceWrite (v : BitVec 8) :
    exec (.timeSourceWrite p v) s = s.acceptOrAbort OD.TIME_SOURCE 0 v.toNat (if 4 < v.toNat then abValue else 0) :=
  State.does_eq_acceptOrAbort h (by split <;> rfl)

theorem exec_seqEnableWrite (q : Fin 4) (v : BitVec 8) (hv : v = 1 → s.rdNext (OD.SEQ_ENABLE_2720 + 256 * q) ≠ 0) :
    exec (.seqEnableWrite p q v) s =
      s.acceptOrAbort (OD.SEQ_ENABLE_2720 + 256 * q) 0 v.toNat (if 1 < v.toNat then abValue else 0) :=
  State.does_eq_acceptOrAbort h (Core.seqEnableWrite_eq_rwWrite fun e => hv (BitVec.eq_of_toNat_eq e))

theorem exec_seqEnableWrite_first (q : Fin 4) (t : Option Instant) (hz : s.rdNext (OD.SEQ_ENABLE_2720 + 256 * q) = 0)
    (hf : s.seqFirst q = (0, t)) :
    exec (.seqEnableWrite p q 1) s = .next { s with
      result := 0
      survey := { s.survey with seqs := Tab.put s.survey.seqs q { s.seq q with next := t } SeqRec.reset }
      pend := s.pend ++ [(okey (OD.SEQ_ENABLE_2720 + 256 * q) 0, 1)] } := by
  have hrun := Core.seqEnableWrite_first (c := s.toCore.ends 0) hz hf
  obtain ⟨⟨-, ⟨hlines, hevents⟩, -⟩, -⟩ := id h
  refine (State.does_served (fun c => c.seqEnableWrite q 1) h ?_ ?_).trans ?_
  · rw [hrun]; exact hlines
  · rw [hrun]; exact hevents
  · rw [hrun]; rfl

end Served

/-- Settles O12: each row is the check of its object followed by `acceptOrAbort`. -/
theorem registerWritesAcceptOrAbort : Obligations.RegisterWritesAcceptOrAbort := by
  intro s p h
  refine ⟨exec_ceilingWrite h, exec_clearCodeWrite h, exec_portConfigWrite h, exec_queueConfigWrite h, exec_sourceConfigWrite h,
    exec_zoneOverrideWrite h, exec_perfConfigWrite h, exec_testConfigWrite h, exec_timeSourceWrite h, ?_, exec_seqEnableWrite h,
    exec_seqEnableWrite_first h⟩
  intro k v
  have hcheck : laneRetrainCheck v.toNat = if v = 0 then 0 else abValue := by
    simp only [laneRetrainCheck, ← BitVec.toNat_inj]; rfl
  exact hcheck ▸ exec_laneRetrain h k v

/-- Settles O11: under the conditions stated the check of each row gives no abort code. -/
theorem registerWritesWaitForTheBoundary : Obligations.RegisterWritesWaitForTheBoundary := by
  intro s p h
  refine ⟨?_, ?_, ?_, ?_, ?_, ?_⟩
  · intro te v hf hc hd
    rw [exec_ceilingWrite h, Core.ceilingCheck_eq_zero hf hc hd, State.acceptOrAbort_zero]
  · intro te v hc hv
    rw [exec_clearCodeWrite h, Core.clearCodeCheck_eq_zero hc fun hte => by rw [hv hte]; rfl, State.acceptOrAbort_zero]
  · intro k v h64 hmax hhold hoff hw
    rw [exec_portConfigWrite h, Core.portCheck_eq_zero_of_off h64 hmax hhold hoff hw, State.acceptOrAbort_zero]
  · intro n v hn hz hs he
    rw [exec_sourceConfigWrite h, Core.sourceConfigCheck_eq_zero hn hz hs he, State.acceptOrAbort_zero]
  · intro z
    exact (exec_zoneOverrideWrite h z 0).trans
      (congrArg (s.acceptOrAbort OD.ZONE_OVERRIDE z 0) (s.overrideCheck_zero z))
  · intro k
    exact exec_laneRetrain h k 0

end Sys2Proof.Machine
end

section
/-! PROOFS. Accepted writes that come into force at a boundary with nothing but their value (R7). -/

namespace Sys2Proof.Machine

/-! ### Sparse tables -/

/-- A property of every entry and of the default is a property of what is read. -/
theorem Tab.get_of_forall {α : Type} {q : α → Prop} {t : Tab α} {d : α} (h : ∀ x ∈ t, q x.2) (hd : q d) (k : Nat) :
    q (Tab.get t k d) := by
  induction t with
  | nil => exact hd
  | cons x r ih =>
    simp only [Tab.get]
    split
    · exact h x List.mem_cons_self
    · exact ih fun y hy => h y (List.mem_cons_of_mem _ hy)

/-- Writing an element of another object leaves the list of an object's elements. -/
theorem storeListed_erase {t : Tab Nat} {obj k : Nat} (h : okeyObj k ≠ obj) :
    storeListed (Tab.erase t k) obj = storeListed t obj := by
  induction t with
  | nil => rfl
  | cons x r ih =>
    simp only [Tab.erase]
    split
    · next hx => rw [ih]; simp [storeListed, hx, h]
    · simp only [storeListed, List.filterMap_cons] at ih ⊢
      rw [ih]

theorem storeListed_insert {t : Tab Nat} {obj k : Nat} (v : Nat) (h : okeyObj k ≠ obj) :
    storeListed (Tab.insert t k v) obj = storeListed t obj := by
  induction t with
  | nil => simp [Tab.insert, storeListed, h]
  | cons x r ih =>
    simp only [Tab.insert]
    split
    · simp [storeListed, h]
    · simp only [storeListed, List.filterMap_cons] at ih ⊢
      rw [ih]

theorem storeListed_storePut {t : Tab Nat} {obj k : Nat} (v : Nat) (h : okeyObj k ≠ obj) :
    storeListed (storePut t k v) obj = storeListed t obj := by
  simp only [storePut, Tab.put]
  split
  · exact storeListed_erase h
  · rw [storeListed_insert v h, storeListed_erase h]

theorem okeyObj_okey {obj e : Nat} (h : e < 1048576) : okeyObj (okey obj e) = obj := by
  simp only [okeyObj, okey]; omega

theorem okey_okeyObj_okeyElem (k : Nat) : okey (okeyObj k) (okeyElem k) = k := by
  simp only [okeyObj, okeyElem, okey]; omega

/-! ### Writes of objects that a write only gives its value -/

theorem ne_of_plainObj {obj o : Nat} (h : plainObj obj = true) (ho : plainObj o = false) : obj ≠ o := by
  rintro rfl
  exact Bool.false_ne_true (ho.symm.trans h)

/-- The SEQ_ENABLE of the four sequences is not plain. -/
theorem not_seqEnable_of_plainObj {obj : Nat} (h : plainObj obj = true) :
    ¬ (obj % 256 = 1 ∧ 0x2720 ≤ obj / 256 ∧ obj / 256 ≤ 0x2723) := by
  rintro ⟨hsub, hlo, hhi⟩
  have hfour : obj = 0x272001 ∨ obj = 0x272101 ∨ obj = 0x272201 ∨ obj = 0x272301 := by omega
  rcases hfour with rfl | rfl | rfl | rfl <;> exact absurd h (by decide)

theorem Core.apply_plain (c : Core) {k : Nat} (v : Nat) (h : plainObj (okeyObj k) = true) :
    c.apply k v = { c with regs := storePut c.regs k v } := by
  have hne (o : Nat) (ho : plainObj o = false) : okeyObj k ≠ o := ne_of_plainObj h ho
  simp only [Core.apply, if_neg (not_seqEnable_of_plainObj h), hne OD.SOURCE_CONFIG rfl, hne OD.RAW_LOCATE rfl,
    hne OD.TIME_SOURCE rfl, hne OD.PPS_OUT_MODE rfl, hne OD.PTP_ENABLE_1302 rfl, hne (OD.PTP_ENABLE_1302 + 256) rfl,
    hne OD.QUEUE_CONFIG rfl, hne OD.METER_CONFIG rfl, hne OD.SHAPER_CONFIG rfl, hne OD.BUF_PROFILE rfl, hne OD.PORT_CONFIG rfl,
    hne OD.GLIDE_PROFILE rfl, hne OD.PERF_CONFIG rfl, hne OD.TEST_CONFIG rfl, hne OD.BW_WINDOW rfl, if_false, Core.wr,
    okey_okeyObj_okeyElem]

theorem Core.waits_plain (c : Core) {k : Nat} (h : plainObj (okeyObj k) = true) : c.waits k = false := by
  simp [Core.waits, ne_of_plainObj h (o := OD.BW_WINDOW) rfl, ne_of_plainObj h (o := OD.LANE_BOOT_FAILED) rfl]

/-- The values of a list of writes, in force one after another. -/
def storePutAll (l : List (Nat × Nat)) (t : Tab Nat) : Tab Nat := l.foldl (fun t w => storePut t w.1 w.2) t

theorem foldl_apply_plain (l : List (Nat × Nat)) (c : Core) (h : ∀ w ∈ l, plainObj (okeyObj w.1) = true) :
    l.foldl (fun (c : Core) w => if c.waits w.1 then { c with pend := c.pend ++ [w] } else c.apply w.1 w.2) c =
      { c with regs := storePutAll l c.regs } := by
  induction l generalizing c with
  | nil => rfl
  | cons w l ih =>
    have hw := h w List.mem_cons_self
    rw [List.foldl_cons, Core.waits_plain c hw, Core.apply_plain c w.2 hw]
    exact ih _ fun x hx => h x (List.mem_cons_of_mem _ hx)

theorem Core.applyWrites_plain {c : Core} (h : ∀ w ∈ c.pend, plainObj (okeyObj w.1) = true) :
    c.applyWrites = { c with regs := storePutAll c.pend c.regs, pend := [] } :=
  foldl_apply_plain c.pend { c with pend := [] } h

theorem storeListed_storePutAll {obj : Nat} (l : List (Nat × Nat)) (t : Tab Nat) (h : ∀ w ∈ l, okeyObj w.1 ≠ obj) :
    storeListed (storePutAll l t) obj = storeListed t obj := by
  induction l generalizing t with
  | nil => rfl
  | cons w l ih =>
    exact (ih _ fun x hx => h x (List.mem_cons_of_mem _ hx)).trans (storeListed_storePut _ (h w List.mem_cons_self))

theorem storeGet_storePutAll {k : Nat} (l : List (Nat × Nat)) (t : Tab Nat) (h : ∀ w ∈ l, k ≠ w.1) :
    storeGet (storePutAll l t) k = storeGet t k := by
  induction l generalizing t with
  | nil => rfl
  | cons w l ih =>
    exact (ih _ fun x hx => h x (List.mem_cons_of_mem _ hx)).trans (storeGet_storePut_ne _ _ (h w List.mem_cons_self))

end Sys2Proof.Machine
end

section
/-! PROOFS. What the steps of a frame boundary do to a module in which nothing is in progress (R21). -/

namespace Sys2Proof.Machine

/-! ### A module at rest -/

/-- The part of `State.AtRest` that speaks of the module: nothing that a frame boundary would move on. -/
structure Core.Idle (c : Core) : Prop where
  loops : c.loops = []
  coaches : ∀ x ∈ c.coaches, x.2.running = false
  links : c.links = []
  cur : c.trav.cur = none
  release : c.trav.release = none
  thaw : c.trav.thaw = []
  target : c.pwr.target = none
  coefFrom : c.pwr.coefFrom = none
  items : c.cal.items = []
  writes : c.cal.writes = []
  fringe : c.cal.fringe = none
  notCurrent : c.cal.notCurrent = []
  replace : c.tt.replace = none
  prove : c.test.prove = none
  since : c.test.since = []
  slewing : c.time.slewing = false
  lockAtBoundary : c.time.lockAtBoundary = false
  armed : c.ucode.armed = none
  gates : c.pkt.gates = []
  ports : c.enabledPorts = []
  seqs : c.survey.seqs = []
  perf : storeListed c.regs OD.PERF_CONFIG = []
  lines : c.faults.lines = []

theorem State.AtRest.idle {s : State} (h : s.AtRest) : s.toCore.Idle := by
  obtain ⟨-, loops, links, cur, release, thaw, -, target, coefFrom, items, writes, fringe, notCurrent, replace, coaches, prove,
    since, slewing, lockAtBoundary, armed, gates, ports, seqs, perf, lines, -⟩ := h
  exact { loops, coaches, links, cur, release, thaw, target, coefFrom, items, writes, fringe, notCurrent, replace, prove, since,
          slewing, lockAtBoundary, armed, gates, ports, seqs, perf, lines }

/-- The part of `State.AtRest` beyond the module at work: no restart is due, and nobody exports or subscribes. -/
theorem State.AtRest.noneServed {s : State} (h : s.AtRest) :
    s.boot.restart = none ∧ s.motin.exports = [] ∧ s.motin.subs = [] := by
  obtain ⟨-, -, -, -, -, -, -, -, -, -, -, -, -, -, -, -, -, -, -, -, -, -, -, -, -, hserved⟩ := h
  exact hserved

section

variable {c : Core}

/-! The operations of a boundary that only go on with something in progress. -/

theorem Core.mapLoops_of_nil (h : c.loops = []) (p : Nat → Bool) (f : Nat → Loop → Loop) : c.mapLoops p f = c := by
  simp only [Core.mapLoops, h, Tab.mapIf, List.filterMap_nil]
  rw [← h]

theorem Core.slotOverrun_of_not_running (h : ∀ x ∈ c.coaches, x.2.running = false) (n : Nat) : c.slotOverrun n = c := by
  have hrun : (c.coach n).running = false := Tab.get_of_forall (q := fun x : CoachRec => x.running = false) h rfl n
  simp [Core.slotOverrun, hrun]

theorem Core.slotsEnd_idle (hl : c.loops = []) (hc : ∀ x ∈ c.coaches, x.2.running = false) : c.slotsEnd = c := by
  have hover : c.coaches.foldl (fun (c : Core) p => c.slotOverrun p.1) c = c :=
    foldl_of_fixed (fun p => Core.slotOverrun_of_not_running hc p.1) _
  simp only [Core.slotsEnd, hover, Core.mapLoops_of_nil hl]

theorem Core.now_lt_frameEnd (c : Core) : c.now < c.frameEnd := Nat.lt_div_mul_add (by decide)

theorem Core.sample_of_no_perf (h : storeListed c.regs OD.PERF_CONFIG = []) (t : Instant) : c.sample t = c := by
  simp [Core.sample, h]

theorem Core.sampleFrame_of_no_perf (h : storeListed c.regs OD.PERF_CONFIG = []) : c.sampleFrame = c := by
  simp [Core.sampleFrame, h]

theorem Core.loopEdges_of_no_perf (h : storeListed c.regs OD.PERF_CONFIG = []) : c.loopEdges = c := by
  simp [Core.loopEdges, h]

theorem Core.occur_of_no_perf (h : storeListed c.regs OD.PERF_CONFIG = []) (ev q n : Nat) : c.occur ev q n = c := by
  simp [Core.occur, h]

theorem Core.chkCountAll_of_no_checker (h : c.test.since = []) : c.chkCountAll = c := by
  simp [Core.chkCountAll, h]

/-- A frame that ends, without loops, running programs, checkers and performance counters: time moves on to its end, and the
occurrences that no command stands for are counted (log 42). -/
theorem Core.frameEnds_idle (hl : c.loops = []) (hc : ∀ x ∈ c.coaches, x.2.running = false) (hs : c.test.since = [])
    (hp : storeListed c.regs OD.PERF_CONFIG = []) :
    c.frameEnds = { c with
      now := c.frameEnd, up := c.up + (c.frameEnd - c.now), frames := c.frames + 1, pkt := { c.pkt with epoch := 0 }
      test := { c.test with
        unseen := ({ c with now := c.frameEnd, up := c.up + (c.frameEnd - c.now) } : Core).countUnseen.test.unseen } } := by
  have hadv : c.advanceTo c.frameEnd = { c with now := c.frameEnd, up := c.up + (c.frameEnd - c.now) } := by
    simp only [Core.advanceTo, if_pos c.now_lt_frameEnd, Core.sample_of_no_perf hp]
  have hcounted : (c.slotsEnd.advanceTo c.frameEnd).sampleFrame.chkCountAll =
      { c with now := c.frameEnd, up := c.up + (c.frameEnd - c.now) } := by
    rw [Core.slotsEnd_idle hl hc, hadv, Core.sampleFrame_of_no_perf (by exact hp), Core.chkCountAll_of_no_checker (by exact hs)]
  unfold Core.frameEnds
  simp only [hcounted, Core.countUnseen]

namespace Core.Idle

theorem calApply (h : c.Idle) : c.calApply = c := by
  have htakes : c.calTakes = c := by simp [Core.calTakes, h.items, h.writes]
  simp only [Core.calApply, htakes, Core.stillOld, h.notCurrent, List.filter_nil]
  rw [← h.notCurrent]

theorem trimFrame (h : c.Idle) : c.trimFrame = c := by simp [Core.trimFrame, Core.inTrim, h.loops]

theorem fringeBoundary (h : c.Idle) : c.fringeBoundary = c := by simp only [Core.fringeBoundary, h.fringe]

/-- Without checkers no injected error is seen, and none waits any longer. -/
theorem injectBoundary (h : c.Idle) : c.injectBoundary = { c with test := { c.test with inject := [] } } := by
  have hnil : c.test.inject.flatMap (fun _ => ([] : List Nat)) = [] := List.flatMap_eq_nil_iff.2 fun _ _ => rfl
  simp only [Core.injectBoundary, h.since, List.map_nil, List.filter_nil, ite_self, hnil, List.foldl_nil]

theorem proveBoundary (h : c.Idle) : c.proveBoundary = c := by simp only [Core.proveBoundary, h.prove]

theorem slewStep (h : c.Idle) : c.slewStep = c := by simp [Core.slewStep, h.slewing]

theorem releaseBoundary (h : c.Idle) : c.releaseBoundary = c := by simp only [Core.releaseBoundary, h.release]

theorem powerBegin (h : c.Idle) : c.powerBegin = c := by simp only [Core.powerBegin, h.target]

theorem activate (h : c.Idle) (st : Tab Nat) : c.activate st = c := by simp only [Core.activate, h.armed]

theorem traverseBegin (h : c.Idle) : c.traverseBegin = c := by simp only [Core.traverseBegin, h.cur]

theorem freeze (h : c.Idle) : c.freeze = c := by simp only [Core.freeze, h.cur]

theorem commitAt (h : c.Idle) : c.commitAt = c := by simp only [Core.commitAt, h.cur]

theorem ttAt (h : c.Idle) : c.ttAt = c := by simp only [Core.ttAt, h.cur, Core.ttReplacePassed, h.replace]

theorem thawBoundary (h : c.Idle) : c.thawBoundary = c := by simp [Core.thawBoundary, h.thaw]

theorem linkBoundary (h : c.Idle) (d : Nat) : c.linkBoundary d = c := by
  have hlink : c.link d = Link.reset := by simp only [Core.link, h.links, Tab.get]
  simp [Core.linkBoundary, hlink, Link.reset]

theorem ovldBoundary (h : c.Idle) (d : Nat) : c.ovldBoundary d = c := by
  have hlink : c.link d = Link.reset := by simp only [Core.link, h.links, Tab.get]
  simp only [Core.ovldBoundary, hlink, Link.reset, Core.drop, h.lines, List.filter_nil, Bool.false_eq_true, if_false]
  rw [← h.lines]

theorem publish (h : c.Idle) : c.publish = c := Core.mapLoops_of_nil h.loops _ _

theorem stepThree (h : c.Idle) : c.stepThree = c := by
  have hlinks : [0, 1, 2, 3].foldl (fun (d : Core) k => (d.linkBoundary k).ovldBoundary k) c = c :=
    foldl_of_fixed (fun k => by rw [h.linkBoundary, h.ovldBoundary]) _
  simp only [Core.stepThree, h.traverseBegin, h.freeze, h.commitAt, h.ttAt, ne_eq, not_true_eq_false,
    decide_false, Bool.false_eq_true, if_false, h.coefFrom, Option.isSome_none, h.thawBoundary, hlinks]

theorem stepFour (h : c.Idle) : c.stepFour = c := by
  simp [Core.stepFour, h.ports, Core.gatesStart, h.gates]

theorem timeTriggers (h : c.Idle) : c.timeTriggers = c :=
  foldl_of_fixed (fun q => by
    have hseq : (c.seq q).next = none := by simp only [Core.seq, h.seqs, Tab.get, SeqRec.reset]
    simp only [hseq]) _

/-- Plain writes that come into force leave a module at rest at rest. -/
theorem plainWrites (h : c.Idle) {l : List (Nat × Nat)} (hl : ∀ w ∈ l, plainObj (okeyObj w.1) = true) :
    ({ c with regs := storePutAll l c.regs, pend := [] } : Core).Idle :=
  { h with
    ports := by
      refine Eq.trans (List.filter_congr fun p hp => congrArg portOn ?_) h.ports
      refine storeGet_storePutAll l c.regs fun w hw hk => ?_
      have hp : p < 128 := List.mem_range.1 hp
      exact ne_of_plainObj (hl w hw) (o := OD.PORT_CONFIG) rfl (hk ▸ okeyObj_okey (by omega))
    perf := (storeListed_storePutAll l c.regs fun w hw => ne_of_plainObj (hl w hw) rfl).trans h.perf }

/-- Step 2 of R21 at rest: the plain writes come into force, and an injection that waits is over. -/
theorem stepTwo (h : c.Idle) (hw : ∀ w ∈ c.pend, plainObj (okeyObj w.1) = true) :
    c.stepTwo = { c with regs := storePutAll c.pend c.regs, pend := [], test := { c.test with inject := [] } } := by
  have hwritten := h.plainWrites hw
  have hinjected : ({ c with regs := storePutAll c.pend c.regs, pend := [], test := { c.test with inject := [] } } : Core).Idle :=
    { hwritten with }
  simp only [Core.stepTwo, Core.applyWrites_plain hw, hwritten.calApply, hwritten.trimFrame, hwritten.fringeBoundary,
    hwritten.injectBoundary, hinjected.proveBoundary, hinjected.slewStep, h.lockAtBoundary, hinjected.releaseBoundary,
    hinjected.powerBegin, hinjected.activate, Bool.false_eq_true, if_false]

/-- Steps 2 to 5 of R21 at rest. -/
theorem boundary (h : c.Idle) (hw : ∀ w ∈ c.pend, plainObj (okeyObj w.1) = true) :
    c.boundary = { c with regs := storePutAll c.pend c.regs, pend := [], test := { c.test with inject := [] } } := by
  have hafter : ({ c with regs := storePutAll c.pend c.regs, pend := [], test := { c.test with inject := [] } } : Core).Idle :=
    { h.plainWrites hw with }
  simp only [Core.boundary, h.publish, h.stepTwo hw, hafter.stepThree, hafter.stepFour, hafter.timeTriggers,
    Core.loopEdges_of_no_perf hafter.perf]

end Core.Idle

end

end Sys2Proof.Machine
end

section
/-! PROOFS. The frame boundary: how a frame ends, and the two ways in which the boundary goes on (R21, R364, R383). -/

namespace Sys2Proof.Machine

/-! ### The end of a frame in every state -/

/-- Module time, the number of frames and the boot's own record: what no counting and no overrun touches. -/
def Core.clock (c : Core) : Instant × Nat × Boot := (c.now, c.frames, c.boot)

theorem Core.clock_eq {c : Core} {t : Instant} {n : Nat} {b : Boot} :
    c.clock = (t, n, b) ↔ c.now = t ∧ c.frames = n ∧ c.boot = b := by
  simp only [Core.clock, Prod.mk.injEq]

section

variable (c : Core)

@[simp] theorem Core.wr_clock (o e v : Nat) : (c.wr o e v).clock = c.clock := by simp [Core.clock]

@[simp] theorem Core.inc_clock (o e n : Nat) : (c.inc o e n).clock = c.clock := c.wr_clock ..

@[simp] theorem Core.inc64_clock (o e n : Nat) : (c.inc64 o e n).clock = c.clock := c.wr_clock ..

@[simp] theorem Core.pulse_clock (n : Nat) (ls ks : List Nat) : (c.pulse n ls ks).clock = c.clock := by simp [Core.clock]

@[simp] theorem Core.setChan_clock (te : Nat) (x : Chan) : (c.setChan te x).clock = c.clock := by simp [Core.clock]

@[simp] theorem Core.setCoach_clock (n : Nat) (x : CoachRec) : (c.setCoach n x).clock = c.clock := by simp [Core.clock]

@[simp] theorem Core.modLoop_clock (te : Nat) (f : Loop → Loop) : (c.modLoop te f).clock = c.clock := by
  simp [Core.clock, Core.modLoop]

@[simp] theorem Core.mapLoops_clock (p : Nat → Bool) (f : Nat → Loop → Loop) : (c.mapLoops p f).clock = c.clock := by
  simp [Core.clock, Core.mapLoops]

theorem Core.slotOverrun_clock (n : Nat) : (c.slotOverrun n).clock = c.clock := by
  simp only [Core.slotOverrun, apply_ite Core.clock, Core.pulse_clock, Core.inc_clock, Core.wr_clock, Core.setCoach_clock,
    Core.modLoop_clock, Core.setChan_clock, ite_self]

theorem Core.slotsEnd_clock : c.slotsEnd.clock = c.clock := by
  simp only [Core.slotsEnd, Core.mapLoops_clock]
  exact foldl_keeps Core.clock (fun (c : Core) (p : Nat × CoachRec) => c.slotOverrun_clock p.1) _ _

/-- Counters that a fold advances where a test says so. -/
theorem Core.foldl_inc64_clock (q : Nat × Nat → Prop) [DecidablePred q] (n : Nat) (l : List (Nat × Nat)) :
    (l.foldl (fun (x : Core) p => if q p then x.inc64 OD.PERF_COUNT p.1 n else x) c).clock = c.clock :=
  foldl_keeps Core.clock (f := fun (x : Core) p => if q p then x.inc64 OD.PERF_COUNT p.1 n else x)
    (fun x _ => by simp only [apply_ite Core.clock, Core.inc64_clock, ite_self]) l c

theorem Core.sample_clock (t : Instant) : (c.sample t).clock = c.clock := by
  simp only [Core.sample]
  split
  · rfl
  · exact c.foldl_inc64_clock (fun p => bit p.2 31 ∧ bit p.2 30 ∧ c.level (perfEvent p.2) (perfQual p.2)) _ _

theorem Core.sampleFrame_clock : c.sampleFrame.clock = c.clock :=
  c.foldl_inc64_clock (fun p => bit p.2 31 ∧ bit p.2 30 ∧ c.loopLevel p.2) 1 _

theorem Core.bitErrors_clock (n errors : Nat) : (c.bitErrors n errors).clock = c.clock := by
  simp only [Core.bitErrors, apply_ite Core.clock, Core.wr_clock, Core.inc64_clock, ite_self]

theorem Core.chkCount_clock (n : Nat) : (c.chkCount n).clock = c.clock := by
  simp only [Core.chkCount]
  split
  · exact (Core.bitErrors_clock _ _ _).trans (Core.inc64_clock ..)
  · rfl

theorem Core.chkCountAll_clock : c.chkCountAll.clock = c.clock := foldl_keeps Core.clock Core.chkCount_clock _ _

theorem Core.countUnseen_clock : c.countUnseen.clock = c.clock := by simp only [Core.clock, Core.countUnseen]

theorem Core.advanceTo_clock {t : Instant} (h : c.now < t) : (c.advanceTo t).clock = (t, c.frames, c.boot) := by
  obtain ⟨-, hframes, hboot⟩ := Core.clock_eq.1 (c.sample_clock t)
  simp only [Core.clock, Core.advanceTo, if_pos h, hframes, hboot]

theorem Core.frameEnds_epoch : c.frameEnds.pkt.epoch = 0 := rfl

/-- The frame that ends takes module time to its end and counts; the boot's record stays. -/
theorem Core.frameEnds_clock : c.frameEnds.clock = (c.frameEnd, c.frames + 1, c.boot) := by
  obtain ⟨hnow, hframes, hboot⟩ := Core.clock_eq.1 c.slotsEnd_clock
  have hlt : c.slotsEnd.now < c.frameEnd := by rw [hnow]; exact c.now_lt_frameEnd
  have hcounted : (c.slotsEnd.advanceTo c.frameEnd).sampleFrame.chkCountAll.countUnseen.clock =
      (c.frameEnd, c.frames, c.boot) := by
    rw [Core.countUnseen_clock, Core.chkCountAll_clock, Core.sampleFrame_clock, Core.advanceTo_clock _ hlt, hframes, hboot]
  simp only [Core.clock, Prod.mk.injEq] at hcounted
  simp only [Core.clock, Core.frameEnds, hcounted]

theorem Core.frameEnds_now : c.frameEnds.now = c.frameEnd := (Core.clock_eq.1 c.frameEnds_clock).1

theorem Core.frameEnds_frames : c.frameEnds.frames = c.frames + 1 := (Core.clock_eq.1 c.frameEnds_clock).2.1

theorem Core.frameEnds_boot : c.frameEnds.boot = c.boot := (Core.clock_eq.1 c.frameEnds_clock).2.2

end

/-! ### The two ways of a frame boundary -/

section

variable {s : State} {cause : Nat} {t : Instant}

theorem exec_frameBoundary (h : s.toCore.dead = false) : exec .frameBoundary s = .next s.frame.settle.sendEvents := by
  simp only [exec, execFrameBoundary, h, Bool.false_eq_true, if_false]

/-- Where no restart is due at the boundary, the steps of R21 follow the end of the frame. -/
theorem State.frame_of_no_restart (h : ∀ cause t, s.boot.restart = some (cause, t) → s.frameEnd < t) :
    s.frame =
      let t := ({ s with toCore := s.toCore.frameEnds } : State).countHandled.snapStep
      ({ t with toCore := t.toCore.boundary } : State).exportCopies := by
  have hdue : s.toCore.frameEnds.boot.restart.any (fun x => decide (x.2 ≤ s.toCore.frameEnds.now)) = false := by
    rw [Core.frameEnds_now, Core.frameEnds_boot]
    cases hr : s.boot.restart with
    | none => rfl
    | some x =>
      have := h x.1 x.2 hr
      simpa using this
  simp only [State.frame, hdue, Bool.false_eq_true, if_false]

/-- A restart that is due at the boundary comes in place of the steps of R21, once the events that wait are sent. -/
theorem State.frame_of_restart (hr : s.boot.restart = some (cause, t)) (ht : t ≤ s.frameEnd) :
    s.frame = ({ s with toCore := s.toCore.frameEnds } : State).sendEvents.restartDue := by
  have hdue : s.toCore.frameEnds.boot.restart.any (fun x => decide (x.2 ≤ s.toCore.frameEnds.now)) = true := by
    rw [Core.frameEnds_now, Core.frameEnds_boot, hr]; exact decide_eq_true ht
  simp only [State.frame, hdue, if_true]

theorem State.restartDue_of_due (hr : s.boot.restart = some (cause, t)) (ht : t ≤ s.now) (hc : cause ≠ 4) :
    s.restartDue = s.restart cause := by
  simp only [State.restartDue, hr, if_neg (Nat.not_lt.2 ht), if_neg hc]

theorem State.sendEvent_clock (s : State) (k : Nat) (e : Event) : (s.sendEvent k e).toCore.clock = s.toCore.clock := by
  simp only [State.sendEvent]
  split
  · exact Core.inc64_clock ..
  · rfl

theorem State.sendEvents_clock (s : State) : s.sendEvents.toCore.clock = s.toCore.clock :=
  foldl_keeps (fun u : State => u.toCore.clock) (fun u (x : Nat × Subscriber) =>
    foldl_keeps (fun u : State => u.toCore.clock) (fun u e => u.sendEvent_clock x.1 e) x.2.queue u) _ _

/-! A restart forgets what the test unit has counted, and sending events does not look at it. -/

/-- The state with another record of the test unit. -/
def State.setTest (s : State) (x : TestUnit) : State := { s with toCore := { s.toCore with test := x } }

theorem State.send_setTest (s : State) (x : TestUnit) (p : Nat) (a : NetAddr) (k ty id r : Nat) (b : List Byte) :
    (s.setTest x).send p a k ty id r b = (s.send p a k ty id r b).setTest x := rfl

theorem Core.resetFor_setTest (c : Core) (x : TestUnit) (cause : Nat) :
    ({ c with test := x } : Core).resetFor cause = c.resetFor cause := by
  have hkeeps : ({ c with test := x } : Core).keeps cause = c.keeps cause := rfl
  have hpower : ({ c with test := x } : Core).power = c.power := rfl
  simp only [Core.resetFor, hkeeps, hpower]

theorem State.restart_setTest (s : State) (x : TestUnit) (cause : Nat) : (s.setTest x).restart cause = s.restart cause := by
  have hreset : (s.setTest x).toCore.resetFor cause = s.toCore.resetFor cause := s.toCore.resetFor_setTest x cause
  simp only [State.restart, hreset]
  rfl

theorem State.sendEvent_setTest (s : State) (x : TestUnit) (k : Nat) (e : Event) :
    (s.setTest x).sendEvent k e = (s.sendEvent k e).setTest x := by
  have hsubs : (s.setTest x).motin.subs = s.motin.subs := rfl
  simp only [State.sendEvent, hsubs]
  cases Tab.find? s.motin.subs k with
  | none => rfl
  | some u =>
    simp only [State.send_setTest]
    rfl

theorem State.sendEvents_setTest (s : State) (x : TestUnit) : (s.setTest x).sendEvents = s.sendEvents.setTest x :=
  List.foldl_hom (State.setTest · x) fun _ (p : Nat × Subscriber) =>
    List.foldl_hom (State.setTest · x) (l := p.2.queue) fun u e => u.sendEvent_setTest x p.1 e

/-- A restart other than a warm one at the end of a frame without loops, running programs, checkers and performance counters: the
occurrences that the frame's end counts (log 42) are gone with it. -/
theorem State.frame_of_restart_without_loops (hr : s.boot.restart = some (cause, t)) (ht : t ≤ s.frameEnd) (hc : cause ≠ 4)
    (hl : s.loops = []) (hcoach : ∀ x ∈ s.coaches, x.2.running = false) (hs : s.test.since = [])
    (hp : storeListed s.regs OD.PERF_CONFIG = []) :
    s.frame = (State.sendEvents { s with
      now := s.frameEnd, up := s.up + (s.frameEnd - s.now), frames := s.frames + 1, pkt := { s.pkt with epoch := 0 } }).restart
      cause := by
  have hends : ({ s with toCore := s.toCore.frameEnds } : State) = State.setTest { s with
      now := s.frameEnd, up := s.up + (s.frameEnd - s.now), frames := s.frames + 1, pkt := { s.pkt with epoch := 0 } }
      s.toCore.frameEnds.test := by
    rw [Core.frameEnds_idle hl hcoach hs hp]; rfl
  have hclock := ({ s with toCore := s.toCore.frameEnds } : State).sendEvents_clock.trans s.toCore.frameEnds_clock
  obtain ⟨hnow, -, hboot⟩ := Core.clock_eq.1 hclock
  rw [State.frame_of_restart hr ht, State.restartDue_of_due (by rw [hboot, hr]) (by rw [hnow]; exact ht) hc, hends,
    State.sendEvents_setTest, State.restart_setTest]

/-! ### A boundary with nothing in progress -/

theorem State.countHandled_of_no_perf (h : storeListed s.regs OD.PERF_CONFIG = []) :
    s.countHandled = { s with motin := { s.motin with handled := [] } } := by
  have hcount : s.motin.handled.foldl (fun (c : Core) p => c.occur 0x0B p.1 p.2) s.toCore = s.toCore :=
    foldl_of_fixed (fun p => Core.occur_of_no_perf h 0x0B p.1 p.2) _
  simp only [State.countHandled, hcount]

theorem State.snapStep_of_due {x : Nat × Instant} (h : s.snaps.find? (fun x => decide (x.2 = s.toCore.now)) = some x) :
    s.snapStep = { s with
      copying := some (x.1, x.2, { s.toCore with now := s.toCore.now - 1 }), snaps := s.snaps.filter (fun y => y.1 != x.1) } := by
  simp only [State.snapStep, h]

theorem State.snapStep_of_not_due (h : s.snaps.find? (fun x => decide (x.2 = s.toCore.now)) = none) : s.snapStep = s := by
  simp only [State.snapStep, h]

theorem State.snapStep_toCore (s : State) : s.snapStep.toCore = s.toCore := by
  simp only [State.snapStep]; split <;> rfl

theorem State.snapStep_motin (s : State) : s.snapStep.motin = s.motin := by
  simp only [State.snapStep]; split <;> rfl

theorem State.exportCopies_of_no_export (h : s.motin.exports = []) : s.exportCopies = s := by
  simp only [State.exportCopies, h, List.all_nil, if_true]

theorem State.sendEvents_of_no_subscriber (h : s.motin.subs = []) : s.sendEvents = s := by
  simp only [State.sendEvents, h, List.foldl_nil]

/-- The module at the end of a frame in which nothing was in progress. -/
def Core.idleEnd (c : Core) : Core := { c with
  now := c.frameEnd, up := c.up + (c.frameEnd - c.now), frames := c.frames + 1, pkt := { c.pkt with epoch := 0 }
  test := { c.test with
    unseen := ({ c with now := c.frameEnd, up := c.up + (c.frameEnd - c.now) } : Core).countUnseen.test.unseen } }

theorem Core.Idle.frameEnds {c : Core} (h : c.Idle) : c.frameEnds = c.idleEnd :=
  Core.frameEnds_idle h.loops h.coaches h.since h.perf

theorem Core.Idle.idleEnd {c : Core} (h : c.Idle) : c.idleEnd.Idle := { h with }

/-- The same module once its plain writes are in force (R7): an injection that waits is over with the boundary (R390). -/
def Core.idleBoundary (c : Core) : Core :=
  { c.idleEnd with regs := storePutAll c.pend c.regs, pend := [], test := { c.idleEnd.test with inject := [] } }

theorem Core.Idle.boundary_idleEnd {c : Core} (h : c.Idle) (hw : ∀ w ∈ c.pend, plainObj (okeyObj w.1) = true) :
    c.idleEnd.boundary = c.idleBoundary := h.idleEnd.boundary hw

/-- At rest the boundary ends the frame, takes the snapshot that names it, and brings the plain writes into force. -/
theorem State.AtRest.frame (h : s.AtRest) (hw : ∀ w ∈ s.pend, plainObj (okeyObj w.1) = true) :
    s.frame = { ({ s with toCore := s.toCore.idleEnd, motin := { s.motin with handled := [] } } : State).snapStep with
      toCore := s.toCore.idleBoundary } := by
  have hidle := h.idle
  obtain ⟨hrestart, hexports, -⟩ := h.noneServed
  have hcount : ({ s with toCore := s.toCore.frameEnds } : State).countHandled =
      { s with toCore := s.toCore.idleEnd, motin := { s.motin with handled := [] } } := by
    rw [hidle.frameEnds]
    exact State.countHandled_of_no_perf (s := { s with toCore := s.toCore.idleEnd }) hidle.idleEnd.perf
  rw [State.frame_of_no_restart (by simp [hrestart]), hcount]
  simp only [State.snapStep_toCore, hidle.boundary_idleEnd hw]
  exact State.exportCopies_of_no_export (by simp only [State.snapStep_motin, hexports])

end

/-- Settles O53: at rest by `State.AtRest.frame`, with a restart due by `State.frame_of_restart`, else by
`State.frame_of_no_restart`. -/
theorem frameBoundaryAppliesTheWrites : Obligations.FrameBoundaryAppliesTheWrites := by
  refine ⟨?_, ?_, ?_⟩
  · intro s hrest hw
    obtain ⟨hdead, hcalm, -⟩ := hrest.1
    obtain ⟨-, -, hsubs⟩ := hrest.noneServed
    rw [exec_frameBoundary hdead, hrest.frame hw]
    cases hdue : s.snaps.find? (fun x => decide (x.2 = s.frameEnd)) with
    | none =>
      rw [State.snapStep_of_not_due (by exact hdue), State.settle_calm (by exact hcalm),
        State.sendEvents_of_no_subscriber (by exact hsubs)]
      rfl
    | some x =>
      rw [State.snapStep_of_due (by exact hdue), State.settle_calm (by exact hcalm),
        State.sendEvents_of_no_subscriber (by exact hsubs)]
      rfl
  · intro s cause t hlive hr ht hc hl hcoach hs hp
    rw [exec_frameBoundary hlive.1, State.frame_of_restart_without_loops hr ht hc hl hcoach hs hp]
  · intro s hlive hr ended t
    refine ⟨s.toCore.frameEnds_now, s.toCore.frameEnds_frames, s.toCore.frameEnds_epoch, ?_⟩
    rw [exec_frameBoundary hlive.1, State.frame_of_no_restart hr]
    rfl

end Sys2Proof.Machine
end

section
/-! PROOFS. The microcode load sequence and the owner key: what each of its commands does where it is taken, and how a verification
ends (R97 to R100). -/

namespace Sys2Proof.Machine

/-! ### The commands of a served path -/

/-- What a command of a served path answers where it leaves the faults and the events as they are. -/
theorem State.does_served_eq {s : State} {p : Path} {f : Core → Core} {d : Core} (h : s.Serves p) (hf : f (s.toCore.ends 0) = d)
    (hfaults : d.faults = s.faults) (hevents : d.events = s.events) :
    s.does (fun c => c.byActive p f) = .next { s with toCore := d } := by
  obtain ⟨⟨-, ⟨hlines, hnone⟩, -⟩, -⟩ := id h
  subst hf
  exact State.does_served f h (hfaults ▸ hlines) (hevents.trans hnone)

section

variable {c : Core}

/-- A word of an image joins the words received, of which the first write of a load keeps none (R98). -/
theorem Core.imageWrite_accepted {e : Nat} (w : Nat) (he : e ≤ 4439) (hverify : c.loadState ≠ 2) (harmed : c.loadState ≠ 3) :
    c.imageWrite e w = { c with
      regs := if c.loadState = 1 then c.regs else storePut c.regs (okey OD.LOAD_STATE 0) 1
      ucode := { c.ucode with buffer := Tab.set (if c.loadState = 1 then c.ucode.buffer else []) e w } } := by
  simp only [Core.imageWrite, if_neg (Nat.not_lt.2 he), hverify, harmed, or_self, if_false]
  split <;> rfl

theorem Core.loadVerify_receiving (h : c.loadState = 1) (arm : Bool) :
    c.loadVerify arm = { c.set OD.LOAD_STATE 2 with ucode := { c.ucode with arming := arm } } := if_pos h

theorem Core.loadAbandon_accepted (h : c.loadState = 1 ∨ c.loadState = 3 ∨ c.loadState = 4) :
    c.loadAbandon =
      { c.set OD.LOAD_STATE 0 with ucode := { c.ucode with armed := none, activateAt := none, suspended := false } } := if_pos h

/-- An ACTIVATE_AT of 0 is accepted where R100 does not refuse it, and names the first boundary outside the lead (R99). -/
theorem Core.activateAtWrite_zero (h : c.ucode.suspended = false ∨ c.rd OD.UNSYNCHRONIZED ≠ 1) :
    c.activateAtWrite 0 = { c with
      pend := c.pend ++ [(okey OD.ACTIVATE_AT 0, 0)]
      ucode := if c.loadState = 3 then
          { c.ucode with suspended := false, activateAt := some (boundaryFrom (c.now + 2 * frameUnits)) } else c.ucode } := by
  have howed : ¬ (c.ucode.suspended = true ∧ c.rd OD.UNSYNCHRONIZED = 1) := fun ⟨hs, hu⟩ =>
    h.elim (fun hf => Bool.false_ne_true (hf.symm.trans hs)) (· hu)
  have hstate : (c.defer OD.ACTIVATE_AT 0 0).loadState = c.loadState := rfl
  simp only [Core.activateAtWrite, if_neg howed, ne_eq, not_true_eq_false, false_and, if_false, hstate, if_true]
  split <;> rfl

theorem Core.ownerKeyWrite_unset (v : Nat) (h : c.rd OD.OWNER_KEY_SET ≠ 1) :
    c.ownerKeyWrite v = { c.set OD.OWNER_KEY_SET 1 with ucode := { c.ucode with ownerKey := some v } } := if_neg h

theorem Core.ownerKeyClear_maintenance (h : c.power = psMaint) :
    c.ownerKeyClear 1 = { c.set OD.OWNER_KEY_SET 0 with ucode := { c.ucode with ownerKey := none } } :=
  (if_neg (not_not_intro rfl)).trans (if_neg (not_not_intro h))

/-! ### The end of a verification -/

/-- The result of a verification and its detail as they stand in the registers, with the lowest TE that the selection refuses
(R97, R98). -/
def Core.noteVerdict (c : Core) (r : Nat × Nat) : Core :=
  let c := (c.set OD.LOAD_RESULT r.1).set OD.LOAD_DETAIL r.2
  if r.1 = abSelection then c.set OD.FIRST_MISMATCH (bits r.2 13 0) else c

theorem Core.noteVerdict_eq (r : Nat × Nat) : c.noteVerdict r = { c with regs := (c.noteVerdict r).regs } := by
  simp only [Core.noteVerdict]; split <;> rfl

theorem Core.noteVerdict_regs (r : Nat × Nat) : (c.noteVerdict r).regs =
    let regs := storePut (storePut c.regs (okey OD.LOAD_RESULT 0) r.1) (okey OD.LOAD_DETAIL 0) r.2
    if r.1 = abSelection then storePut regs (okey OD.FIRST_MISMATCH 0) (bits r.2 13 0) else regs := by
  simp only [Core.noteVerdict]; split <;> rfl

/-- On a pass nothing but the result and its detail is noted. -/
theorem Core.noteVerdict_pass_regs {r : Nat × Nat} (h : r.1 = 0) : (c.noteVerdict r).regs =
    storePut (storePut c.regs (okey OD.LOAD_RESULT 0) r.1) (okey OD.LOAD_DETAIL 0) r.2 := by
  have hsel : r.1 ≠ abSelection := h ▸ by decide
  simp only [Core.noteVerdict_regs, if_neg hsel]

/-- An object of which no verdict is noted reads as before. -/
theorem Core.rd_noteVerdict_ne (r : Nat × Nat) {o : Nat} (h1 : okey o 0 ≠ okey OD.LOAD_RESULT 0)
    (h2 : okey o 0 ≠ okey OD.LOAD_DETAIL 0) (h3 : okey o 0 ≠ okey OD.FIRST_MISMATCH 0) : (c.noteVerdict r).rd o = c.rd o := by
  simp only [Core.noteVerdict]
  split
  · rw [Core.rd_wr_ne _ _ h3, Core.rd_wr_ne _ _ h2, Core.rd_wr_ne _ _ h1]
  · rw [Core.rd_wr_ne _ _ h2, Core.rd_wr_ne _ _ h1]

theorem Core.rd_noteVerdict_result (r : Nat × Nat) : (c.noteVerdict r).rd OD.LOAD_RESULT = r.1 := by
  simp only [Core.noteVerdict]
  split
  · rw [Core.rd_wr_ne _ _ (by decide), Core.rd_wr_ne _ _ (by decide), Core.rd_wr_self]
  · rw [Core.rd_wr_ne _ _ (by decide), Core.rd_wr_self]

/-- The event of a load that is in a state with a result (R300). -/
def Core.loadEvent (c : Core) (state result : Nat) : Event :=
  ⟨5, OD.LOAD_STATE, c.now, be 1 state ++ be 3 0 ++ be 4 result⟩

theorem Core.emitLoad_eq {state result : Nat} (hs : c.rd OD.LOAD_STATE = state) (hr : c.rd OD.LOAD_RESULT = result) :
    c.emitLoad = { c with events := c.events ++ [c.loadEvent state result] } := by
  simp only [Core.emitLoad, Core.loadState, hs, hr]; rfl

/-- A write under an injection changes nothing but the record of the faults (R342). -/
theorem Core.eccWrite_eq (store key : Nat) : c.eccWrite store key = { c with faults := (c.eccWrite store key).faults } := by
  simp only [Core.eccWrite, Core.eccTake]; split <;> rfl

/-- A write under an injection does not look at the registers (R342). -/
theorem Core.eccWrite_noteVerdict (r : Nat × Nat) (store key : Nat) :
    (c.noteVerdict r).eccWrite store key = { c.noteVerdict r with faults := (c.eccWrite store key).faults } := by
  rw [Core.eccWrite_eq, Core.noteVerdict_eq]
  simp only [Core.eccWrite, Core.eccTake]
  split <;> rfl

/-- On a failure the load is Failed, and one more image is rejected (R98). -/
theorem Core.verifyEnd_failed (hstate : c.loadState = 2) (hfail : (c.verify c.received).1 ≠ 0) :
    c.verifyEnd = { c with
      regs := storePut (storePut (c.noteVerdict (c.verify c.received)).regs (okey OD.LOAD_STATE 0) 4) (okey OD.REJECTS 0)
        (count32 (c.rd OD.REJECTS) 1)
      events := c.events ++ [c.loadEvent 4 (c.verify c.received).1] } := by
  have hrun : c.verifyEnd = (((c.noteVerdict (c.verify c.received)).set OD.LOAD_STATE 4).inc OD.REJECTS).emitLoad := by
    simp only [Core.verifyEnd, hstate, ne_eq, not_true_eq_false, if_false, hfail, not_false_eq_true, if_true, Core.noteVerdict]
  generalize c.verify c.received = r at hrun ⊢
  have hload : (((c.noteVerdict r).set OD.LOAD_STATE 4).inc OD.REJECTS).rd OD.LOAD_STATE = 4 :=
    (Core.rd_wr_ne _ _ (by decide)).trans (Core.rd_wr_self ..)
  have hresult : (((c.noteVerdict r).set OD.LOAD_STATE 4).inc OD.REJECTS).rd OD.LOAD_RESULT = r.1 :=
    (Core.rd_wr_ne _ _ (by decide)).trans ((Core.rd_wr_ne _ _ (by decide)).trans (Core.rd_noteVerdict_result r))
  have hrejects : ((c.noteVerdict r).set OD.LOAD_STATE 4).rd OD.REJECTS = c.rd OD.REJECTS :=
    (Core.rd_wr_ne _ _ (by decide)).trans (Core.rd_noteVerdict_ne r (by decide) (by decide) (by decide))
  rw [hrun, Core.emitLoad_eq hload hresult, Core.inc, hrejects, Core.noteVerdict_eq]
  rfl

/-- On a pass that does not arm the load is Idle (R98). -/
theorem Core.verifyEnd_passed (hstate : c.loadState = 2) (hpass : (c.verify c.received).1 = 0) (harm : c.ucode.arming = false) :
    c.verifyEnd = { c with
      regs := storePut (c.noteVerdict (c.verify c.received)).regs (okey OD.LOAD_STATE 0) 0
      events := c.events ++ [c.loadEvent 0 (c.verify c.received).1] } := by
  have hrun : c.verifyEnd = ((c.noteVerdict (c.verify c.received)).set OD.LOAD_STATE 0).emitLoad := by
    simp [Core.verifyEnd, hstate, hpass, Core.noteVerdict, harm]
  generalize c.verify c.received = r at hrun ⊢
  have hresult : ((c.noteVerdict r).set OD.LOAD_STATE 0).rd OD.LOAD_RESULT = r.1 :=
    (Core.rd_wr_ne _ _ (by decide)).trans (Core.rd_noteVerdict_result r)
  rw [hrun, Core.emitLoad_eq (Core.rd_wr_self ..) hresult, Core.noteVerdict_eq]
  rfl

/-- The value that an object will have does not depend on what is written to another one. -/
theorem Core.rdNext_congr {d : Core} {o : Nat} (hpend : d.pend = c.pend) (hrd : d.rd o = c.rd o) : d.rdNext o = c.rdNext o := by
  simp only [Core.rdNext, hpend, hrd]

/-- The machine once a verdict is noted and the standby bank is written: the load is Armed (R98, R342). -/
def Core.writeStandby (c : Core) (r : Nat × Nat) : Core := ((c.noteVerdict r).eccWrite 8 shadowMark).set OD.LOAD_STATE 3

theorem Core.writeStandby_eq (r : Nat × Nat) : c.writeStandby r = { c with
    regs := storePut (c.noteVerdict r).regs (okey OD.LOAD_STATE 0) 3, faults := (c.eccWrite 8 shadowMark).faults } := by
  rw [Core.writeStandby, Core.eccWrite_noteVerdict, Core.noteVerdict_eq]
  rfl

theorem Core.rd_writeStandby_ne (r : Nat × Nat) {o : Nat} (h : okey o 0 ≠ okey OD.LOAD_STATE 0) :
    (c.writeStandby r).rd o = (c.noteVerdict r).rd o := by
  rw [Core.writeStandby, Core.rd_wr_ne _ _ h, Core.eccWrite_noteVerdict]
  rfl

/-- The image is armed, with the instant that ACTIVATE_AT names (R99). -/
def Core.arm (c : Core) (img : List Nat) : Core :=
  { c with ucode := { c.ucode with
      armed := some img, suspended := false, activateAt := some (c.activationOf (c.rdNext OD.ACTIVATE_AT)) } }

theorem Core.rd_arm (img : List Nat) (o e : Nat) : (c.arm img).rd o e = c.rd o e := rfl

/-- The verdict and the write of the standby bank leave ACTIVATE_AT alone. -/
theorem Core.arm_writeStandby (r : Nat × Nat) (img : List Nat) :
    (c.writeStandby r).arm img = { c.writeStandby r with ucode := (c.arm img).ucode } := by
  have hpend : (c.writeStandby r).pend = c.pend := by rw [Core.writeStandby_eq]
  have hat : (c.writeStandby r).rdNext OD.ACTIVATE_AT = c.rdNext OD.ACTIVATE_AT :=
    Core.rdNext_congr hpend ((Core.rd_writeStandby_ne r (by decide)).trans
      (Core.rd_noteVerdict_ne r (by decide) (by decide) (by decide)))
  rw [Core.arm, hat, Core.writeStandby_eq]
  rfl

/-- On a pass that arms it the received image is armed (R98). -/
theorem Core.verifyEnd_armed (hstate : c.loadState = 2) (hpass : (c.verify c.received).1 = 0) (harm : c.ucode.arming = true) :
    c.verifyEnd = { c with
      regs := storePut (c.noteVerdict (c.verify c.received)).regs (okey OD.LOAD_STATE 0) 3
      ucode := (c.arm c.received).ucode
      faults := (c.eccWrite 8 shadowMark).faults
      events := c.events ++ [c.loadEvent 3 (c.verify c.received).1] } := by
  have hrun : c.verifyEnd = ((c.writeStandby (c.verify c.received)).arm c.received).emitLoad := by
    simp [Core.verifyEnd, hstate, hpass, Core.noteVerdict, Core.writeStandby, Core.arm, harm]
  generalize c.verify c.received = r at hrun ⊢
  have hload : ((c.writeStandby r).arm c.received).rd OD.LOAD_STATE = 3 := (Core.rd_arm ..).trans (Core.rd_wr_self ..)
  have hresult : ((c.writeStandby r).arm c.received).rd OD.LOAD_RESULT = r.1 :=
    (Core.rd_arm ..).trans <| (Core.rd_writeStandby_ne r (by decide)).trans (Core.rd_noteVerdict_result r)
  rw [hrun, Core.emitLoad_eq hload hresult, Core.arm_writeStandby, Core.writeStandby_eq]
  rfl

end

/-- A verification ends with the events that it sends, in a state in which none waits. -/
theorem exec_ucodeVerifyEnd {s : State} {d : Core} (h : s.dead = false) (hrun : s.verifyEnd = d) :
    exec .ucodeVerifyEnd s = .next (State.settle { s with toCore := d }) := by
  subst hrun
  simp only [exec, execUcodeVerifyEnd, State.does, State.lift, h, Bool.false_eq_true, if_false, State.pin]

/-- Settles O14: each command by its equation on the module, the end of a verification by its three ways. -/
theorem microcodeLoadSequence : Obligations.MicrocodeLoadSequence := by
  refine ⟨?_, ?_⟩
  · intro s p h
    refine ⟨?_, ?_, ?_, ?_, ?_, ?_⟩
    · intro e w he hverify harmed
      exact State.does_served_eq h (Core.imageWrite_accepted w.toNat he hverify harmed) rfl rfl
    · intro hstate
      have hrun := Core.loadVerify_receiving (c := s.toCore.ends 0) hstate
      exact ⟨State.does_served_eq h (hrun false) rfl rfl, State.does_served_eq h (hrun true) rfl rfl⟩
    · intro hstate
      exact State.does_served_eq h (Core.loadAbandon_accepted hstate) rfl rfl
    · intro howed
      exact State.does_served_eq h (Core.activateAtWrite_zero howed) rfl rfl
    · intro v hset
      exact State.does_served_eq h (Core.ownerKeyWrite_unset v.toNat hset) rfl rfl
    · intro hpower
      exact State.does_served_eq h (Core.ownerKeyClear_maintenance hpower) rfl rfl
  · intro s hlive hstate
    obtain ⟨hdead, ⟨-, hevents⟩, -⟩ := hlive
    refine ⟨?_, ?_, ?_⟩
    · intro hfail
      rw [exec_ucodeVerifyEnd hdead (Core.verifyEnd_failed hstate hfail), Core.noteVerdict_regs, hevents]
      rfl
    · intro hpass harm
      rw [exec_ucodeVerifyEnd hdead (Core.verifyEnd_passed hstate hpass harm), Core.noteVerdict_pass_regs hpass, hevents]
      rfl
    · intro hpass harm
      rw [exec_ucodeVerifyEnd hdead (Core.verifyEnd_armed hstate hpass harm), Core.noteVerdict_pass_regs hpass, hevents]
      rfl

end Sys2Proof.Machine
end

section
/-! PROOFS. The element drive: a staging entry joins its channel's queue, a due entry comes into force under the ceiling, the
deglitcher loads the next code (R105 to R116). -/

namespace Sys2Proof.Machine

/-! ### Commands on a module that runs -/

section

variable {s : State} {f : Core → Core} {d : Core}

/-- A command that dies out of reset take ends with what the collector makes of its lines and events (R364). -/
theorem State.does_running (h : s.dead = false) (hf : f s.toCore = d) :
    s.does f = .next (State.settle { s with toCore := d }) := by
  subst hf
  simp only [State.does, State.lift, h, Bool.false_eq_true, if_false, State.pin]

theorem State.does_live_calm (h : s.Live) (hf : f s.toCore = d) (hfaults : d.faults = s.faults) (hevents : d.events = s.events) :
    s.does f = .next { s with toCore := d } := by
  obtain ⟨hdead, ⟨hlines, hnone⟩, -⟩ := h
  rw [State.does_running hdead hf, State.settle_calm ⟨hfaults ▸ hlines, hevents.trans hnone⟩]

/-- A command that reports one pulse, in a state in which no line waits. -/
theorem State.does_pulse (h : s.Live) {n : Nat} (hf : f s.toCore = d.pulse n) (hfaults : d.faults = s.faults) :
    s.does f = .next (State.settle { s with toCore := { d with
      faults := { s.faults with raised := [⟨n, [], [], [], true⟩] } } }) := by
  obtain ⟨hdead, ⟨⟨hraised, -⟩, -⟩, -⟩ := h
  rw [State.does_running hdead hf, Core.pulse, hfaults, hraised]
  rfl

theorem State.does_unchanged (h : s.Live) (hf : f s.toCore = s.toCore) : s.does f = .next s :=
  State.does_live_calm h hf rfl rfl

end

section

variable {c : Core}

/-! ### Staging (R109 to R114) -/

theorem length_queueInsert (x : StEntry) (q : List StEntry) : (queueInsert x q).length = q.length + 1 := by
  induction q with
  | nil => rfl
  | cons y q ih =>
    simp only [queueInsert]
    split
    · rfl
    · simp only [List.length_cons, ih]

theorem Core.clearing_of_teDie_eq {a b : Nat} (h : teDie a = teDie b) : c.clearing a = c.clearing b := by
  simp only [Core.clearing, h]

theorem teDie_channel {d ch : Nat} (h : ch ≤ 2303) : teDie (2304 * d + ch) = d := by
  simp only [teDie]; omega

/-- The entry that a staging word gives, seen at an instant (R109, R110). -/
def entryOf (now : Instant) (w : Nat) : StEntry :=
  ⟨applyInstant now (bits w 33 29) (bits w 28 2), bits w 51 34, bit w 1, bit w 0⟩

theorem Core.stagingEntry_ignored {d : Nat} (w : Nat) (h : c.clearing (2304 * d) = true ∨ (c.link d).up = false) :
    c.stagingEntry d w = c := if_pos h

section Taken

variable {d w : Nat} (hclear : c.clearing (2304 * d) = false) (hup : (c.link d).up = true)
include hclear hup

theorem Core.stagingEntry_malformed (h : 2303 < bits w 63 52 ∨ 99999999 < bits w 28 2) :
    c.stagingEntry d w = (c.inc OD.MALFORMED_ENTRIES).pulse (88 + d) := by
  simp only [Core.stagingEntry, hclear, hup, Bool.false_eq_true, Bool.true_eq_false, or_self, if_false, if_pos h]

theorem Core.stagingEntry_wellFormed (hch : bits w 63 52 ≤ 2303) (htick : bits w 28 2 ≤ 99999999) :
    c.stagingEntry d w = c.stage (2304 * d + bits w 63 52) (entryOf c.now w) := by
  have hlegal : ¬ (2303 < bits w 63 52 ∨ 99999999 < bits w 28 2) := by omega
  simp only [Core.stagingEntry, hclear, hup, Bool.false_eq_true, Bool.true_eq_false, or_self, if_false, if_neg hlegal, entryOf]

end Taken

section Stage

variable {te d : Nat} {x : StEntry} (hdie : teDie te = d) (hclear : c.clearing te = false) (hup : (c.link d).up = true)
include hdie hclear hup

theorem Core.stage_late (h : x.at_ < c.now + nsU 1000) :
    c.stage te x = (c.inc OD.LATE_ENTRIES).pulse (72 + d) := by
  simp only [Core.stage, hdie, hclear, hup, Bool.false_eq_true, Bool.true_eq_false, or_self, if_false, if_pos h]

variable (hahead : c.now + nsU 1000 ≤ x.at_)
include hahead

/-- An entry in time replaces the one of its instant, or joins the queue (R111). -/
theorem Core.stage_inTime : c.stage te x =
    if (c.chan te).queue.any (fun q => q.at_ == x.at_) then
      ((c.setChan te { c.chan te with queue := (c.chan te).queue.map (fun q => if q.at_ = x.at_ then x else q) }).inc
        OD.TICK_COLLISIONS).pulse (88 + d)
    else if 3 ≤ (c.chan te).queue.length then
      ((c.setChan te { c.chan te with queue := (queueInsert x (c.chan te).queue).take 3 }).inc
        OD.QUEUE_OVERFLOWS).pulse (88 + d)
    else c.setChan te { c.chan te with queue := queueInsert x (c.chan te).queue } := by
  simp only [Core.stage, hdie, hclear, hup, Bool.false_eq_true, Bool.true_eq_false, or_self, if_false,
    if_neg (Nat.not_lt.2 hahead), length_queueInsert, Nat.lt_succ_iff]

theorem Core.stage_collides (h : ∃ q ∈ (c.chan te).queue, q.at_ = x.at_) : c.stage te x =
    ((c.setChan te { c.chan te with queue := (c.chan te).queue.map (fun q => if q.at_ = x.at_ then x else q) }).inc
      OD.TICK_COLLISIONS).pulse (88 + d) := by
  rw [Core.stage_inTime hdie hclear hup hahead, if_pos (by simpa using h)]

theorem Core.stage_overflows (hnew : ∀ q ∈ (c.chan te).queue, q.at_ ≠ x.at_) (hfull : 3 ≤ (c.chan te).queue.length) :
    c.stage te x = ((c.setChan te { c.chan te with queue := (queueInsert x (c.chan te).queue).take 3 }).inc
      OD.QUEUE_OVERFLOWS).pulse (88 + d) := by
  rw [Core.stage_inTime hdie hclear hup hahead, if_neg (by simpa using hnew), if_pos hfull]

theorem Core.stage_joins (hnew : ∀ q ∈ (c.chan te).queue, q.at_ ≠ x.at_) (hfree : (c.chan te).queue.length < 3) :
    c.stage te x = c.setChan te { c.chan te with queue := queueInsert x (c.chan te).queue } := by
  rw [Core.stage_inTime hdie hclear hup hahead, if_neg (by simpa using hnew), if_neg (Nat.not_le.2 hfree)]

end Stage

/-! ### Time within a frame and the registers -/

/-- Counting the samples of the levels changes registers alone (R380). -/
theorem Core.sample_eq (t : Instant) : c.sample t = { c with regs := (c.sample t).regs } := by
  have hrest : ({ c.sample t with regs := [] } : Core) = { c with regs := [] } := by
    simp only [Core.sample]
    split
    · rfl
    · refine foldl_keeps (fun x : Core => { x with regs := [] }) (fun x p => ?_) _ _
      split <;> rfl
  exact congrArg (fun x : Core => { x with regs := (c.sample t).regs }) hrest

/-- Keys stand in the order of their objects. -/
theorem okey_lt_okey {o p e : Nat} (f : Nat) (h : o < p) (he : e < 1048576) : okey o e < okey p f := by
  simp only [okey]; omega

/-- An object below PERF_COUNT is none of the counters of the levels (R380). -/
theorem Core.rd_sample (t : Instant) {o e : Nat} (h : okey o e < okey OD.PERF_COUNT 0) : (c.sample t).rd o e = c.rd o e := by
  simp only [Core.sample]
  split
  · rfl
  · refine foldl_keeps (fun x : Core => x.rd o e) (fun x p => ?_) _ _
    split
    · exact Core.rd_wr_ne _ _ (Nat.ne_of_lt (Nat.lt_of_lt_of_le h (by simp only [okey]; omega)))
    · rfl

/-- Time that passes within a frame changes the clocks, and registers as the levels are counted (R380). -/
theorem Core.advanceTo_eq (t : Instant) : c.advanceTo t =
    { c with regs := (c.advanceTo t).regs, up := (c.advanceTo t).up, now := (c.advanceTo t).now } := by
  simp only [Core.advanceTo]
  split
  · rw [Core.sample_eq]
  · rfl

theorem Core.advanceTo_chans (t : Instant) : (c.advanceTo t).chans = c.chans := by rw [Core.advanceTo_eq]

theorem Core.advanceTo_faults (t : Instant) : (c.advanceTo t).faults = c.faults := by rw [Core.advanceTo_eq]

theorem Core.advanceTo_events (t : Instant) : (c.advanceTo t).events = c.events := by rw [Core.advanceTo_eq]

theorem Core.ceiling_advanceTo (t : Instant) (te : Te) : (c.advanceTo t).ceiling te = c.ceiling te := by
  simp only [Core.advanceTo]
  split
  · exact Core.rd_sample t (okey_lt_okey 0 (by decide) (Nat.lt_trans te.isLt (by decide)))
  · rfl

/-! ### The application of a code (R105, R108) -/

theorem Core.codeApply_empty {te : Nat} (h : (c.chan te).queue = []) : c.codeApply te = c := by
  simp only [Core.codeApply, h]

section

variable {te : Te} {x : StEntry} {r : List StEntry} (hq : (c.chan te).queue = x :: r)

/-- The registers once an entry's code is in force at its instant: a code above the ceiling and a LAST entry are counted
(R105, R108). -/
def Core.appliedRegs (c : Core) (te : Nat) (x : StEntry) : Tab Nat :=
  let a := c.advanceTo x.at_
  let regs := storePut a.regs (okey OD.DRIVE_CODE te) (c.applied te x)
  let regs := if c.ceiling te < x.code then
    storePut regs (okey OD.CEILING_VIOLATIONS 0) (count32 (a.rd OD.CEILING_VIOLATIONS) 1) else regs
  if x.last then storePut regs (okey OD.MOVE_DONE 0) (count32 (a.rd OD.MOVE_DONE) 1) else regs

/-- The module at an entry's instant, with the entry's code in force and nothing loaded ahead (R105). -/
def Core.applyEntry (c : Core) (te : Nat) (x : StEntry) (r : List StEntry) : Core :=
  { c.advanceTo x.at_ with regs := c.appliedRegs te x, chans := Tab.put c.chans te ⟨r, none⟩ Chan.reset }

/-- A code put in force leaves the ceiling and the counters of the drive. -/
theorem Core.wr_driveCode_keeps (te : Te) (v : Nat) :
    (c.wr OD.DRIVE_CODE te v).ceiling te = c.ceiling te ∧
    (c.wr OD.DRIVE_CODE te v).rd OD.CEILING_VIOLATIONS = c.rd OD.CEILING_VIOLATIONS ∧
    (c.wr OD.DRIVE_CODE te v).rd OD.MOVE_DONE = c.rd OD.MOVE_DONE := by
  have hte : te.val < 1048576 := Nat.lt_trans te.isLt (by decide)
  exact ⟨Core.rd_wr_ne _ _ (Nat.ne_of_lt (okey_lt_okey _ (by decide) hte)),
    Core.rd_wr_ne _ _ (Nat.ne_of_gt (okey_lt_okey 0 (by decide) hte)),
    Core.rd_wr_ne _ _ (Nat.ne_of_gt (okey_lt_okey 0 (by decide) hte))⟩

include hq

theorem Core.codeApply_not_due (h : c.frameEnd ≤ x.at_) : c.codeApply te = c := by
  simp only [Core.codeApply, hq, if_neg (Nat.not_lt.2 h)]

variable (hdue : x.at_ < c.frameEnd)
include hdue

/-- A due entry comes into force, and one above the ceiling is reported (R105, R108). -/
theorem Core.codeApply_due : c.codeApply te =
    if c.ceiling te < x.code then (c.applyEntry te x r).pulse (84 + teDie te) else c.applyEntry te x r := by
  obtain ⟨hceiling, hviolations, hmoves⟩ :=
    Core.wr_driveCode_keeps (c := (c.advanceTo x.at_).setChan te ⟨r, none⟩) te (c.applied te x)
  have hlimit : _ = c.ceiling te := hceiling.trans (c.ceiling_advanceTo x.at_ te)
  have hcounted (d : Core) (v n : Nat) : ((d.wr OD.CEILING_VIOLATIONS 0 v).pulse n).rd OD.MOVE_DONE = d.rd OD.MOVE_DONE :=
    Core.rd_wr_ne _ _ (by decide)
  simp only [Core.codeApply, hq, if_pos hdue, hlimit, Core.applyEntry, Core.appliedRegs, ← c.advanceTo_chans x.at_]
  by_cases habove : c.ceiling te < x.code
  · simp only [if_pos habove, Core.inc, hviolations, hcounted, hmoves]
    split <;> rfl
  · simp only [if_neg habove, Core.inc, hmoves]
    split <;> rfl

theorem Core.codeApply_within (h : x.code ≤ c.ceiling te) : c.codeApply te = c.applyEntry te x r := by
  rw [Core.codeApply_due hq hdue, if_neg (Nat.not_lt.2 h)]

theorem Core.codeApply_above (h : c.ceiling te < x.code) :
    c.codeApply te = (c.applyEntry te x r).pulse (84 + teDie te) := by
  rw [Core.codeApply_due hq hdue, if_pos h]

end

/-! ### The deglitcher (R105) -/

theorem Core.deglitch_empty {te : Nat} (h : (c.chan te).queue = []) : c.deglitch te = c := by
  simp only [Core.deglitch, h]

section

variable {te : Nat} {x : StEntry} {r : List StEntry} (hq : (c.chan te).queue = x :: r)
include hq

theorem Core.deglitch_loads (hload : (c.chan te).loaded = none) (hseg : segment (c.applied te x) ≠ segment (c.driven te))
    (hdue : x.at_ - nsU (c.rd OD.DEGLITCH_NS) < c.frameEnd) :
    c.deglitch te = { c.advanceTo (x.at_ - nsU (c.rd OD.DEGLITCH_NS)) with
      chans := Tab.put c.chans te { c.chan te with loaded := some (c.applied te x) } Chan.reset } := by
  have hnow : (c.chan te).loaded.isNone = true ∧ segment (c.applied te x) ≠ segment (c.driven te) ∧
      x.at_ - nsU (c.rd OD.DEGLITCH_NS) < c.frameEnd := ⟨by rw [hload]; rfl, hseg, hdue⟩
  simp only [Core.deglitch, hq, if_pos hnow, Core.setChan, Core.advanceTo_chans]

theorem Core.deglitch_waits
    (h : segment (c.applied te x) = segment (c.driven te) ∨ c.frameEnd ≤ x.at_ - nsU (c.rd OD.DEGLITCH_NS)) :
    c.deglitch te = c := by
  simp only [Core.deglitch, hq]
  refine if_neg ?_
  rintro ⟨-, hseg, hdue⟩
  exact h.elim hseg (fun hlate => Nat.not_lt.2 hlate hdue)

end

end

section

variable {s : State} {d : Core} {n : Nat}

theorem exec_stagingEntry_pulse {die : Die} {e : BitVec 64} (h : s.Live) (hrun : s.stagingEntry die e.toNat = d.pulse n)
    (hfaults : d.faults = s.faults) : exec (.stagingEntry die e) s = .next (State.settle { s with toCore := { d with
      faults := { s.faults with raised := [⟨n, [], [], [], true⟩] } } }) :=
  State.does_pulse (f := (·.stagingEntry die e.toNat)) h hrun hfaults

theorem exec_codeApply_pulse {te : Te} (h : s.Live) (hrun : s.codeApply te = d.pulse n)
    (hfaults : d.faults = s.faults) : exec (.codeApply te) s = .next (State.settle { s with toCore := { d with
      faults := { s.faults with raised := [⟨n, [], [], [], true⟩] } } }) :=
  State.does_pulse (f := (·.codeApply te)) h hrun hfaults

end

/-- Settles O19: a staging entry by the cases of `Core.stagingEntry` and of `Core.stage_inTime`, an application by
`Core.codeApply_due`, a load of the deglitcher by `Core.deglitch_loads`. -/
theorem driveChannelsStageAndApply : Obligations.DriveChannelsStageAndApply := by
  intro s hlive
  refine ⟨?_, ?_, ?_, ?_, ?_, ?_⟩
  · intro d e h
    exact State.does_unchanged hlive (Core.stagingEntry_ignored e.toNat h)
  · intro d e hclear hup w te
    refine ⟨?_, ?_⟩
    · intro hch htick x
      have hdie : teDie te = d := teDie_channel hch
      have hrun : s.stagingEntry d w = s.stage te x := Core.stagingEntry_wellFormed hclear hup hch htick
      have hteClear : s.clearing te = false := by
        rw [← hclear]; exact Core.clearing_of_teDie_eq (hdie.trans (teDie_channel (Nat.zero_le _)).symm)
      refine ⟨?_, ?_, ?_, ?_⟩
      · intro hahead hnew hfree
        exact State.does_live_calm hlive (hrun.trans (Core.stage_joins hdie hteClear hup hahead hnew hfree)) rfl rfl
      · intro hahead hsame
        exact (exec_stagingEntry_pulse hlive (hrun.trans (Core.stage_collides hdie hteClear hup hahead hsame)) (by rfl) :)
      · intro hahead hnew hfull
        exact (exec_stagingEntry_pulse hlive (hrun.trans (Core.stage_overflows hdie hteClear hup hahead hnew hfull)) (by rfl) :)
      · intro hnear
        exact (exec_stagingEntry_pulse hlive (hrun.trans (Core.stage_late hdie hteClear hup hnear)) (by rfl) :)
    · intro h
      exact (exec_stagingEntry_pulse hlive (Core.stagingEntry_malformed hclear hup h) (by rfl) :)
  · intro te h
    exact ⟨State.does_unchanged hlive (Core.codeApply_empty h), State.does_unchanged hlive (Core.deglitch_empty h)⟩
  · intro te x r hq h
    exact State.does_unchanged hlive (Core.codeApply_not_due hq h)
  · intro te x r hq hdue
    refine ⟨?_, ?_⟩
    · intro h
      exact State.does_live_calm hlive (Core.codeApply_within hq hdue h) (s.advanceTo_faults _) (s.advanceTo_events _)
    · intro h
      exact (exec_codeApply_pulse hlive (Core.codeApply_above hq hdue h) (s.advanceTo_faults _) :)
  · intro te x r hq hload
    refine ⟨?_, ?_⟩
    · intro hseg ht
      exact State.does_live_calm hlive (Core.deglitch_loads hq hload hseg ht) (s.advanceTo_faults _) (s.advanceTo_events _)
    · intro h
      exact State.does_unchanged hlive (Core.deglitch_waits hq h)

end Sys2Proof.Machine
end

section
/-! PROOFS. The duration of the deglitcher is a stop-only object: its write is an RW write under a check of the power state and of
the value (R106). -/

namespace Sys2Proof.Machine

/-- The row of DEGLITCH_NS: a stop-only U16 from 40 to 320, by default 80 (R119). -/
def deglitchRow : ObjRow := ⟨OD.DEGLITCH_NS, .u 2, .rwStop, 0, .nat 80, .nat 40 320⟩

theorem Dict.find?_deglitchNs : Dict.find? OD.DEGLITCH_NS = some deglitchRow := by decide +kernel

/-- The abort of a write of DEGLITCH_NS, 0 if it is accepted (R106). -/
def Core.deglitchCheck (c : Core) (v : Nat) : Nat :=
  if c.power ≠ psDormant ∧ c.power ≠ psMaint then abRunning
  else if 40 ≤ v ∧ v ≤ 320 ∧ v % 20 = 0 then 0 else abValue

/-- In the states in which it may be written the value alone decides. -/
theorem Core.deglitchCheck_stopped {c : Core} (v : Nat) (h : c.power = psDormant ∨ c.power = psMaint) :
    c.deglitchCheck v = if 40 ≤ v ∧ v ≤ 320 ∧ v % 20 = 0 then 0 else abValue :=
  if_neg fun ⟨hdormant, hmaint⟩ => h.elim hdormant hmaint

/-- The object's own rule: a multiple of 20 (R106). -/
theorem Core.writeObj_deglitchNs (c : Core) (p v : Nat) :
    c.writeObj p deglitchRow 0 v = c.rwWrite OD.DEGLITCH_NS 0 v (if v % 20 = 0 then 0 else abValue) := rfl

/-- A write of DEGLITCH_NS is an RW write under its check. -/
theorem State.writeVal_deglitchNs (s : State) (p auth v : Nat) :
    s.writeVal p auth deglitchRow 0 v =
      { s with toCore := (s.toCore.ends 0).rwWrite OD.DEGLITCH_NS 0 v (s.deglitchCheck v) } := by
  by_cases hrun : s.power ≠ psDormant ∧ s.power ≠ psMaint
  · have hcheck : s.deglitchCheck v = abRunning := if_pos hrun
    rw [hcheck]
    exact if_pos ⟨rfl, hrun⟩
  · have hkey : ¬ (deglitchRow.key = OD.DEGLITCH_NS ∧ s.power ≠ psDormant ∧ s.power ≠ psMaint) := fun hk => hrun hk.2
    rw [State.writeVal, if_neg hkey, Core.deglitchCheck, if_neg hrun]
    by_cases hrange : 40 ≤ v ∧ v ≤ 320
    · have hadmits : deglitchRow.range.admits deglitchRow.ty v = true := decide_eq_true hrange
      have hlegal : ¬ (deglitchRow.ty.admits v = false ∨ deglitchRow.range.admits deglitchRow.ty v = false) := by
        rw [hadmits]
        exact fun h => h.elim nofun nofun
      rw [if_neg hlegal]
      simp only [hrange, true_and, ← Core.writeObj_deglitchNs]
      rfl
    · have hadmits : deglitchRow.range.admits deglitchRow.ty v = false := decide_eq_false hrange
      rw [if_pos (.inr hadmits), if_neg fun hlegal => hrange ⟨hlegal.1, hlegal.2.1⟩]
      rfl

theorem State.writeReg_deglitchNs (s : State) (p auth : Nat) {v : Nat} (h : v < 65536) :
    s.writeReg p auth OD.DEGLITCH_NS 0 v = s.writeVal p auth deglitchRow 0 v := by
  have hlength : ¬ 256 ^ deglitchRow.ty.bytes ≤ v := Nat.not_le.2 h
  have habort : writeAbort (OD.DEGLITCH_NS * 256) false = 0 := by decide +kernel
  have hvalue : s.writeReg p auth OD.DEGLITCH_NS 0 v =
      if writeAbort (OD.DEGLITCH_NS * 256) false ≠ 0 then
        { s with toCore := s.toCore.ends (writeAbort (OD.DEGLITCH_NS * 256) false) }
      else if 256 ^ deglitchRow.ty.bytes ≤ v then { s with toCore := s.toCore.ends abLength }
      else s.writeVal p auth deglitchRow 0 v := by
    simp only [State.writeReg, Dict.find?_deglitchNs]
    rfl
  rw [hvalue, if_neg (not_not_intro habort), if_neg hlength]

section

variable {s : State} {p : Path} (h : s.Serves p) (hkeys : s.motin.keyWrites = []) (haddrs : s.motin.addrWrites = [])
include h hkeys haddrs

/-- A command of a served path that is an RW write of the module alone, where no write waits for a reply. -/
theorem State.writes_eq_acceptOrAbort {f : Nat → State → State} {obj e v abort : Nat}
    (hf : ∀ auth, f auth { s with toCore := s.toCore.ends 0 } =
      { s with toCore := (s.toCore.ends 0).rwWrite obj e v abort }) :
    s.writes p f = s.acceptOrAbort obj e v abort := by
  obtain ⟨⟨hdead, hcalm, -⟩, hpower, hboot, hactive⟩ := h
  have hcalled : s.byPath p f = ({ s with toCore := (s.toCore.ends 0).rwWrite obj e v abort } : State) := by
    rw [State.byPath, if_neg (by simp [hpower, hboot, hactive]), hf]
    exact State.afterReply_nil hkeys haddrs
  rw [State.writes, hdead, hcalled]
  have hcalm' : State.Calm { s with toCore := (s.toCore.ends 0).rwWrite obj e v abort } := by
    rw [Core.rwWrite]
    split <;> exact hcalm
  rw [if_neg Bool.false_ne_true, State.settle_calm hcalm', State.acceptOrAbort, Core.rwWrite]
  split <;> rfl

theorem exec_registerWrite_deglitchNs {v : Nat} (hv : v < 65536) :
    exec (.registerWrite p OD.DEGLITCH_NS 0 v) s = s.acceptOrAbort OD.DEGLITCH_NS 0 v (s.deglitchCheck v) :=
  State.writes_eq_acceptOrAbort h hkeys haddrs fun auth =>
    (State.writeReg_deglitchNs _ _ auth hv).trans (State.writeVal_deglitchNs ..)

end

/-- Settles O51: the three ways of `Core.deglitchCheck`. -/
theorem deglitchWritesNeedDormantOrMaintenance : Obligations.DeglitchWritesNeedDormantOrMaintenance := by
  intro s p v h hkeys haddrs hv
  rw [exec_registerWrite_deglitchNs h hkeys haddrs hv]
  refine ⟨?_, ?_, ?_⟩
  · intro hstopped hlo hhi hstep
    have hcheck : s.deglitchCheck v = 0 := (Core.deglitchCheck_stopped v hstopped).trans (if_pos ⟨hlo, hhi, hstep⟩)
    rw [hcheck, State.acceptOrAbort_zero]
  · intro hstopped hbad
    have hcheck : s.deglitchCheck v = abValue := (Core.deglitchCheck_stopped v hstopped).trans (if_neg (by omega))
    rw [hcheck]
    rfl
  · intro hdormant hmaint
    have hcheck : s.deglitchCheck v = abRunning := if_pos ⟨hdormant, hmaint⟩
    rw [hcheck]
    rfl

end Sys2Proof.Machine
end

section
/-! PROOFS. What is read of an element and of a loop once another one is written. -/

namespace Sys2Proof.Machine

/-! ### Keys of elements, and loops -/

/-- Elements of two objects have two keys. -/
theorem okey_ne_okey {o p e f : Nat} (h : o ≠ p) (he : e < 1048576) (hf : f < 1048576) : okey o e ≠ okey p f := by
  intro hk
  exact h (by simpa only [okeyObj_okey he, okeyObj_okey hf] using congrArg okeyObj hk)

theorem Core.rd_wr (c : Core) (o e v p f : Nat) : (c.wr o e v).rd p f = if okey p f = okey o e then v else c.rd p f := by
  split
  · next h => simp only [Core.rd, h, Core.wr, storeGet_storePut_self]
  · next h => exact c.rd_wr_ne v h

theorem Core.loop_setLoop (c : Core) (te k : Nat) (l : Loop) : (c.setLoop te l).loop k = if k = te then l else c.loop k := by
  split
  · next h => exact h ▸ Tab.get_put_self ..
  · next h => exact Tab.get_put_ne _ _ _ _ h

theorem Core.loop_modLoop (c : Core) (te k : Nat) (f : Loop → Loop) :
    (c.modLoop te f).loop k = if k = te then f (c.loop k) else c.loop k := by
  rw [Core.modLoop, Core.loop_setLoop]
  split
  · next h => rw [h]
  · rfl

theorem Core.modLoop_pulse (c : Core) (n te : Nat) (f : Loop → Loop) : (c.pulse n).modLoop te f = (c.modLoop te f).pulse n := rfl

theorem Core.modLoop_modLoop (c : Core) (te : Nat) (f g : Loop → Loop) :
    (c.modLoop te f).modLoop te g = (c.setLoop te (f (c.loop te))).setLoop te (g (f (c.loop te))) := by
  have hloop : (c.modLoop te f).loop te = f (c.loop te) := Tab.get_put_self ..
  rw [Core.modLoop, hloop, Core.modLoop]

theorem Core.setCalFlag_te (c : Core) (te : Nat) (on : Bool) :
    c.setCalFlag kTe te on = c.modLoop te (fun l => { l with calFlag := on }) :=
  if_pos rfl

end Sys2Proof.Machine
end

section
/-! PROOFS. The end of a full fringe calibration: the cells without light are flagged, what came of it is noted, and every element is
driven back to its clear code (R143, R147, R149, R165). -/

namespace Sys2Proof.Machine

variable {c : Core}

/-! ### The cells without light -/

/-- CAL_FLAG of both elements of a cell (R143). -/
def Core.flagCell (c : Core) (k : Nat) : Core := (c.setCalFlag kTe (2 * k) true).setCalFlag kTe (2 * k + 1) true

/-- CAL_FLAG of both elements of every listed cell (R143). -/
def Core.flagCells (c : Core) (cells : List Nat) : Core := cells.foldl Core.flagCell c

theorem Core.flagCells_eq (cells : List Nat) : c.flagCells cells = { c with loops := (c.flagCells cells).loops } := by
  have hrest : ({ c.flagCells cells with loops := [] } : Core) = { c with loops := [] } :=
    foldl_keeps (fun x : Core => { x with loops := [] }) (f := Core.flagCell) (fun _ _ => rfl) cells c
  exact congrArg (fun x : Core => { x with loops := (c.flagCells cells).loops }) hrest

/-- A cell's two elements take its flag, and no other element does. -/
theorem Core.loop_flagCell (k te : Nat) : (c.flagCell k).loop te =
    if te / 2 = k then { c.loop te with calFlag := true } else c.loop te := by
  rw [Core.flagCell, Core.setCalFlag_te, Core.setCalFlag_te, Core.loop_modLoop, Core.loop_modLoop]
  by_cases hk : te / 2 = k
  · rcases (by omega : te = 2 * k ∨ te = 2 * k + 1) with h | h
    · rw [if_neg (by omega), if_pos h, if_pos hk]
    · rw [if_pos h, if_neg (by omega), if_pos hk]
  · rw [if_neg (by omega), if_neg (by omega), if_neg hk]

theorem Core.loop_flagCells (cells : List Nat) (te : Nat) :
    (c.flagCells cells).loop te = if te / 2 ∈ cells then { c.loop te with calFlag := true } else c.loop te := by
  induction cells generalizing c with
  | nil => rfl
  | cons k cells ih =>
    refine Eq.trans ih ?_
    rw [Core.loop_flagCell]
    by_cases hk : te / 2 = k
    · simp only [hk, if_true, List.mem_cons_self, ite_self]
    · simp only [hk, if_false, List.mem_cons, false_or]

theorem Fringe.mem_dark {f : Fringe} {k : Nat} : k ∈ f.dark ↔ f.bad = false ∧ k < 4352 ∧ k ∉ f.cells := by
  cases hbad : f.bad <;> simp [Fringe.dark, hbad]

/-- The elements of the cells without light are those of the 8,704 cell elements whose cell is not among those with it. -/
theorem Fringe.cell_mem_dark {f : Fringe} {te : Nat} : te / 2 ∈ f.dark ↔ f.bad = false ∧ te < 8704 ∧ te / 2 ∉ f.cells := by
  rw [Fringe.mem_dark]
  have hcell : te / 2 < 4352 ↔ te < 8704 := by omega
  rw [hcell]

/-! ### The way back to the clear codes -/

/-- Every listed element is driven to its clear code (R112, R114). -/
def Core.driveClear (c : Core) (codes : List Nat) : Core := codes.foldl (fun (c : Core) te => c.sweepDrive te (c.clearCode te)) c

/-- Whether an element takes a code (R112, R114). -/
def Core.drivable (c : Core) (te : Nat) : Bool := (c.link (teDie te)).up && !c.clearing te

theorem Core.drivable_iff {te : Nat} : c.drivable te = true ↔ (c.link (teDie te)).up = true ∧ c.clearing te = false := by
  simp only [Core.drivable, Bool.and_eq_true, Bool.not_eq_true']

theorem Core.drivable_eq_false_iff {te : Nat} :
    c.drivable te = false ↔ (c.link (teDie te)).up = false ∨ c.clearing te = true := by
  simp only [Core.drivable, Bool.and_eq_false_iff, Bool.not_eq_false']

theorem Core.sweepDrive_eq (te code : Nat) :
    c.sweepDrive te code = { c with regs := if c.drivable te then storePut c.regs (okey OD.DRIVE_CODE te) code else c.regs } := by
  simp only [Core.sweepDrive, Bool.not_eq_true, Core.drivable_iff]
  split <;> rfl

theorem Core.rd_sweepDrive (te code o e : Nat) : (c.sweepDrive te code).rd o e =
    if okey o e = okey OD.DRIVE_CODE te ∧ c.drivable te then code else c.rd o e := by
  rw [Core.sweepDrive_eq]
  by_cases h : c.drivable te
  · simp only [h, if_true, and_true]
    exact c.rd_wr OD.DRIVE_CODE te code o e
  · simp only [h, Bool.false_eq_true, if_false, and_false]

theorem Core.driveClear_eq (codes : List Nat) : c.driveClear codes = { c with regs := (c.driveClear codes).regs } := by
  have hrest : ({ c.driveClear codes with regs := [] } : Core) = { c with regs := [] } :=
    foldl_keeps (fun x : Core => { x with regs := [] }) (f := fun x te => x.sweepDrive te (x.clearCode te))
      (fun x te => by rw [Core.sweepDrive_eq]) codes c
  exact congrArg (fun x : Core => { x with regs := (c.driveClear codes).regs }) hrest

theorem Core.drivable_sweepDrive (te code k : Nat) : (c.sweepDrive te code).drivable k = c.drivable k := by
  rw [Core.sweepDrive_eq]; rfl

section

variable {codes : List Nat} (hcodes : ∀ te ∈ codes, te < 1048576)
include hcodes

theorem Core.rd_driveClear_ne {o e : Nat} (ho : o ≠ OD.DRIVE_CODE) (he : e < 1048576) : (c.driveClear codes).rd o e = c.rd o e := by
  induction codes generalizing c with
  | nil => rfl
  | cons te codes ih =>
    have hkey := okey_ne_okey ho he (hcodes te List.mem_cons_self)
    refine (ih (fun k hk => hcodes k (List.mem_cons_of_mem _ hk))).trans ?_
    rw [Core.rd_sweepDrive, if_neg fun h => hkey h.1]

theorem Core.rd_driveClear_driveCode {e : Nat} (he : e < 1048576) : (c.driveClear codes).rd OD.DRIVE_CODE e =
    if e ∈ codes ∧ c.drivable e then c.rd OD.CLEAR_CODE e else c.rd OD.DRIVE_CODE e := by
  induction codes generalizing c with
  | nil => simp [Core.driveClear]
  | cons te codes ih =>
    have hclear : (c.sweepDrive te (c.clearCode te)).rd OD.CLEAR_CODE e = c.rd OD.CLEAR_CODE e := by
      rw [Core.rd_sweepDrive, if_neg fun h => okey_ne_okey (by decide) he (hcodes te List.mem_cons_self) h.1]
    refine (ih (c := c.sweepDrive te (c.clearCode te)) (fun k hk => hcodes k (List.mem_cons_of_mem _ hk))).trans ?_
    rw [hclear, Core.rd_sweepDrive, Core.drivable_sweepDrive]
    have hkey : okey OD.DRIVE_CODE e = okey OD.DRIVE_CODE te ↔ e = te := Nat.add_left_cancel_iff
    by_cases hte : e = te
    · subst hte
      by_cases hd : c.drivable e <;> simp [hd, Core.clearCode]
    · simp only [hkey, hte, false_and, if_false, List.mem_cons, false_or]

end

/-! ### The listed elements of an object -/

theorem lt_of_mem_storeListed {t : Tab Nat} {obj e : Nat} (h : e ∈ (storeListed t obj).map (·.1)) : e < 1048576 := by
  simp only [storeListed, List.mem_map, List.mem_filterMap] at h
  obtain ⟨x, ⟨p, -, hp⟩, rfl⟩ := h
  split at hp
  · cases hp; exact Nat.mod_lt _ (by decide)
  · cases hp

/-- An element that is not listed reads as its object's default. -/
theorem storeGet_of_not_listed {t : Tab Nat} {obj e : Nat} (he : e < 1048576) (h : e ∉ (storeListed t obj).map (·.1)) :
    storeGet t (okey obj e) = Dict.dflt obj e := by
  have hdflt : dfltOf (okey obj e) = Dict.dflt obj e := by
    have hkey := okeyObj_okey (obj := obj) he
    have helem : okeyElem (okey obj e) = e := by simp only [okeyElem, okey]; omega
    rw [dfltOf, hkey, helem]
  rw [storeGet, hdflt]
  induction t with
  | nil => rfl
  | cons p t ih =>
    have hp : p.1 ≠ okey obj e := by
      intro hp
      refine h ?_
      have hobj : okeyObj p.1 = obj := hp ▸ okeyObj_okey he
      have helem : okeyElem p.1 = e := by rw [hp]; simp only [okeyElem, okey]; omega
      simp [storeListed, hobj, helem]
    rw [Tab.get, if_neg hp]
    refine ih fun hmem => h ?_
    simp only [storeListed, List.filterMap_cons] at hmem ⊢
    split
    · exact hmem
    · exact List.mem_cons_of_mem _ hmem

/-- The elements that have a code or a clear code other than the default. -/
def Core.coded (c : Core) : List Nat :=
  (storeListed c.regs OD.DRIVE_CODE).map (·.1) ++ (storeListed c.regs OD.CLEAR_CODE).map (·.1)

theorem Core.lt_of_mem_coded {te : Nat} (h : te ∈ c.coded) : te < 1048576 :=
  (List.mem_append.1 h).elim lt_of_mem_storeListed lt_of_mem_storeListed

/-- An element with neither stands at its clear code: both objects have the default 0 (R119). -/
theorem Core.driveCode_of_not_coded {te : Nat} (hte : te < 1048576) (h : te ∉ c.coded) :
    c.rd OD.DRIVE_CODE te = c.rd OD.CLEAR_CODE te := by
  simp only [Core.coded, List.mem_append, not_or] at h
  have hdrive : Dict.dflt OD.DRIVE_CODE te = 0 := rfl
  have hclear : Dict.dflt OD.CLEAR_CODE te = 0 := rfl
  rw [Core.rd, Core.rd, storeGet_of_not_listed hte h.1, storeGet_of_not_listed hte h.2, hdrive, hclear]

/-- With every coded element driven back, an element that takes a code is at its clear code, and any other as it was. -/
theorem Core.rd_driveClear_coded {te : Nat} (hte : te < 1048576) : (c.driveClear c.coded).rd OD.DRIVE_CODE te =
    if c.drivable te then c.rd OD.CLEAR_CODE te else c.rd OD.DRIVE_CODE te := by
  rw [Core.rd_driveClear_driveCode (fun _ => Core.lt_of_mem_coded) hte]
  by_cases hmem : te ∈ c.coded
  · simp only [hmem, true_and]
  · simp only [hmem, false_and, Core.driveCode_of_not_coded hte hmem, ite_self]

/-! ### The end of the calibration -/

/-- What is noted of a full fringe calibration at its end: the flags of the cells without light, UNREACHED, FRINGE_STATE and, where
it fell short, source 241 (R143, R149, R165). -/
def Core.fringeNoted (c : Core) (f : Fringe) : Core :=
  let d := ((c.flagCells f.dark).set OD.UNREACHED f.dark.length).set OD.FRINGE_STATE (c.fringeResult f)
  if c.fringeShort f then d.pulse 241 else d

theorem Core.fringeNoted_eq (f : Fringe) : c.fringeNoted f = { c with
    regs := storePut (storePut c.regs (okey OD.UNREACHED 0) f.dark.length) (okey OD.FRINGE_STATE 0) (c.fringeResult f)
    loops := (c.flagCells f.dark).loops
    faults := { c.faults with raised := c.faults.raised ++ if c.fringeShort f then [⟨241, [], [], [], true⟩] else [] } } := by
  have hflag := c.flagCells_eq f.dark
  simp only [Core.fringeNoted]
  generalize c.flagCells f.dark = d at hflag ⊢
  rw [hflag]
  split
  · rfl
  · simp only [List.append_nil]; rfl

/-- What is noted leaves every other object. -/
theorem Core.rd_fringeNoted_ne (f : Fringe) {o e : Nat} (he : e < 1048576) (h1 : o ≠ OD.UNREACHED) (h2 : o ≠ OD.FRINGE_STATE) :
    (c.fringeNoted f).rd o e = c.rd o e := by
  rw [Core.fringeNoted_eq]
  exact (storeGet_storePut_ne _ _ (okey_ne_okey h2 he (by decide))).trans
    (storeGet_storePut_ne _ _ (okey_ne_okey h1 he (by decide)))

theorem Core.rd_fringeNoted_state (f : Fringe) : (c.fringeNoted f).rd OD.FRINGE_STATE = c.fringeResult f := by
  rw [Core.fringeNoted_eq]
  exact storeGet_storePut_self ..

theorem Core.rd_fringeNoted_unreached (f : Fringe) : (c.fringeNoted f).rd OD.UNREACHED = f.dark.length := by
  rw [Core.fringeNoted_eq]
  exact (storeGet_storePut_ne _ _ (by decide)).trans (storeGet_storePut_self ..)

theorem Core.drivable_fringeNoted (f : Fringe) (te : Nat) : (c.fringeNoted f).drivable te = c.drivable te := by
  rw [Core.fringeNoted_eq]; rfl

/-- The module once the result is noted and every coded element is driven back. -/
def Core.fringeReturned (c : Core) (f : Fringe) : Core := (c.fringeNoted f).driveClear (c.fringeNoted f).coded

theorem Core.rd_fringeReturned_ne (f : Fringe) {o e : Nat} (ho : o ≠ OD.DRIVE_CODE) (he : e < 1048576) :
    (c.fringeReturned f).rd o e = (c.fringeNoted f).rd o e :=
  Core.rd_driveClear_ne (fun _ => Core.lt_of_mem_coded) ho he

theorem Core.rd_fringeReturned_driveCode (f : Fringe) {te : Nat} (hte : te < 1048576) : (c.fringeReturned f).rd OD.DRIVE_CODE te =
    if c.drivable te then c.rd OD.CLEAR_CODE te else c.rd OD.DRIVE_CODE te := by
  rw [Core.fringeReturned, Core.rd_driveClear_coded hte, Core.drivable_fringeNoted,
    Core.rd_fringeNoted_ne f hte (by decide) (by decide), Core.rd_fringeNoted_ne f hte (by decide) (by decide)]

/-- Without a full fringe calibration, before its end or with another result than its own, nothing ends. -/
theorem Core.fringeEnd_none (r n : Nat) (h : c.cal.fringe = none) : c.fringeEnd r n = c := by
  simp only [Core.fringeEnd, h]

theorem Core.fringeEnd_not_due {f : Fringe} {r n : Nat} (h : c.cal.fringe = some f)
    (hdue : f.finished = false ∨ r ≠ c.fringeResult f ∨ n ≠ f.dark.length) : c.fringeEnd r n = c := by
  simp only [Core.fringeEnd, h, if_pos hdue]

/-- The end of a full fringe calibration changes registers, CAL_FLAGs, the lines and the sequencer. -/
theorem Core.fringeEnd_due {f : Fringe} {r n : Nat} (h : c.cal.fringe = some f) (hdone : f.finished = true)
    (hr : r = c.fringeResult f) (hn : n = f.dark.length) : c.fringeEnd r n = { c with
      regs := (c.fringeReturned f).regs
      loops := (c.flagCells f.dark).loops
      cal := { c.cal with fringe := none }
      faults := { c.faults with raised := c.faults.raised ++ if c.fringeShort f then [⟨241, [], [], [], true⟩] else [] } } := by
  subst hr hn
  have hdue : ¬ (f.finished = false ∨ c.fringeResult f ≠ c.fringeResult f ∨ f.dark.length ≠ f.dark.length) := by simp [hdone]
  have hrun : c.fringeEnd (c.fringeResult f) f.dark.length =
      { c.fringeReturned f with cal := { (c.fringeReturned f).cal with fringe := none } } := by
    simp only [Core.fringeEnd, h, if_neg hdue]
    rfl
  have hframe : c.fringeReturned f = { c.fringeNoted f with regs := (c.fringeReturned f).regs } := Core.driveClear_eq _
  rw [hrun]
  generalize (c.fringeReturned f).regs = regs at hframe ⊢
  rw [hframe, Core.fringeNoted_eq]

/-- Settles O33: nothing ends by `Core.fringeEnd_not_due`, and the end that is due is `Core.fringeEnd_due`. -/
theorem fringeCalibrationEndReportsItsResult : Obligations.FringeCalibrationEndReportsItsResult := by
  intro s hlive
  refine ⟨?_, ?_, ?_⟩
  · intro r n hnone
    exact State.does_unchanged hlive (Core.fringeEnd_none _ _ hnone)
  · intro f r n hf hnot
    exact State.does_unchanged hlive (Core.fringeEnd_not_due hf (.inl hnot))
  · intro f r n hf hdone dark short result
    refine ⟨fun hother => State.does_unchanged hlive (Core.fringeEnd_not_due hf (.inr hother)), ?_⟩
    intro hr hn
    obtain ⟨hdead, ⟨⟨hraised, -⟩, -⟩, -⟩ := hlive
    have hsmall (te : Te) : te.val < 1048576 := Nat.lt_trans te.isLt (by decide)
    refine ⟨_, State.does_running hdead (Core.fringeEnd_due hf hdone hr hn), rfl, congrArg (· ++ _) hraised,
      ?_, ?_, ?_, ?_, ?_, ?_⟩
    · exact (Core.rd_fringeReturned_ne f (by decide) (by decide)).trans (Core.rd_fringeNoted_state f)
    · exact (Core.rd_fringeReturned_ne f (by decide) (by decide)).trans (Core.rd_fringeNoted_unreached f)
    · intro te
      refine (Core.loop_flagCells f.dark te).trans ?_
      simp only [Fringe.cell_mem_dark]
    · intro te hup hclear
      exact (Core.rd_fringeReturned_driveCode f (hsmall te)).trans (if_pos (Core.drivable_iff.2 ⟨hup, hclear⟩))
    · intro te hkept
      have hnot : s.drivable te = false := Core.drivable_eq_false_iff.2 hkept
      exact (Core.rd_fringeReturned_driveCode f (hsmall te)).trans (if_neg (Bool.not_eq_true _ ▸ hnot))
    · intro o e he hstate hunreached hdrive
      exact (Core.rd_fringeReturned_ne f hdrive he).trans (Core.rd_fringeNoted_ne f he hunreached hstate)

end Sys2Proof.Machine
end

section
/-! PROOFS. Requests of calibrations and the trims of elements: what each of their commands does where it is taken (R142, R143,
R146 to R153, R161). -/

namespace Sys2Proof.Machine

variable {c : Core}

/-! ### A pair that disagrees (R143) -/

theorem Core.lastPair_eq_false {kind n : Nat} (h : Tab.get c.cal.fails (itemKey kind n) 0 < 2) : c.lastPair kind n = false :=
  decide_eq_false (Nat.not_le.2 h)

theorem Core.lastPair_eq_true {kind n : Nat} (h : 2 ≤ Tab.get c.cal.fails (itemKey kind n) 0) : c.lastPair kind n = true :=
  decide_eq_true h

/-- A pair that disagrees and is not the item's third is counted. -/
theorem Core.disagree_early {kind n : Nat} (h : Tab.get c.cal.fails (itemKey kind n) 0 < 2) : c.disagree kind n = { c with
    regs := storePut c.regs (okey OD.DISAGREEMENTS 0) (count32 (c.rd OD.DISAGREEMENTS) 1)
    cal := { c.cal with
      fails := Tab.put c.cal.fails (itemKey kind n) (Tab.get c.cal.fails (itemKey kind n) 0 + 1) 0 } } := by
  simp only [Core.disagree, Core.lastPair_eq_false h, Bool.false_eq_true, if_false]
  rfl

/-- The module once an item's third disagreement and its failure are counted. -/
def Core.countFailure (c : Core) (key : Nat) : Core :=
  let regs := storePut c.regs (okey OD.DISAGREEMENTS 0) (count32 (c.rd OD.DISAGREEMENTS) 1)
  { c with
    regs := storePut regs (okey OD.CAL_FAILURES 0) (count32 (storeGet regs (okey OD.CAL_FAILURES 0)) 1)
    cal := { c.cal with fails := Tab.put c.cal.fails key 0 0 } }

/-- The third one fails the item: it is counted too, CAL_FLAG is set and the source of its kind reported. -/
theorem Core.disagree_third {kind n : Nat} (h : 2 ≤ Tab.get c.cal.fails (itemKey kind n) 0) :
    c.disagree kind n = ((c.countFailure (itemKey kind n)).setCalFlag kind n true).pulse (calFailSource kind n) := by
  simp only [Core.disagree, Core.lastPair_eq_true h, if_true]
  rfl

/-! ### Requests (R146, R161) -/

theorem Core.calRequest_new {v : Nat} (hzero : bits v 27 14 = 0)
    (hitem : (bits v 31 28 = 0 ∧ bits v 13 0 ≤ 9215) ∨ (bits v 31 28 = 1 ∧ bits v 13 0 ≤ 9727) ∨
      (bits v 31 28 = 2 ∧ bits v 13 0 ≤ 7))
    (hnew : (bits v 31 28, bits v 13 0) ∉ c.cal.requests) :
    c.calRequest v = c.setRequests ((bits v 31 28, bits v 13 0) :: c.cal.requests) := by
  have hlegal : ¬ (bits v 27 14 ≠ 0 ∨ 2 < bits v 31 28 ∨ (bits v 31 28 = kTe ∧ 9215 < bits v 13 0) ∨
      (bits v 31 28 = kMon ∧ 9727 < bits v 13 0) ∨ (bits v 31 28 = kSurv ∧ 7 < bits v 13 0)) := by
    simp only [kTe, kMon, kSurv]; omega
  simp only [Core.calRequest, if_neg hlegal, List.contains_iff_mem, hnew, if_false]

theorem Core.fringeCmd_starts (hpower : c.power = psMaint) (hidle : c.rd OD.FRINGE_STATE ≠ 1) : c.fringeCmd 1 = c.fringeStart := by
  simp only [Core.fringeCmd, hpower, hidle, ne_eq, not_true_eq_false, if_false]

/-! ### Trims (R150 to R153) -/

theorem itemKey_te (te : Nat) : itemKey kTe te = te := by simp only [itemKey, kTe, Nat.zero_mul, Nat.zero_add]

theorem calFailSource_te (te : Nat) : calFailSource kTe te = 235 := if_pos rfl

theorem Core.trimStart_not_eligible {te bin : Nat} (h : c.trimEligible te = false) : c.trimStart te bin = c := by
  simp only [Core.trimStart, h, Bool.false_eq_true, false_and, if_false]

theorem Core.trimStart_taken {te bin : Nat} (heligible : c.trimEligible te = true) (hnext : c.trimNext te = true)
    (hplace : c.inTrim.length < c.rd OD.TRIM_BATCH) (hodd : bin % 2 = 1) (hlow : 33 ≤ bin) (hfree : ∀ q ∈ c.inTrim, q.2.bin ≠ bin) :
    c.trimStart te bin = { c with
      loops := Tab.put c.loops te { c.loop te with st := .trim, bin := bin, trimFrames := 0 } Loop.reset
      regs := storePut c.regs (okey OD.PENDING_REQUESTS 0) (c.cal.requests.filter (· != (kTe, te))).length
      cal := { c.cal with
        requests := c.cal.requests.filter (· != (kTe, te))
        trims := Tab.erase c.cal.trims te, samples := Tab.erase c.cal.samples te } } := by
  have hunused : ¬ c.inTrim.any (fun p => p.2.bin == bin) = true := by simpa using hfree
  exact if_pos ⟨heligible, hnext, hplace, hodd, hlow, hunused⟩

theorem Core.trimRunEnd_not_due {te bin pair run : Nat}
    (h : (c.loop te).st ≠ .trim ∨ (c.loop te).trimFrames < 1024 ∨ c.trimRun te bin pair run = false) :
    c.trimRunEnd te bin pair run = c := if_pos h

/-- The module once a run's samples and its pair's first fit are taken up. -/
def Core.takeRun (c : Core) (te : Nat) : Core :=
  { c with cal := { c.cal with samples := Tab.erase c.cal.samples te, trims := Tab.erase c.cal.trims te } }

/-- An element's next run begins (R143). -/
def Core.trimAgain (c : Core) (te : Nat) : Core := c.modLoop te (fun l => { l with trimFrames := 0 })

/-- An element's trim is over (R152). -/
def Core.trimDone (c : Core) (te : Nat) : Core := c.modLoop te (fun l => { l with st := .locked, bin := 0, trimFrames := 0 })

section Due

variable {te bin pair run : Nat} (htrim : (c.loop te).st = .trim) (hframes : 1024 ≤ (c.loop te).trimFrames)
  (hrun : c.trimRun te bin pair run = true)
include htrim hframes hrun

theorem Core.trimRun_due : ¬ ((c.loop te).st ≠ .trim ∨ (c.loop te).trimFrames < 1024 ∨ c.trimRun te bin pair run = false) := by
  simp only [htrim, hrun, Nat.not_lt.2 hframes, ne_eq, not_true_eq_false, Bool.true_eq_false, or_self, not_false_eq_true]

/-- A first run with a fit keeps it, and the second follows. -/
theorem Core.trimRunEnd_first {f : Int × Int} (hfit : runFit te (c.loop te).bin (Tab.get c.cal.samples te []) = some f)
    (hfirst : Tab.find? c.cal.trims te = none) : c.trimRunEnd te bin pair run = { c with
      loops := Tab.put c.loops te { c.loop te with trimFrames := 0 } Loop.reset
      cal := { c.cal with
        samples := Tab.erase c.cal.samples te, trims := Tab.set (Tab.erase c.cal.trims te) te f } } := by
  have hend : c.trimRunEnd te bin pair run =
      { c.takeRun te with cal := { (c.takeRun te).cal with trims := Tab.set (c.takeRun te).cal.trims te f } }.trimAgain te := by
    simp only [Core.trimRunEnd, if_neg (Core.trimRun_due htrim hframes hrun), hfit, hfirst]
    rfl
  rw [hend]
  simp only [Core.trimAgain, Core.takeRun, Core.modLoop, Core.setLoop, Core.loop]

/-- A second run that agrees, with a mean that is not refused, is accepted. -/
theorem Core.trimRunEnd_accepts {a f : Int × Int} (hfit : runFit te (c.loop te).bin (Tab.get c.cal.samples te []) = some f)
    (hfirst : Tab.find? c.cal.trims te = some a) (hagrees : c.trimAgrees te a f = true)
    (hmean : c.refusesFit te (meanFit a f) = false) : c.trimRunEnd te bin pair run = { c with
      loops := Tab.put c.loops te { c.loop te with st := .locked, bin := 0, trimFrames := 0 } Loop.reset
      cal := { c.cal with
        samples := Tab.erase c.cal.samples te, trims := Tab.erase c.cal.trims te, fails := Tab.erase c.cal.fails te
        writes := c.cal.writes ++ c.refineWrites te (meanFit a f), items := c.cal.items ++ [(kTe, te)] } } := by
  have hboth : (c.takeRun te).trimAgrees te a f = true ∧ (c.takeRun te).refusesFit te (meanFit a f) = false := ⟨hagrees, hmean⟩
  have hwrites : (c.takeRun te).refineWrites te (meanFit a f) = c.refineWrites te (meanFit a f) := rfl
  have hend : c.trimRunEnd te bin pair run =
      ((c.takeRun te).accept kTe te ((c.takeRun te).refineWrites te (meanFit a f))).trimDone te := by
    simp only [Core.trimRunEnd, if_neg (Core.trimRun_due htrim hframes hrun), hfit, hfirst]
    exact if_pos hboth
  rw [hend, hwrites]
  simp only [Core.trimDone, Core.accept, itemKey_te, Core.takeRun, Core.modLoop, Core.setLoop, Core.loop]

variable (hdisagrees : runFit te (c.loop te).bin (Tab.get c.cal.samples te []) = none ∨
  ∃ a f, runFit te (c.loop te).bin (Tab.get c.cal.samples te []) = some f ∧ Tab.find? c.cal.trims te = some a ∧
    (c.trimAgrees te a f = false ∨ c.refusesFit te (meanFit a f) = true))
include hdisagrees

/-- A run without a fit disagrees, and so does a second run that does not agree or whose mean is refused. -/
theorem Core.trimRunEnd_disagrees :
    c.trimRunEnd te bin pair run = if (c.takeRun te).lastPair kTe te then ((c.takeRun te).disagree kTe te).trimDone te
      else ((c.takeRun te).disagree kTe te).trimAgain te := by
  rcases hdisagrees with hfit | ⟨a, f, hfit, hfirst, hnot⟩
  · simp only [Core.trimRunEnd, if_neg (Core.trimRun_due htrim hframes hrun), hfit]
    rfl
  · have hneither : ¬ ((c.takeRun te).trimAgrees te a f = true ∧ (c.takeRun te).refusesFit te (meanFit a f) = false) := by
      rintro ⟨hagrees, hmean⟩
      exact hnot.elim (fun h => Bool.false_ne_true (h.symm.trans hagrees)) (fun h => Bool.false_ne_true (hmean.symm.trans h))
    simp only [Core.trimRunEnd, if_neg (Core.trimRun_due htrim hframes hrun), hfit, hfirst]
    exact if_neg hneither

theorem Core.trimRunEnd_disagrees_early (hfew : Tab.get c.cal.fails te 0 < 2) : c.trimRunEnd te bin pair run = { c with
      loops := Tab.put c.loops te { c.loop te with trimFrames := 0 } Loop.reset
      regs := storePut c.regs (okey OD.DISAGREEMENTS 0) (count32 (c.rd OD.DISAGREEMENTS) 1)
      cal := { c.cal with
        samples := Tab.erase c.cal.samples te, trims := Tab.erase c.cal.trims te
        fails := Tab.put c.cal.fails te (Tab.get c.cal.fails te 0 + 1) 0 } } := by
  have hcount : Tab.get (c.takeRun te).cal.fails (itemKey kTe te) 0 < 2 := (itemKey_te te).symm ▸ hfew
  rw [Core.trimRunEnd_disagrees htrim hframes hrun hdisagrees, Core.lastPair_eq_false hcount, if_neg Bool.false_ne_true,
    Core.disagree_early hcount, itemKey_te]
  simp only [Core.trimAgain, Core.takeRun, Core.modLoop, Core.setLoop, Core.loop, Core.rd]

theorem Core.trimRunEnd_disagrees_third (hmany : 2 ≤ Tab.get c.cal.fails te 0) : c.trimRunEnd te bin pair run =
    let regs := storePut c.regs (okey OD.DISAGREEMENTS 0) (count32 (c.rd OD.DISAGREEMENTS) 1)
    { c with
      loops := Tab.put (Tab.put c.loops te { c.loop te with calFlag := true } Loop.reset) te
        { c.loop te with calFlag := true, st := .locked, bin := 0, trimFrames := 0 } Loop.reset
      regs := storePut regs (okey OD.CAL_FAILURES 0) (count32 (storeGet regs (okey OD.CAL_FAILURES 0)) 1)
      cal := { c.cal with
        samples := Tab.erase c.cal.samples te, trims := Tab.erase c.cal.trims te
        fails := Tab.put c.cal.fails te 0 0 } }.pulse 235 := by
  have hcount : 2 ≤ Tab.get (c.takeRun te).cal.fails (itemKey kTe te) 0 := (itemKey_te te).symm ▸ hmany
  rw [Core.trimRunEnd_disagrees htrim hframes hrun hdisagrees, Core.lastPair_eq_true hcount, if_pos rfl,
    Core.disagree_third hcount, itemKey_te, calFailSource_te, Core.setCalFlag_te, Core.trimDone, Core.modLoop_pulse,
    Core.modLoop_modLoop]
  simp only [Core.takeRun, Core.countFailure, Core.setLoop, Core.loop, Core.rd]

end Due

/-! ### Calibrations that are no longer current (R145) -/

theorem Core.notCurrent_current {te : Nat} (h : c.calCurrent te = true) : c.notCurrent te = c := if_pos (.inl h)

theorem Core.notCurrent_new {te : Nat} (hold : c.calCurrent te = false) (hnew : te ∉ c.cal.notCurrent) :
    c.notCurrent te = { c with cal := { c.cal with notCurrent := c.cal.notCurrent ++ [te] } }.pulse 242 [te] := by
  have hneither : ¬ (c.calCurrent te = true ∨ c.cal.notCurrent.contains te = true) := by simp [hold, hnew]
  exact if_neg hneither

/-- A command that reports one pulse of some elements, in a state in which no line waits. -/
theorem State.does_report {s : State} {f : Core → Core} {d : Core} {n : Nat} {tes : List Nat} (h : s.Live)
    (hf : f s.toCore = d.pulse n tes) (hfaults : d.faults = s.faults) :
    s.does f = .next (State.settle { s with toCore := { d with
      faults := { s.faults with raised := [⟨n, tes, [], [], true⟩] } } }) := by
  obtain ⟨hdead, ⟨⟨hraised, -⟩, -⟩, -⟩ := h
  rw [State.does_running hdead hf, Core.pulse, hfaults, hraised]
  rfl

/-- Settles O31: each command by its equation on the module, the end of a run by the three ways of `Core.trimRunEnd`. -/
theorem calibrationRequestsAndTrims : Obligations.CalibrationRequestsAndTrims := by
  refine ⟨?_, ?_⟩
  · intro s p h
    refine ⟨?_, ?_⟩
    · intro v hzero kind n hitem hnew
      exact State.does_served_eq h (Core.calRequest_new hzero hitem hnew) rfl rfl
    · intro hpower hidle maps
      exact State.does_served_eq h (Core.fringeCmd_starts (c := s.toCore.ends 0) hpower hidle) rfl rfl
  · intro s te hlive l loop
    refine ⟨?_, ?_, ?_, ?_, ?_, ?_⟩
    · intro bin heligible hnext hplace hodd hlow hfree left
      exact State.does_live_calm hlive (Core.trimStart_taken heligible hnext hplace hodd hlow hfree) rfl rfl
    · intro bin heligible
      exact State.does_unchanged hlive (Core.trimStart_not_eligible heligible)
    · intro bin pair run hnot
      exact State.does_unchanged hlive (Core.trimRunEnd_not_due hnot)
    · intro bin pair run htrim hframes hrun fit samples trims
      refine ⟨?_, ?_, ?_⟩
      · intro f hfit hfirst
        exact State.does_live_calm hlive (Core.trimRunEnd_first htrim hframes hrun hfit hfirst) rfl rfl
      · intro a f hfit hfirst hagrees hmean
        exact State.does_live_calm hlive (Core.trimRunEnd_accepts htrim hframes hrun hfit hfirst hagrees hmean) rfl rfl
      · intro hdisagrees counted
        refine ⟨?_, ?_⟩
        · intro hfew
          exact State.does_live_calm hlive (Core.trimRunEnd_disagrees_early htrim hframes hrun hdisagrees hfew) rfl rfl
        · intro hmany
          have hend := Core.trimRunEnd_disagrees_third htrim hframes hrun hdisagrees hmany
          have hreport := State.does_pulse (f := (·.trimRunEnd te bin pair run)) hlive hend rfl
          exact hreport
    · intro hold hnew
      have hrun := State.does_report (f := (·.notCurrent te)) hlive (Core.notCurrent_new hold hnew) rfl
      exact hrun
    · intro hcurrent
      exact State.does_unchanged hlive (Core.notCurrent_current hcurrent)

end Sys2Proof.Machine
end

section
/-! PROOFS. The calibration of converters: sweeps of the monitor channels, overlaps of their tenders, and the runs of the survey
tender (R142, R143, R155 to R162). -/

namespace Sys2Proof.Machine

variable {c : Core}

/-! ### Pairs of runs (R142, R143, R156) -/

/-- Whether both runs of a pair fitted a gain. -/
def pairFitted (a b : Option Nat × Int) : Bool := a.1.isSome && b.1.isSome

/-- The offset of an accepted pair, as its object holds it. -/
def pairOffset (a b : Option Nat × Int) : Nat := ofSigned 32 (idivFree (a.2 + b.2) (2 ^ 17))

/-- The calibration of an accepted pair, as writes of a gain and an offset (R142, R156). -/
def pairWrites (gain offset : Nat) (a b : Option Nat × Int) : List (Nat × Nat) :=
  match a.1, b.1 with
  | some i, some j => [(gain, divFree (i + j) 2 % 2 ^ 32), (offset, pairOffset a b)]
  | _, _ => [(offset, pairOffset a b)]

/-- The module once the gain of an accepted pair is noted: NO_GAIN says whether a run fitted no gain, which GAIN_SKIPPED counts. -/
def Core.noteGain (c : Core) (kind n : Nat) (fitted : Bool) : Core :=
  let d := c.calFlags kind n 2 (!fitted)
  if fitted then d else d.inc OD.GAIN_SKIPPED

/-- An accepted pair ends the converter's calibration. -/
theorem Core.converterPair_agrees {kind n : Nat} {a b : Option Nat × Int} (ended : Core → Core) (h : pairAgrees a b = true) :
    c.converterPair kind n a b ended = ended ((c.accept kind n (pairWrites
      (okey (if kind = kMon then OD.MON_GAIN else OD.SURV_GAIN) n) (okey (if kind = kMon then OD.MON_OFFSET else OD.SURV_OFFSET) n)
      a b)).noteGain kind n (pairFitted a b)) := by
  obtain ⟨ga, oa⟩ := a
  obtain ⟨gb, ob⟩ := b
  cases ga with
  | none => simp only [Core.converterPair, h, if_true]; rfl
  | some i =>
    cases gb with
    | none => simp only [Core.converterPair, h, if_true]; rfl
    | some j => simp only [Core.converterPair, h, if_true]; rfl

theorem Core.converterPair_disagrees_early {kind n : Nat} {a b : Option Nat × Int} (ended : Core → Core)
    (h : pairAgrees a b = false) (hfew : Tab.get c.cal.fails (itemKey kind n) 0 < 2) :
    c.converterPair kind n a b ended = c.disagree kind n := by
  simp only [Core.converterPair, h, Core.lastPair_eq_false hfew, Bool.false_eq_true, if_false]

theorem Core.converterPair_disagrees_third {kind n : Nat} {a b : Option Nat × Int} (ended : Core → Core)
    (h : pairAgrees a b = false) (hmany : 2 ≤ Tab.get c.cal.fails (itemKey kind n) 0) :
    c.converterPair kind n a b ended = ended (c.disagree kind n) := by
  simp only [Core.converterPair, h, Core.lastPair_eq_true hmany, Bool.false_eq_true, if_false, if_true]

/-- A pair's third disagreement fails a converter: its CAL_FLAG is set, and the source of its kind reported. -/
theorem Core.disagree_third_flags {kind n : Nat} (hkind : kind ≠ kTe) (h : 2 ≤ Tab.get c.cal.fails (itemKey kind n) 0) :
    c.disagree kind n = ((c.countFailure (itemKey kind n)).calFlags kind n 0 true).pulse (calFailSource kind n) := by
  rw [Core.disagree_third h, Core.setCalFlag, if_neg hkind]

/-! ### The registers at the end of a pair -/

/-- The object that holds a converter's calibration flags (R163). -/
def flagsObj (kind : Nat) : Nat := if kind = kMon then OD.MON_CAL_FLAGS else OD.SURV_CAL_FLAGS

theorem Core.rd_calFlags_self (kind n b : Nat) (on : Bool) :
    (c.calFlags kind n b on).rd (flagsObj kind) n = setBits (c.rd (flagsObj kind) n) b b (bn on) := Core.rd_wr_self ..

theorem Core.rd_calFlags_ne {kind n o e : Nat} (b : Nat) (on : Bool) (h : okey o e ≠ okey (flagsObj kind) n) :
    (c.calFlags kind n b on).rd o e = c.rd o e := Core.rd_wr_ne _ _ h

theorem flagsObj_ne {kind o : Nat} (h : o ≠ OD.MON_CAL_FLAGS ∧ o ≠ OD.SURV_CAL_FLAGS) : flagsObj kind ≠ o :=
  ite_of (q := fun p : Nat => p ≠ o) _ _ _ h.1.symm h.2.symm

section

variable {kind n : Nat} (hn : n < 1048576)
include hn

theorem Core.rd_noteGain_flags (fitted : Bool) : (c.noteGain kind n fitted).rd (flagsObj kind) n =
    setBits (c.rd (flagsObj kind) n) 2 2 (bn !fitted) := by
  have hkey : okey (flagsObj kind) n ≠ okey OD.GAIN_SKIPPED 0 := okey_ne_okey (flagsObj_ne (by decide)) hn (by decide)
  cases fitted
  · exact (Core.rd_wr_ne _ _ hkey).trans (Core.rd_calFlags_self ..)
  · exact Core.rd_calFlags_self ..

theorem Core.rd_noteGain_skipped (fitted : Bool) : (c.noteGain kind n fitted).rd OD.GAIN_SKIPPED =
    if fitted then c.rd OD.GAIN_SKIPPED else count32 (c.rd OD.GAIN_SKIPPED) 1 := by
  have hkey : okey OD.GAIN_SKIPPED 0 ≠ okey (flagsObj kind) n := (okey_ne_okey (flagsObj_ne (by decide)) hn (by decide)).symm
  have hkept : (c.calFlags kind n 2 (!fitted)).rd OD.GAIN_SKIPPED = c.rd OD.GAIN_SKIPPED := Core.rd_calFlags_ne _ _ hkey
  cases fitted
  · exact (Core.rd_wr_self ..).trans (congrArg (count32 · 1) hkept)
  · exact hkept

/-- The counts of a failure leave a converter's flags. -/
theorem Core.rd_countFailure_flags (key : Nat) : (c.countFailure key).rd (flagsObj kind) n = c.rd (flagsObj kind) n :=
  (storeGet_storePut_ne _ _ (okey_ne_okey (flagsObj_ne (by decide)) hn (by decide))).trans
    (storeGet_storePut_ne _ _ (okey_ne_okey (flagsObj_ne (by decide)) hn (by decide)))

end

theorem Core.rd_noteGain_ne {kind n o e : Nat} (fitted : Bool) (hflags : okey o e ≠ okey (flagsObj kind) n)
    (hskipped : okey o e ≠ okey OD.GAIN_SKIPPED 0) : (c.noteGain kind n fitted).rd o e = c.rd o e := by
  have hkept : (c.calFlags kind n 2 (!fitted)).rd o e = c.rd o e := Core.rd_calFlags_ne _ _ hflags
  cases fitted
  · exact (Core.rd_wr_ne _ _ hskipped).trans hkept
  · exact hkept

theorem Core.rd_countFailure_failures (key : Nat) :
    (c.countFailure key).rd OD.CAL_FAILURES = count32 (c.rd OD.CAL_FAILURES) 1 :=
  (storeGet_storePut_self ..).trans (congrArg (count32 · 1) (storeGet_storePut_ne _ _ (by decide)))

/-! ### Sweeps and overlaps of the monitor channels (R155 to R158, R161, R162) -/

theorem Core.sweepStart_due (hback : c.calBackground = true)
    (hdue : ∀ t, c.cal.sweepAt = some t → t + nsU (c.rd OD.MON_SWEEP_INTERVAL) ≤ c.up) : c.sweepStart = { c with
      cal := { c.cal with sweep := (List.range 152).map (fun g => (g, 0)), sweepAt := some c.up } } := by
  simp only [Core.sweepStart, hback, Bool.true_and]
  cases hat : c.cal.sweepAt with
  | none => rfl
  | some t => exact if_pos (decide_eq_true (hdue t hat))

theorem Core.sweepStart_off (hback : c.calBackground = false) : c.sweepStart = c := by
  simp only [Core.sweepStart, hback, Bool.false_and, Bool.false_eq_true, if_false]

theorem Core.overlapStart_other {g k : Nat} (h : c.nextChannel g ≠ some (64 * g + k)) : c.overlapStart g k = c := by
  simp only [Core.overlapStart]
  cases hnext : c.nextChannel g with
  | none => rfl
  | some ch => exact if_pos (.inl fun hch => h (hch ▸ hnext))

theorem Core.overlapStart_next {g k : Nat} (hnext : c.nextChannel g = some (64 * g + k)) (hfree : Tab.find? c.cal.overlaps g = none)
    (hruns : c.monRuns = true) (hpower : c.power ≠ psDormant) (hshut : c.pwr.shut = false)
    (htrims : ∀ q ∈ c.inTrim, 64 * g + k ∉ c.teChannels q.1) : c.overlapStart g k =
      ((c.calFlags kMon (64 * g + k) 1 true).served kMon (64 * g + k)).setOverlap g
        ⟨64 * g + k, c.frames + 2, [], none, [], [], [], none⟩ := by
  have hready : ¬ (64 * g + k ≠ 64 * g + k ∨ (Tab.find? c.cal.overlaps g).isSome = true ∨ c.monRuns = false ∨
      c.power = psDormant ∨ c.pwr.shut = true ∨ c.inTrim.any (fun p => (c.teChannels p.1).contains (64 * g + k)) = true) := by
    simpa [hfree, hruns, hpower, hshut] using fun a l hl => htrims (a, l) hl
  simp only [Core.overlapStart, hnext]
  exact if_neg hready

theorem Core.overlapRunEnd_none {g : Nat} (run : Nat) (h : Tab.find? c.cal.overlaps g = none) : c.overlapRunEnd g run = c := by
  simp only [Core.overlapRunEnd, h]

/-- A tender's next run begins, with what the first run of its pair gave. -/
def Core.overlapNext (c : Core) (g : Nat) (x : Overlap) (first : Option (Option Nat × Int)) : Core :=
  c.setOverlap g (x.nextRun c.frames first)

section Overlap

variable {g run : Nat} {x : Overlap} (hx : Tab.find? c.cal.overlaps g = some x)
include hx

theorem Core.overlapRunEnd_not_due
    (h : run ≠ bn x.first.isSome ∨ x.base = none ∨ ∃ b, x.base = some b ∧ c.frames < b + 256) : c.overlapRunEnd g run = c := by
  have hnot : x.base.any (fun b => decide (b + 256 ≤ c.frames)) = false ∨ bn x.first.isSome ≠ run := by
    rcases h with h | h | ⟨b, hb, hlate⟩
    · exact .inr h.symm
    · exact .inl (by rw [h]; rfl)
    · exact .inl (by rw [hb]; exact decide_eq_false (Nat.not_le.2 hlate))
  simp only [Core.overlapRunEnd, hx]
  exact if_pos hnot

variable {b : Nat} (hrun : run = bn x.first.isSome) (hb : x.base = some b) (hover : b + 256 ≤ c.frames)
include hrun hb hover

/-- A run that is over is repeated where too many of its blocks are discarded, else it is fitted. -/
theorem Core.overlapRunEnd_due : c.overlapRunEnd g run =
    if 4 < (List.range 16).countP x.discards then c.overlapNext g x x.first
    else match x.first with
      | none => c.overlapNext g x (some (c.overlapFit g x))
      | some a => (c.overlapNext g x none).converterPair kMon x.ch a (c.overlapFit g x)
          (fun c => c.overlapEnds g x.ch) := by
  have hdue : ¬ (x.base.any (fun b => decide (b + 256 ≤ c.frames)) = false ∨ bn x.first.isSome ≠ run) := by
    simp [hb, hover, hrun]
  simp only [Core.overlapRunEnd, hx, if_neg hdue]
  rfl

theorem Core.overlapRunEnd_repeats (hmany : 4 < (List.range 16).countP x.discards) :
    c.overlapRunEnd g run = c.overlapNext g x x.first := by
  rw [Core.overlapRunEnd_due hx hrun hb hover, if_pos hmany]

theorem Core.overlapRunEnd_first (hfew : (List.range 16).countP x.discards ≤ 4) (hfirst : x.first = none) :
    c.overlapRunEnd g run = c.overlapNext g x (some (c.overlapFit g x)) := by
  rw [Core.overlapRunEnd_due hx hrun hb hover, if_neg (Nat.not_lt.2 hfew), hfirst]

theorem Core.overlapRunEnd_second {a : Option Nat × Int} (hfew : (List.range 16).countP x.discards ≤ 4)
    (hfirst : x.first = some a) : c.overlapRunEnd g run =
      (c.overlapNext g x none).converterPair kMon x.ch a (c.overlapFit g x) (fun c => c.overlapEnds g x.ch) := by
  rw [Core.overlapRunEnd_due hx hrun hb hover, if_neg (Nat.not_lt.2 hfew), hfirst]

end Overlap

/-! ### The survey tender (R159 to R162) -/

section SurveyStart

variable {v : Nat} (hpower : c.power ≠ psHalted) (hshut : c.pwr.shut = false) (hidle : c.cal.survey = none)
  (hnext : c.survNext = some v)
include hpower hshut hidle hnext

theorem Core.survStart_ready : ¬ (c.power = psHalted ∨ c.pwr.shut = true ∨ c.cal.survey.isSome = true ∨ c.survNext ≠ some v) := by
  simp [hpower, hshut, hidle, hnext]

theorem Core.survStart_takes (hfree : Tab.find? c.survey.conv v = none) : c.survStart v =
    let d := ((c.set OD.TENDER_FOR v).calFlags kSurv v 1 true).served kSurv v
    { d with cal := { d.cal with
        survey := some ⟨v, [], 0, [], [], [], none⟩, surveyAt := Tab.set d.cal.surveyAt v d.up
        surveyLast := v, deferred := d.cal.deferred.filter (· != v) } } := by
  simp only [Core.survStart, if_neg (Core.survStart_ready hpower hshut hidle hnext), hfree]

theorem Core.survStart_defers {x : Conv} (hconv : Tab.find? c.survey.conv v = some x) (hinject : x.kind = .inject)
    (hnew : v ∉ c.cal.deferred) : c.survStart v =
      { c.inc OD.INJECT_DEFERRALS with cal := { c.cal with deferred := c.cal.deferred ++ [v] } } := by
  have hfirst : x.kind = .inject ∧ c.cal.deferred.contains v = false := ⟨hinject, by simpa using hnew⟩
  simp only [Core.survStart, if_neg (Core.survStart_ready hpower hshut hidle hnext), hconv]
  exact if_pos hfirst

end SurveyStart

theorem Core.survRunEnd_not_due {v run : Nat}
    (h : ∀ y, c.cal.survey = some y → y.conv ≠ v ∨ y.next ≠ 3 ∨ run ≠ bn y.first.isSome) : c.survRunEnd v run = c := by
  simp only [Core.survRunEnd]
  cases hy : c.cal.survey with
  | none => rfl
  | some y => exact if_pos ((h y hy).imp_right (Or.imp_right Ne.symm))

/-- The next run of a survey converter's calibration, with what the first run of its pair gave. -/
def SurvCal.nextRun (y : SurvCal) (first : Option (Option Nat × Int)) : SurvCal :=
  { y with begun := 0, xs := [], ts := [], zs := [], first := first }

/-- The survey converter's next run begins. -/
def Core.survFresh (c : Core) (y : SurvCal) (first : Option (Option Nat × Int)) : Core :=
  { c with cal := { c.cal with survey := some (y.nextRun first) } }

section SurveyEnd

variable {y : SurvCal} {v run : Nat} (hy : c.cal.survey = some y) (hconv : y.conv = v) (hdone : y.next = 3)
  (hrun : run = bn y.first.isSome)
include hy hconv hdone hrun

omit hy in
theorem Core.survRunEnd_ready : ¬ (y.conv ≠ v ∨ y.next ≠ 3 ∨ bn y.first.isSome ≠ run) := by
  simp [hconv, hdone, hrun]

theorem Core.survRunEnd_first (hfirst : y.first = none) : c.survRunEnd v run = c.survFresh y (some (c.survFit y)) := by
  simp only [Core.survRunEnd, hy, if_neg (Core.survRunEnd_ready hconv hdone hrun)]
  rw [hfirst]
  rfl

theorem Core.survRunEnd_second {a : Option Nat × Int} (hfirst : y.first = some a) :
    c.survRunEnd v run = (c.survFresh y none).converterPair kSurv v a (c.survFit y) Core.dropSurvey := by
  simp only [Core.survRunEnd, hy, if_neg (Core.survRunEnd_ready hconv hdone hrun)]
  rw [hfirst]
  rfl

end SurveyEnd

/-- The survey tender is free again: TENDER_FOR reads FFh and the converter's IN_CAL is clear (R130, R159). -/
theorem Core.dropSurvey_running {y : SurvCal} (hy : c.cal.survey = some y) : c.dropSurvey =
    { (c.set OD.TENDER_FOR 0xFF).calFlags kSurv y.conv 1 false with
      cal := { c.cal with survey := none }
      survey := { c.survey with conv := c.survey.conv.filter (fun p => decide (p.2.kind ≠ .cal)) } } := by
  simp only [Core.dropSurvey, hy]
  rfl

/-! ### The second run of a pair -/

theorem itemKey_mon (ch : Nat) : itemKey kMon ch = 16384 + ch := by simp only [itemKey, kMon, Nat.one_mul]

/-- The module once a converter's failure is counted and flagged (R143). -/
def Core.noteFailure (c : Core) (kind n : Nat) : Core := (c.countFailure (itemKey kind n)).calFlags kind n 0 true

theorem Core.noteFailure_eq (kind n : Nat) : c.noteFailure kind n = { c with
    regs := (c.noteFailure kind n).regs
    cal := { c.cal with fails := Tab.put c.cal.fails (itemKey kind n) 0 0 } } := rfl

theorem Core.rd_noteFailure_flags {kind n : Nat} (hn : n < 1048576) :
    (c.noteFailure kind n).rd (flagsObj kind) n = setBits (c.rd (flagsObj kind) n) 0 0 1 :=
  (Core.rd_calFlags_self ..).trans (congrArg (setBits · 0 0 1) (Core.rd_countFailure_flags hn _))

theorem Core.rd_noteFailure_failures {kind n : Nat} (hn : n < 1048576) :
    (c.noteFailure kind n).rd OD.CAL_FAILURES = count32 (c.rd OD.CAL_FAILURES) 1 :=
  (Core.rd_calFlags_ne _ _ (okey_ne_okey (flagsObj_ne (by decide)) hn (by decide)).symm).trans (Core.rd_countFailure_failures _)

theorem Core.noteGain_accept (kind n : Nat) (writes : List (Nat × Nat)) (fitted : Bool) :
    (c.accept kind n writes).noteGain kind n fitted = { c.accept kind n writes with regs := (c.noteGain kind n fitted).regs } := by
  simp only [Core.noteGain]; split <;> rfl

/-- The pair of an overlap is accepted, and the overlap ends. -/
theorem Core.overlapEnds_accepted (g ch : Nat) (writes : List (Nat × Nat)) (fitted : Bool) :
    ((c.accept kMon ch writes).noteGain kMon ch fitted).overlapEnds g ch = { c with
      regs := ((c.noteGain kMon ch fitted).calFlags kMon ch 1 false).regs
      cal := { c.cal with
        fails := Tab.erase c.cal.fails (16384 + ch), writes := c.cal.writes ++ writes, items := c.cal.items ++ [(kMon, ch)]
        overlaps := Tab.erase c.cal.overlaps g, sweep := (c.overlapEnds g ch).cal.sweep } } := by
  rw [Core.noteGain_accept, ← itemKey_mon]
  generalize c.noteGain kMon ch fitted = d
  rfl

/-- The third pair of an overlap disagrees, and the overlap ends. -/
theorem Core.overlapEnds_failed (g ch : Nat) : ((c.noteFailure kMon ch).pulse (236 + chanDie ch)).overlapEnds g ch = ({ c with
      regs := ((c.noteFailure kMon ch).calFlags kMon ch 1 false).regs
      cal := { c.cal with
        fails := Tab.put c.cal.fails (16384 + ch) 0 0
        overlaps := Tab.erase c.cal.overlaps g, sweep := (c.overlapEnds g ch).cal.sweep } } : Core).pulse (236 + chanDie ch) := by
  have hframe := c.noteFailure_eq kMon ch
  rw [← itemKey_mon]
  generalize c.noteFailure kMon ch = d at hframe ⊢
  generalize d.regs = regs at hframe
  subst hframe
  rfl

theorem Core.dropSurvey_accepted {y : SurvCal} {v : Nat} (hy : c.cal.survey = some y) (hconv : y.conv = v)
    (writes : List (Nat × Nat)) (fitted : Bool) : ((c.accept kSurv v writes).noteGain kSurv v fitted).dropSurvey = { c with
      regs := (((c.noteGain kSurv v fitted).set OD.TENDER_FOR 0xFF).calFlags kSurv v 1 false).regs
      cal := { c.cal with
        fails := Tab.erase c.cal.fails (itemKey kSurv v), writes := c.cal.writes ++ writes, items := c.cal.items ++ [(kSurv, v)]
        survey := none }
      survey := { c.survey with conv := c.survey.conv.filter (fun p => decide (p.2.kind ≠ .cal)) } } := by
  have hrun : ({ c.accept kSurv v writes with regs := (c.noteGain kSurv v fitted).regs } : Core).cal.survey = some y := hy
  rw [Core.noteGain_accept, Core.dropSurvey_running hrun, hconv]
  generalize c.noteGain kSurv v fitted = d
  rfl

theorem Core.dropSurvey_failed {y : SurvCal} {v : Nat} (hy : c.cal.survey = some y) (hconv : y.conv = v) :
    ((c.noteFailure kSurv v).pulse 240).dropSurvey = ({ c with
      regs := (((c.noteFailure kSurv v).set OD.TENDER_FOR 0xFF).calFlags kSurv v 1 false).regs
      cal := { c.cal with fails := Tab.put c.cal.fails (itemKey kSurv v) 0 0, survey := none }
      survey := { c.survey with conv := c.survey.conv.filter (fun p => decide (p.2.kind ≠ .cal)) } } : Core).pulse 240 := by
  have hframe := c.noteFailure_eq kSurv v
  have hrun : ((c.noteFailure kSurv v).pulse 240).cal.survey = some y := by rw [hframe]; exact hy
  rw [Core.dropSurvey_running hrun, hconv]
  generalize c.noteFailure kSurv v = d at hframe ⊢
  generalize d.regs = regs at hframe
  subst hframe
  rfl

/-- What the registers of an accepted pair are to those before it (R156). -/
def AcceptedRegs (before after : Tab Nat) (flags : Nat) (fitted : Bool) : Prop :=
  storeGet after flags = setBits (setBits (storeGet before flags) 2 2 (bn (!fitted))) 1 1 0 ∧
  storeGet after (okey OD.GAIN_SKIPPED 0) = if fitted then storeGet before (okey OD.GAIN_SKIPPED 0)
    else count32 (storeGet before (okey OD.GAIN_SKIPPED 0)) 1

/-- What the registers of a converter that fails are to those before its third disagreement (R143). -/
def FailedRegs (before after : Tab Nat) (flags : Nat) : Prop :=
  storeGet after flags = setBits (setBits (storeGet before flags) 0 0 1) 1 1 0 ∧
  storeGet after (okey OD.CAL_FAILURES 0) = count32 (storeGet before (okey OD.CAL_FAILURES 0)) 1

section OverlapPair

variable {g run b : Nat} {x : Overlap} {a : Option Nat × Int} (hx : Tab.find? c.cal.overlaps g = some x)
  (hrun : run = bn x.first.isSome) (hb : x.base = some b) (hover : b + 256 ≤ c.frames)
  (hfew : (List.range 16).countP x.discards ≤ 4) (hfirst : x.first = some a)
include hx hrun hb hover hfew hfirst

theorem Core.overlapRunEnd_agrees (hch : x.ch < 1048576) (hagrees : pairAgrees a (c.overlapFit g x) = true) :
    ∃ (regs : Tab Nat) (sweep : Tab Nat), c.overlapRunEnd g run = { c with
      regs := regs
      cal := { (c.overlapNext g x none).cal with
        fails := Tab.erase c.cal.fails (16384 + x.ch)
        writes := c.cal.writes ++ pairWrites (okey OD.MON_GAIN x.ch) (okey OD.MON_OFFSET x.ch) a (c.overlapFit g x)
        items := c.cal.items ++ [(kMon, x.ch)]
        overlaps := Tab.erase (c.overlapNext g x none).cal.overlaps g, sweep := sweep } } ∧
      AcceptedRegs c.regs regs (okey OD.MON_CAL_FLAGS x.ch) (pairFitted a (c.overlapFit g x)) ∧
      ∀ k, k ≠ okey OD.MON_CAL_FLAGS x.ch → k ≠ okey OD.GAIN_SKIPPED 0 → storeGet regs k = storeGet c.regs k := by
  refine ⟨_, _, (Core.overlapRunEnd_second hx hrun hb hover hfew hfirst).trans <|
    (Core.converterPair_agrees _ hagrees).trans (Core.overlapEnds_accepted ..), ⟨?_, ?_⟩, ?_⟩
  · exact (Core.rd_calFlags_self kMon x.ch 1 false).trans (congrArg (setBits · 1 1 0) (Core.rd_noteGain_flags hch _))
  · exact (Core.rd_calFlags_ne 1 false (okey_ne_okey (flagsObj_ne (by decide)) hch (by decide)).symm).trans
      (Core.rd_noteGain_skipped hch _)
  · intro k hflags hskipped
    rw [← okey_okeyObj_okeyElem k] at hflags hskipped ⊢
    exact (Core.rd_calFlags_ne (kind := kMon) 1 false hflags).trans (Core.rd_noteGain_ne (kind := kMon) _ hflags hskipped)

theorem Core.overlapRunEnd_disagrees_early (hdiffers : pairAgrees a (c.overlapFit g x) = false)
    (hcount : Tab.get c.cal.fails (16384 + x.ch) 0 < 2) : c.overlapRunEnd g run = { c with
      regs := storePut c.regs (okey OD.DISAGREEMENTS 0) (count32 (c.rd OD.DISAGREEMENTS) 1)
      cal := { (c.overlapNext g x none).cal with
        fails := Tab.put c.cal.fails (16384 + x.ch) (Tab.get c.cal.fails (16384 + x.ch) 0 + 1) 0 } } := by
  rw [← itemKey_mon] at hcount ⊢
  have hearly : Tab.get (c.overlapNext g x none).cal.fails (itemKey kMon x.ch) 0 < 2 := hcount
  rw [Core.overlapRunEnd_second hx hrun hb hover hfew hfirst, Core.converterPair_disagrees_early _ hdiffers hearly,
    Core.disagree_early hearly]
  rfl

theorem Core.overlapRunEnd_disagrees_third (hch : x.ch < 1048576) (hdiffers : pairAgrees a (c.overlapFit g x) = false)
    (hcount : 2 ≤ Tab.get c.cal.fails (16384 + x.ch) 0) :
    ∃ (regs : Tab Nat) (sweep : Tab Nat), c.overlapRunEnd g run = ({ c with
      regs := regs
      cal := { (c.overlapNext g x none).cal with
        fails := Tab.put c.cal.fails (16384 + x.ch) 0 0
        overlaps := Tab.erase (c.overlapNext g x none).cal.overlaps g, sweep := sweep } } : Core).pulse (236 + chanDie x.ch) ∧
      FailedRegs c.regs regs (okey OD.MON_CAL_FLAGS x.ch) := by
  rw [← itemKey_mon] at hcount
  have hthird : 2 ≤ Tab.get (c.overlapNext g x none).cal.fails (itemKey kMon x.ch) 0 := hcount
  rw [Core.overlapRunEnd_second hx hrun hb hover hfew hfirst, Core.converterPair_disagrees_third _ hdiffers hthird,
    Core.disagree_third_flags (by decide) hthird]
  refine ⟨_, _, Core.overlapEnds_failed .., ⟨?_, ?_⟩⟩
  · exact (Core.rd_calFlags_self kMon x.ch 1 false).trans (congrArg (setBits · 1 1 0) (Core.rd_noteFailure_flags hch))
  · exact (Core.rd_calFlags_ne 1 false (okey_ne_okey (flagsObj_ne (by decide)) hch (by decide)).symm).trans
      (Core.rd_noteFailure_failures hch)

end OverlapPair

section SurveyPair

variable {y : SurvCal} {v run : Nat} {a : Option Nat × Int} (hy : c.cal.survey = some y) (hconv : y.conv = v)
  (hdone : y.next = 3) (hrun : run = bn y.first.isSome) (hfirst : y.first = some a)
include hy hconv hdone hrun hfirst

theorem Core.survRunEnd_agrees (hv : v < 1048576) (hagrees : pairAgrees a (c.survFit y) = true) :
    ∃ regs : Tab Nat, c.survRunEnd v run = { c with
      regs := regs
      cal := { c.cal with
        fails := Tab.erase c.cal.fails (itemKey kSurv v)
        writes := c.cal.writes ++ pairWrites (okey OD.SURV_GAIN v) (okey OD.SURV_OFFSET v) a (c.survFit y)
        items := c.cal.items ++ [(kSurv, v)], survey := none }
      survey := { c.survey with conv := c.survey.conv.filter (fun p => decide (p.2.kind ≠ .cal)) } } ∧
      storeGet regs (okey OD.TENDER_FOR 0) = 0xFF ∧
      AcceptedRegs c.regs regs (okey OD.SURV_CAL_FLAGS v) (pairFitted a (c.survFit y)) ∧
      ∀ k, k ≠ okey OD.SURV_CAL_FLAGS v → k ≠ okey OD.TENDER_FOR 0 → k ≠ okey OD.GAIN_SKIPPED 0 →
        storeGet regs k = storeGet c.regs k := by
  have hflags {o : Nat} (h : OD.SURV_CAL_FLAGS ≠ o) : okey OD.SURV_CAL_FLAGS v ≠ okey o 0 := okey_ne_okey h hv (by decide)
  refine ⟨_, (Core.survRunEnd_second hy hconv hdone hrun hfirst).trans <| (Core.converterPair_agrees _ hagrees).trans
    (Core.dropSurvey_accepted (y := y.nextRun none) rfl hconv ..), ?_, ⟨?_, ?_⟩, ?_⟩
  · exact (Core.rd_calFlags_ne (kind := kSurv) 1 false (hflags (by decide)).symm).trans (Core.rd_wr_self ..)
  · exact (Core.rd_calFlags_self kSurv v 1 false).trans (congrArg (setBits · 1 1 0)
      ((Core.rd_wr_ne _ _ (hflags (by decide))).trans (Core.rd_noteGain_flags (kind := kSurv) hv _)))
  · exact (Core.rd_calFlags_ne (kind := kSurv) 1 false (hflags (by decide)).symm).trans
      ((Core.rd_wr_ne _ _ (by decide)).trans (Core.rd_noteGain_skipped (kind := kSurv) hv _))
  · intro k hk htender hskipped
    rw [← okey_okeyObj_okeyElem k] at hk htender hskipped ⊢
    exact (Core.rd_calFlags_ne (kind := kSurv) 1 false hk).trans
      ((Core.rd_wr_ne _ _ htender).trans (Core.rd_noteGain_ne (kind := kSurv) _ hk hskipped))

theorem Core.survRunEnd_disagrees_early (hdiffers : pairAgrees a (c.survFit y) = false)
    (hcount : Tab.get c.cal.fails (itemKey kSurv v) 0 < 2) : c.survRunEnd v run = { c with
      regs := storePut c.regs (okey OD.DISAGREEMENTS 0) (count32 (c.rd OD.DISAGREEMENTS) 1)
      cal := { c.cal with
        survey := some (y.nextRun none)
        fails := Tab.put c.cal.fails (itemKey kSurv v) (Tab.get c.cal.fails (itemKey kSurv v) 0 + 1) 0 } } := by
  have hearly : Tab.get (c.survFresh y none).cal.fails (itemKey kSurv v) 0 < 2 := hcount
  rw [Core.survRunEnd_second hy hconv hdone hrun hfirst, Core.converterPair_disagrees_early _ hdiffers hearly,
    Core.disagree_early hearly]
  rfl

theorem Core.survRunEnd_disagrees_third (hv : v < 1048576) (hdiffers : pairAgrees a (c.survFit y) = false)
    (hcount : 2 ≤ Tab.get c.cal.fails (itemKey kSurv v) 0) :
    ∃ regs : Tab Nat, c.survRunEnd v run = ({ c with
      regs := regs
      cal := { c.cal with fails := Tab.put c.cal.fails (itemKey kSurv v) 0 0, survey := none }
      survey := { c.survey with conv := c.survey.conv.filter (fun p => decide (p.2.kind ≠ .cal)) } } : Core).pulse 240 ∧
      storeGet regs (okey OD.TENDER_FOR 0) = 0xFF ∧ FailedRegs c.regs regs (okey OD.SURV_CAL_FLAGS v) := by
  have hflags {o : Nat} (h : OD.SURV_CAL_FLAGS ≠ o) : okey OD.SURV_CAL_FLAGS v ≠ okey o 0 := okey_ne_okey h hv (by decide)
  have hthird : 2 ≤ Tab.get (c.survFresh y none).cal.fails (itemKey kSurv v) 0 := hcount
  rw [Core.survRunEnd_second hy hconv hdone hrun hfirst, Core.converterPair_disagrees_third _ hdiffers hthird,
    Core.disagree_third_flags (by decide) hthird]
  refine ⟨_, Core.dropSurvey_failed (y := y.nextRun none) rfl hconv, ?_, ⟨?_, ?_⟩⟩
  · exact (Core.rd_calFlags_ne (kind := kSurv) 1 false (hflags (by decide)).symm).trans (Core.rd_wr_self ..)
  · exact (Core.rd_calFlags_self kSurv v 1 false).trans (congrArg (setBits · 1 1 0)
      ((Core.rd_wr_ne _ _ (hflags (by decide))).trans (Core.rd_noteFailure_flags (kind := kSurv) hv)))
  · exact (Core.rd_calFlags_ne (kind := kSurv) 1 false (hflags (by decide)).symm).trans
      ((Core.rd_wr_ne _ _ (by decide)).trans (Core.rd_noteFailure_failures (kind := kSurv) hv))

end SurveyPair

/-- Settles O32: each command by its equation on the module, the second run of a pair by the three ways of `Core.converterPair`. -/
theorem converterCalibrationRuns : Obligations.ConverterCalibrationRuns := by
  intro s hlive flag fitted offset
  refine ⟨?_, ?_, ?_, ?_, ?_, ?_, ?_, ?_⟩
  · intro hback hdue
    exact State.does_live_calm hlive (Core.sweepStart_due hback hdue) rfl rfl
  · intro hback
    exact State.does_unchanged hlive (Core.sweepStart_off hback)
  · intro g k ch hnext hfree hruns hpower hshut htrims left
    exact State.does_live_calm hlive (Core.overlapStart_next hnext hfree hruns hpower hshut htrims) rfl rfl
  · intro g k hother
    exact State.does_unchanged hlive (Core.overlapStart_other hother)
  · intro g n hnone
    exact State.does_unchanged hlive (Core.overlapRunEnd_none _ hnone)
  · intro g n x hx
    refine ⟨fun hnot => State.does_unchanged hlive (Core.overlapRunEnd_not_due hx hnot), ?_⟩
    intro b hrun hb hover kept r
    refine ⟨?_, ?_, ?_⟩
    · intro hmany
      exact State.does_live_calm hlive (Core.overlapRunEnd_repeats hx hrun hb hover hmany) rfl rfl
    · intro hfew hfirst
      exact State.does_live_calm hlive (Core.overlapRunEnd_first hx hrun hb hover hfew hfirst) rfl rfl
    · intro a hfew hfirst hch
      have hsmall : x.ch < 1048576 := Nat.lt_trans hch (by decide)
      refine ⟨?_, ?_, ?_⟩
      · intro hagrees
        obtain ⟨regs, sweep, hend, ⟨hflags, hskipped⟩, hframe⟩ :=
          Core.overlapRunEnd_agrees hx hrun hb hover hfew hfirst hsmall hagrees
        exact ⟨_, State.does_live_calm hlive hend rfl rfl, rfl, rfl, rfl, rfl, rfl, rfl, hflags, hskipped,
          fun o e => hframe (okey o e)⟩
      · intro hdiffers hcount
        exact State.does_live_calm hlive (Core.overlapRunEnd_disagrees_early hx hrun hb hover hfew hfirst hdiffers hcount) rfl rfl
      · intro hdiffers hcount
        obtain ⟨regs, sweep, hend, hflags, hfailures⟩ :=
          Core.overlapRunEnd_disagrees_third hx hrun hb hover hfew hfirst hsmall hdiffers hcount
        have hreport := State.does_pulse (f := (·.overlapRunEnd g n)) hlive hend rfl
        exact ⟨_, hreport, rfl, rfl, rfl, rfl, rfl, hflags, hfailures, rfl⟩
  · intro v hpower hshut hidle hnext
    refine ⟨?_, ?_⟩
    · intro hfree left regs
      exact State.does_live_calm hlive (Core.survStart_takes hpower hshut hidle hnext hfree) rfl rfl
    · intro x hconv hinject hnew
      exact State.does_live_calm hlive (Core.survStart_defers hpower hshut hidle hnext hconv hinject hnew) rfl rfl
  · intro v n
    refine ⟨fun hnot => State.does_unchanged hlive (Core.survRunEnd_not_due hnot), ?_⟩
    intro y hy hconv hdone hrun r
    have hsmall : v.val < 1048576 := Nat.lt_trans v.isLt (by decide)
    refine ⟨?_, ?_, ?_⟩
    · intro hfirst
      exact State.does_live_calm hlive (Core.survRunEnd_first hy hconv hdone hrun hfirst) rfl rfl
    · intro a hfirst hagrees
      obtain ⟨regs, hend, htender, ⟨hflags, hskipped⟩, hframe⟩ :=
        Core.survRunEnd_agrees hy hconv hdone hrun hfirst hsmall hagrees
      exact ⟨_, State.does_live_calm hlive hend rfl rfl, rfl, rfl, rfl, rfl, htender, rfl, hflags, hskipped,
        fun o e => hframe (okey o e)⟩
    · intro a hfirst hdiffers item
      refine ⟨?_, ?_⟩
      · intro hcount
        exact State.does_live_calm hlive (Core.survRunEnd_disagrees_early hy hconv hdone hrun hfirst hdiffers hcount) rfl rfl
      · intro hcount
        obtain ⟨regs, hend, htender, hflags, hfailures⟩ :=
          Core.survRunEnd_disagrees_third hy hconv hdone hrun hfirst hsmall hdiffers hcount
        have hreport := State.does_pulse (f := (·.survRunEnd v n)) hlive hend rfl
        exact ⟨_, hreport, rfl, rfl, rfl, rfl, htender, hflags, hfailures, rfl⟩

end Sys2Proof.Machine
end
